-- ==== Sys2Proof/Word.lean ====
section
/-! DEFINITION. The widths of the VK-620's buses (00_scope.md, Pins and Conventions). -/

namespace Sys2Proof

/-- A 32-bit word, as both buses carry it. -/
abbrev Word := BitVec 32

/-- An 8-bit byte, the smallest unit an address names. -/
abbrev Byte := BitVec 8

/-- The address of an aligned word: a 24-bit byte address less its two lowest bits. -/
abbrev WordAddr := BitVec 22

/-- A 24-bit timestamp of the capture timer; differences wrap modulo 2^24. -/
abbrev Stamp := BitVec 24

end Sys2Proof
end

