-- ==== Sys2Proof/Syntax.lean ====
section
/-! DEFINITION. The commands the VK-620 takes: one constructor per row of spec/opcode_table.json. -/

namespace Sys2Proof

/-- Which lanes of a word an access names. Every access is a byte, a halfword or a word, naturally
aligned (00_scope.md, Addresses and accesses), so a word address and one of these name every access
there is, and no misaligned one (log 9). -/
inductive Lanes where
  | word
  /-- Bits 15:0, or bits 31:16 where `high` holds (R182). -/
  | half (high : Bool)
  /-- The byte lane k, bits 8k+7 to 8k (R182). -/
  | byte (k : Fin 4)
  deriving DecidableEq, Repr

/-- The commands. `data` is the 32-bit bus as driven, each byte in its lane (R182). A command that is
a system-side access is its arrival; what it does is decided at its turn (R1). Where a row pins the
word it addresses, the address follows from the straps or the window table (log 10). -/
inductive Instr where
  /-- RESET_ASSERT (R3). -/
  | resetAssert
  /-- RESET_RELEASE (R3), with the straps as PATH samples them. -/
  | resetRelease (setupSel : BitVec 4) (autostart : Bool)
  /-- START (R25): a word write of START to the control word. -/
  | start
  /-- STOP (R25, R35): a word write of STOP to the control word. -/
  | stop
  /-- NONE (R25): a word write of NONE to the control word. -/
  | noneCommand
  /-- UNKNOWN_COMMAND (R25): a word write of any other value to the control word. -/
  | unknownCommand (value : Word)
  /-- LOAD_STATUS_WRITE (R5): a write of any size to the load status word. -/
  | loadStatusWrite (lanes : Lanes) (data : Word)
  /-- SETUP_WRITE (R37 to R39): a write to one of the other 126 words of the setup block. -/
  | setupWrite (offset : BitVec 7) (lanes : Lanes) (data : Word)
  /-- TOOTH_WRITE (R42): a write to the TOOTH window. -/
  | toothWrite (addr : WordAddr) (lanes : Lanes) (data : Word)
  /-- KNOCK_WRITE (R45): a write to a knock ring. -/
  | knockWrite (addr : WordAddr) (lanes : Lanes) (data : Word)
  /-- IGN_CUT (R49): a word write of an IGN_CUT marker. -/
  | ignCut (mask : BitVec 16)
  /-- LOAD (R49): a word write of a LOAD marker. -/
  | load (band : BitVec 16)
  /-- SURFACE (R49): a word write of a SURFACE marker. -/
  | surface (level : BitVec 16)
  /-- SYNC_RESET (R50, R75): a word write of a SYNC_RESET marker of value 0. -/
  | syncReset
  /-- FREEZE (R50): a word write of a FREEZE marker of value 0. -/
  | freeze
  /-- MARKER_FAULT (R48): a write to the MARKER window of a wrong size, kind or value. -/
  | markerFault (lanes : Lanes) (data : Word)
  /-- FLAG_CLEAR (R11, R53): a write of any size to the flag-clear word. -/
  | flagClear (lanes : Lanes) (data : Word)
  /-- SLOT_RELEASE (R9, R160): a write to the ownership word of a queue slot. -/
  | slotRelease (slot : BitVec 6) (lanes : Lanes) (data : Word)
  /-- FRAME_RELEASE (R10, R177): a write to the frame ownership word. -/
  | frameRelease (lanes : Lanes) (data : Word)
  /-- PROTECTED_WRITE_DROP (R8, R10): a write to a word that protection guards. -/
  | protectedWriteDrop (addr : WordAddr) (lanes : Lanes) (data : Word)
  /-- PLAIN_WRITE (R4): a write that no window policy takes. -/
  | plainWrite (addr : WordAddr) (lanes : Lanes) (data : Word)
  /-- WORD0_READ (R12): a read of word 0 of the header or of a row. -/
  | word0Read (addr : WordAddr) (lanes : Lanes)
  /-- SNAPSHOT_READ (R13): a read of words 1 to 7 of the header or of a row. -/
  | snapshotRead (addr : WordAddr) (lanes : Lanes)
  /-- FORWARDED_ACCESS_DONE (R4): the RAM drives ready for a forwarded system access. -/
  | forwardedAccessDone
  /-- LOADER_READ_DONE (R26): the RAM drives ready for one of LOADER's reads. -/
  | loaderReadDone
  /-- REPORT_WRITE_DONE (R19): the RAM drives ready for a report writer's word. -/
  | reportWriteDone
  /-- FREEZE_WRITE_DONE (R176): the RAM drives ready for a freeze writer's word. -/
  | freezeWriteDone
  /-- TOOTH_RECORD_TAKE (R58): CRANK takes the record at the head of the tooth FIFO. -/
  | toothRecordTake
  /-- STALL_EXPIRY (R76): the stall timer reaches `stall_timeout`. -/
  | stallExpiry
  deriving DecidableEq, Repr

end Sys2Proof
end

