-- ==== Sys2Proof/Decode.lean ====
section
/-! DEFINITION. The commands that words spell by spec/opcode_table.json: none, since no row gives bits (log 22). -/

namespace Sys2Proof

/-- The command that a word of `nbits` bits spells by the table's bits. Every row of the table has an
empty list of fields and no fixed bits, so no word spells a command. -/
def decodeTableWord (_nbits _w : Nat) : Option Instr := none

end Sys2Proof
end

