-- ==== Sys2Proof/Config.lean ====
section
/-! DEFINITION. What silicon revision 1 of derivative 0x0620 fixes, and the one value the model names for RAM. -/

namespace Sys2Proof.Config

/-- What a byte of RAM reads as when nothing has written it.
DESIGN CHOICE (log 4), unsafe: the spec says nothing of the RAM at power-on. -/
def unlistedByte : Byte := 0

/-- The constant of the setup marker word (R27, R187). -/
def setupMarker : Word := 0x56430620

/-- The number of tooth records the tooth FIFO holds (R43). -/
def fifoDepth : Nat := 8

/-- The number of words of the setup block (R2). -/
def setupWords : Nat := 128

/-- The code of READY in an ownership word (R192). -/
def readyCode : Nat := 0xA5

/-- The ownership word EMPTY (R192). -/
def emptyWord : Word := 0

/-- The first queue slot's word index in the REPORT window (R8). -/
def firstSlotWord : Nat := 72

/-- The number of words of a cycle record in a freeze frame (R10, R194). -/
def cycleRecordWords : Nat := 17

/-- The number of words before the cycle records of a freeze frame (R10). -/
def frameHeaderWords : Nat := 8

end Sys2Proof.Config
end

