-- ==== Sys2Proof/Machine/State.lean ====
section
/-! DEFINITION. The state of the VK-620 block by block, as plain data, and its value after reset. -/

namespace Sys2Proof.Machine

/-! ### Accesses and the buses -/

/-- The direction of an access, with a write's data as driven on the bus, each byte in its lane (R182). -/
inductive Dir where
  | read
  | write (data : Word)
  deriving DecidableEq, Repr

/-- One single-transfer access, on either port (00_scope.md, Addresses and accesses). -/
structure Access where
  addr : WordAddr
  lanes : Lanes
  dir : Dir
  deriving DecidableEq, Repr

/-- The four claimants of the memory-side port (R14). -/
inductive Claimant where
  | system
  | report
  | loader
  | freeze
  deriving DecidableEq, Repr

/-- The memory-side access in progress: who was granted it and what the port drives.
`live` is false where RESET was asserted since the grant: the access still completes whole (R3), and
its claimant is not told (log 18). -/
structure PortUse where
  user : Claimant
  access : Access
  live : Bool
  deriving DecidableEq, Repr

/-- The outcomes of a system-side access (section 1.1). A forward and take ends as a forward does. -/
inductive Ending where
  | forwarded
  | answered
  | dropped
  | consumed
  deriving DecidableEq, Repr

/-- How a system-side access ended, and the data the masters saw on its lanes (a write: its own). -/
structure Completion where
  access : Access
  ending : Ending
  data : Word
  deriving DecidableEq, Repr

/-! ### PATH and LOADER -/

/-- The two knock sensors. -/
inductive Sensor where
  | A
  | B
  deriving DecidableEq, Repr

/-- One value per knock sensor. -/
structure PerSensor (α : Type) where
  a : α
  b : α
  deriving DecidableEq, Repr

/-- PATH's copy of the window fields (R2). Bases are byte addresses, knock sizes are in halfwords and the
other sizes in words. While the table is INVALID it keeps its contents (R134). -/
structure WindowTable where
  valid : Bool
  toothBase : Nat
  toothSize : Nat
  knockBase : PerSensor Nat
  knockSize : PerSensor Nat
  markerBase : Nat
  reportBase : Nat
  reportSize : Nat
  freezeBase : Nat
  freezeSize : Nat
  queueCapacity : Nat
  frzPre : Nat
  frzPost : Nat
  arbBound : Nat
  deriving DecidableEq, Repr

/-- A record of the report area that the snapshot can hold: the header, or the row of cylinder `code` + 1 (R12). -/
inductive RecordTag where
  | header
  | row (code : Fin 8)
  deriving DecidableEq, Repr

/-- The snapshot (R12). Tag and words are meaningful only while `valid` holds. -/
structure Snapshot where
  valid : Bool
  tag : RecordTag
  words : Vector Word 8
  deriving DecidableEq, Repr

/-- PATH's state. -/
structure Path where
  /-- The SETUP_SEL straps as sampled at the release of RESET (R2). -/
  setupSel : BitVec 4
  /-- The AUTOSTART strap as sampled at the release of RESET (R3). -/
  autostart : Bool
  table : WindowTable
  /-- Protection on or off (R7). -/
  protection : Bool
  snapshot : Snapshot
  /-- The patience count, 0 to 15 (R16). -/
  patience : Nat
  /-- The pending system access that holds a claim and waits for its turn (R14). -/
  access : Option Access
  /-- The memory-side access in progress. -/
  port : Option PortUse
  /-- Accesses of masters that wait for the single-transfer system bus, first come first (log 1). -/
  bus : List Access
  /-- The last system-side access that ended (log 17). -/
  done : Option Completion
  deriving DecidableEq, Repr

/-- The operating states (section 2.2). -/
inductive OpState where
  | unconfigured
  | loading
  | running
  | stopping
  | stopped
  deriving DecidableEq, Repr

/-- The phases of LOADING (section 2.2). -/
inductive Phase where
  | reading
  | initialising
  deriving DecidableEq, Repr

/-- The result codes of the load result (R24). -/
inductive ResultCode where
  | none
  | ok
  | badMarker
  | badChecksum
  | badGeometry
  | badWindows
  | badMisfire
  | badKnock
  | badQueue
  | badFreeze
  | refused
  | unknownCommand
  deriving DecidableEq, Repr

/-- The setup shadow (R22). -/
abbrev Shadow := Vector Word 128

/-- LOADER's state. `phase` is meaningful in LOADING alone; `readsDone` counts the reads of the load
that have ended (R14, R26), 128 where none is left. -/
structure Loader where
  op : OpState
  phase : Phase
  readsDone : Nat
  result : ResultCode
  /-- The failing offset, 0 to 127 (R24). -/
  offset : Nat
  shadow : Shadow
  deriving DecidableEq, Repr

/-! ### TAP -/

/-- A ring's alignment state and expected index (R42, R46). -/
structure RingIndex where
  aligned : Bool
  expected : Nat
  deriving DecidableEq, Repr

/-- The kinds of a tooth record (R41). -/
inductive ToothKind where
  | crank
  | camRise
  | camFall
  deriving DecidableEq, Repr

/-- The loss note of a tooth record, and TAP's pending loss note (R44). -/
inductive LossNote where
  | none
  | skip
  | overrun
  deriving DecidableEq, Repr

/-- A tooth record (R41). -/
structure ToothRecord where
  stamp : Stamp
  kind : ToothKind
  note : LossNote
  deriving DecidableEq, Repr

/-- The ten sticky flags (R51), in the order of their places in the header word (R189). -/
inductive Flag where
  | size
  | format
  | toothSkip
  | overrun
  | knockSkipA
  | knockSkipB
  | marker
  | setupRefused
  | protect
  | queueDropped
  deriving DecidableEq, Repr

/-- TAP's state (R54). The flags stand at their places of the flag-clear mask (R189). -/
structure Tap where
  tooth : RingIndex
  knock : PerSensor RingIndex
  fifo : List ToothRecord
  note : LossNote
  cut : BitVec 8
  load : BitVec 2
  surface : BitVec 2
  flags : BitVec 10
  deriving DecidableEq, Repr

/-! ### CRANK -/

/-- The sync states (R57). -/
inductive SyncState where
  | stopped
  | hunt
  | verify
  | crankSync
  | phased
  deriving DecidableEq, Repr

/-- The stall timer: HALTED, or RUNNING with its elapsed time in units of 0.1 ms (R57, R76). -/
inductive StallTimer where
  | halted
  | running (elapsed : Nat)
  deriving DecidableEq, Repr

/-- CRANK's state (R57). An absent timestamp or reference period is the spec's own state. -/
structure Crank where
  sync : SyncState
  tPrev : Option Stamp
  pPrev : Option Nat
  position : Nat
  glitch : Nat
  verify : Nat
  confirmed : Nat
  unphased : Nat
  noCam : Bool
  spanEdges : Nat
  spanError : Bool
  camRun : Nat
  cycle : BitVec 32
  stall : StallTimer
  deriving DecidableEq, Repr

/-! ### SEG and the history ring -/

/-- The segment classes (R90), NONE included (R103). -/
inductive SegClass where
  | none
  | cut
  | warmup
  | rough
  | shadow
  | transient
  | misfire
  | fired
  deriving DecidableEq, Repr

/-- The knock window classes (R118, R123), NONE included (R103). -/
inductive KnockClass where
  | none
  | invalid
  | cut
  | short
  | impact
  | learn
  | quiet
  | knock
  | heavy
  | notCovered
  deriving DecidableEq, Repr

/-- One firing position's results in a cycle record (R103). -/
structure PositionResult where
  time : Nat
  segClass : SegClass
  metric : Int
  ratio : Nat
  knockClass : KnockClass
  deriving DecidableEq, Repr

/-- The states of a history record (R103). -/
inductive RecordState where
  | empty
  | opened
  | closed
  | final
  deriving DecidableEq, Repr

/-- A cycle record of the history ring (R103). -/
structure CycleRecord where
  state : RecordState
  cycle : BitVec 32
  resync : Bool
  positions : Vector PositionResult 8
  deriving DecidableEq, Repr

/-- The open segment (R79, R83). -/
structure OpenSegment where
  position : Nat
  start : Stamp
  cut : Bool
  record : Option (Fin 24)
  deriving DecidableEq, Repr

/-- An entry of the segment list (R86). -/
structure SegEntry where
  time : Nat
  segClass : SegClass
  deriving DecidableEq, Repr

/-- SEG's state (R79). `last` is the most recently opened record of the ring (R104). -/
structure Seg where
  openSeg : Option OpenSegment
  list : List SegEntry
  warmup : Nat
  holdoff : Nat
  rpm : Nat
  resync : Bool
  starts : Vector (Option (Fin 24)) 8
  ring : Vector CycleRecord 24
  last : Option (Fin 24)
  deriving DecidableEq, Repr

/-! ### KNOCK -/

/-- A sensor part of the open window (R108). -/
structure SensorPart where
  accumulator : Nat
  count : Nat
  tainted : Bool
  deriving DecidableEq, Repr

/-- The open knock window (R108). A sensor that does not cover the position has no part. -/
structure KnockWindow where
  position : Nat
  cylinder : Nat
  cut : Bool
  parts : PerSensor (Option SensorPart)
  deriving DecidableEq, Repr

/-- KNOCK's state (R108). A background that is `none` is UNSEEDED. -/
structure Knock where
  bias : PerSensor Int
  suspended : PerSensor Bool
  background : PerSensor (Vector (Option Nat) 8)
  openWin : Option KnockWindow
  deriving DecidableEq, Repr

/-! ### RATE -/

/-- The misfire states of a cylinder (R132, R141). -/
inductive MisfireState where
  | clean
  | suspect
  | misfiring
  deriving DecidableEq, Repr

/-- The knock states of a cylinder (R132, R142). -/
inductive KnockState where
  | normal
  | light
  | heavy
  deriving DecidableEq, Repr

/-- The misfire levels of a closed rating window (R139). -/
inductive MisfireLevel where
  | none
  | low
  | mid
  | high
  deriving DecidableEq, Repr

/-- The knock levels of a closed rating window (R140). -/
inductive KnockLevel where
  | none
  | normal
  | light
  | heavy
  deriving DecidableEq, Repr

/-- A cylinder row (R132). `code` is the cylinder number less one (R190). -/
structure Row where
  seq : BitVec 16
  code : BitVec 3
  misfireState : MisfireState
  faultRun : Bool
  cleanRun : Bool
  knockState : KnockState
  misfireLevel : MisfireLevel
  knockLevel : KnockLevel
  evaluated : Nat
  misfires : Nat
  knockEvaluated : Nat
  knockCount : Nat
  heavyCount : Nat
  impactCount : Nat
  totalMisfires : Nat
  lastMetric : Option Int
  lastSegClass : SegClass
  lastRatio : Option Nat
  lastKnockClass : KnockClass
  misfireRate : Option Nat
  knockRate : Option Nat
  heavyRate : Option Nat
  background : PerSensor (Option Nat)
  deriving DecidableEq, Repr

/-- The freeze states (R168). -/
inductive FreezeState where
  | idle
  | armed
  | collecting
  | writing
  | held
  deriving DecidableEq, Repr

/-- The status header (R133). -/
structure Header where
  seq : BitVec 16
  op : OpState
  sync : SyncState
  cycle : BitVec 32
  rpm : Nat
  cut : BitVec 8
  load : BitVec 2
  surface : BitVec 2
  flags : BitVec 10
  producer : Nat
  freeze : FreezeState
  deriving DecidableEq, Repr

/-- RATE's state (R130). -/
structure Rate where
  cycles : Nat
  wcur : Nat
  rows : Vector Row 8
  header : Header
  deriving DecidableEq, Repr

/-! ### Events, EVQ and FRZ -/

/-- The thirteen event kinds (R151). -/
inductive EventKind where
  | misfire
  | knock
  | impact
  | misfireState
  | knockState
  | syncGained
  | syncLost
  | stall
  | streamFault
  | camFault
  | phaseLost
  | setupRefused
  | freezeReady
  deriving DecidableEq, Repr

/-- A slot's state in EVQ, with the slot kind where it has one (R150). -/
inductive SlotState where
  | free
  | filling (kind : EventKind)
  | ready (kind : EventKind)
  deriving DecidableEq, Repr

/-- A pin level or the polarity of ALERT (R163). -/
inductive Level where
  | low
  | high
  deriving DecidableEq, Repr

/-- EVQ's state (R150). `alertMask` is the mask in force in EVQ (R162). -/
structure Evq where
  slots : List SlotState
  producer : Nat
  seq : BitVec 16
  dropped : Nat
  polarity : Level
  /-- The alert state: true for ACTIVE (R162). -/
  alert : Bool
  alertMask : BitVec 16
  deriving DecidableEq, Repr

/-- The modes of FRZ (R32). -/
inductive FreezeMode where
  | off
  | oneShot
  | rearm
  deriving DecidableEq, Repr

/-- The kind of a freeze trigger (R168). -/
inductive TriggerKind where
  | event (kind : EventKind)
  | manual
  deriving DecidableEq, Repr

/-- The trigger fields of FRZ (R168). A `cylinder` that is `none` is the spec's "none". -/
structure Trigger where
  kind : TriggerKind
  cylinder : Option Nat
  cycle : BitVec 32
  deriving DecidableEq, Repr

/-- A word of a frame still to be written: its index in the FREEZE window and its value (R175). -/
structure FrameWord where
  index : Nat
  value : Word
  deriving DecidableEq, Repr

/-- FRZ's state with the freeze writer's list (R168). `mode` is the mode in force in FRZ (R177). -/
structure Frz where
  state : FreezeState
  trigger : Option Trigger
  pre : Nat
  post : Nat
  truncated : Bool
  buffer : List CycleRecord
  missed : Nat
  writeList : List FrameWord
  mode : FreezeMode
  deriving DecidableEq, Repr

/-! ### RPW -/

/-- The kinds of request of the report writer (R18). An EVENT request carries its eight words in the order
they are written: body words 1 to 7, then the ownership word (R19). -/
inductive RequestKind where
  | row (code : Fin 8)
  | header
  | event (slot : Nat) (words : Vector Word 8)
  | slotEmpty (slot : Nat)
  | frameEmpty
  | controlNone
  | loadStatus
  deriving DecidableEq, Repr

/-- A request in the list: begun once `granted` is above 0 (R18). `initial` marks an initialisation
request of R33, which LOADER waits for. -/
structure Request where
  kind : RequestKind
  granted : Nat
  initial : Bool
  deriving DecidableEq, Repr

/-! ### The whole part -/

/-- The blocks other than PATH and LOADER, which take their START values together (R26, R33), and the report
writer's list. -/
structure Blocks where
  tap : Tap
  crank : Crank
  seg : Seg
  knock : Knock
  rate : Rate
  evq : Evq
  frz : Frz
  rpw : List Request
  deriving DecidableEq, Repr

/-- The static RAM behind the memory-side port: its cells in canonical form (addresses strictly rising, no
cell equal to `Config.unlistedByte`). -/
abbrev Ram := List Host.Cell

/-- The state of the part, the RAM behind it, and the queue of commands. -/
structure State where
  /-- RESET is asserted. -/
  resetPin : Bool
  path : Path
  loader : Loader
  blocks : Blocks
  ram : Ram
  /-- The commands that wait, first in first out. -/
  pending : List Instr
  deriving DecidableEq, Repr

/-- The reasons to stop with a fault: none. The spec lets no access, no record and no load stop the part.
Raised by nobody; safe. -/
inductive Fault where
  deriving DecidableEq, Repr

/-- The reasons to refuse a command. -/
inductive Refusal where
  /-- A command without a meaning in this model. Raised by an arm of `exec` that has none (there is no such
  arm); safe. -/
  | notModelled (mnemonic : String)
  deriving DecidableEq, Repr

/-! ### The values at the release of RESET -/

/-- The window table at the release of RESET: INVALID (R2). Its contents are a DESIGN CHOICE (log 7). -/
def WindowTable.reset : WindowTable :=
  { valid := false, toothBase := 0, toothSize := 0, knockBase := ⟨0, 0⟩, knockSize := ⟨0, 0⟩, markerBase := 0,
    reportBase := 0, reportSize := 0, freezeBase := 0, freezeSize := 0, queueCapacity := 0, frzPre := 0,
    frzPost := 0, arbBound := 0 }

/-- The snapshot at the release of RESET: INVALID (R12). Tag and words are a DESIGN CHOICE (log 7). -/
def Snapshot.reset : Snapshot := { valid := false, tag := .header, words := Vector.replicate 8 0 }

/-- LOADER at the release of RESET (R22, R24). Phase and reads are a DESIGN CHOICE (log 7). -/
def Loader.reset : Loader :=
  { op := .unconfigured, phase := .reading, readsDone := Config.setupWords, result := .none, offset := 0,
    shadow := Vector.replicate 128 0 }

/-- TAP at the release of RESET and at a START (R54, R56). -/
def Tap.reset : Tap :=
  { tooth := ⟨false, 0⟩, knock := ⟨⟨false, 0⟩, ⟨false, 0⟩⟩, fifo := [], note := .none, cut := 0, load := 0,
    surface := 0, flags := 0 }

/-- CRANK at the release of RESET and at a START (R57). -/
def Crank.reset : Crank :=
  { sync := .stopped, tPrev := none, pPrev := none, position := 0, glitch := 0, verify := 0, confirmed := 0,
    unphased := 0, noCam := false, spanEdges := 0, spanError := false, camRun := 0, cycle := 0,
    stall := .halted }

/-- A position of a cycle record with no result (R103, R104). -/
def PositionResult.empty : PositionResult :=
  { time := 0, segClass := .none, metric := 0, ratio := 0, knockClass := .none }

/-- An EMPTY record of the ring (R103). Its other fields have no meaning: DESIGN CHOICE (log 7). -/
def CycleRecord.empty : CycleRecord :=
  { state := .empty, cycle := 0, resync := false, positions := Vector.replicate 8 PositionResult.empty }

/-- SEG at the release of RESET and at a START (R79). -/
def Seg.reset : Seg :=
  { openSeg := none, list := [], warmup := 0, holdoff := 0, rpm := 0, resync := false,
    starts := Vector.replicate 8 none, ring := Vector.replicate 24 CycleRecord.empty, last := none }

/-- KNOCK at the release of RESET and at a START (R108). -/
def Knock.reset : Knock :=
  { bias := ⟨0, 0⟩, suspended := ⟨false, false⟩,
    background := ⟨Vector.replicate 8 none, Vector.replicate 8 none⟩, openWin := none }

/-- The start contents of the row of the cylinder with this code (R132). With code 0 it encodes as zero in
every word (R191), so it also stands for the row of a cylinder number above ncyl. -/
def Row.start (code : BitVec 3) : Row :=
  { seq := 0, code := code, misfireState := .clean, faultRun := false, cleanRun := false,
    knockState := .normal, misfireLevel := .none, knockLevel := .none, evaluated := 0, misfires := 0,
    knockEvaluated := 0, knockCount := 0, heavyCount := 0, impactCount := 0, totalMisfires := 0,
    lastMetric := none, lastSegClass := .none, lastRatio := none, lastKnockClass := .none,
    misfireRate := none, knockRate := none, heavyRate := none, background := ⟨none, none⟩ }

/-- The header at the release of RESET (R148). -/
def Header.reset : Header :=
  { seq := 0, op := .unconfigured, sync := .stopped, cycle := 0, rpm := 0, cut := 0, load := 0, surface := 0,
    flags := 0, producer := 0, freeze := .idle }

/-- RATE at the release of RESET (R130, R148): every row zero in every word. -/
def Rate.reset : Rate :=
  { cycles := 0, wcur := 0, rows := Vector.replicate 8 (Row.start 0), header := Header.reset }

/-- EVQ at the release of RESET (R150). The mask in force is a DESIGN CHOICE (log 7). -/
def Evq.reset : Evq :=
  { slots := [], producer := 0, seq := 0, dropped := 0, polarity := .low, alert := false, alertMask := 0 }

/-- FRZ at the release of RESET (R168). The mode in force is a DESIGN CHOICE (log 7). -/
def Frz.reset : Frz :=
  { state := .idle, trigger := none, pre := 0, post := 0, truncated := false, buffer := [], missed := 0,
    writeList := [], mode := .off }

/-- The blocks other than PATH and LOADER at the release of RESET, the report writer's list empty (R3). -/
def Blocks.reset : Blocks :=
  { tap := Tap.reset, crank := Crank.reset, seg := Seg.reset, knock := Knock.reset, rate := Rate.reset,
    evq := Evq.reset, frz := Frz.reset, rpw := [] }

/-- PATH at the release of RESET (R3) with the straps given, no access on either port. -/
def Path.reset (setupSel : BitVec 4) (autostart : Bool) : Path :=
  { setupSel := setupSel, autostart := autostart, table := WindowTable.reset, protection := false,
    snapshot := Snapshot.reset, patience := 0, access := none, port := none, bus := [], done := none }

/-- The machine right after a release of RESET with SETUP_SEL 0 and AUTOSTART low, both buses idle (log 6)
and RAM with nothing written (log 4). -/
def State.reset : State :=
  { resetPin := false, path := Path.reset 0 false, loader := Loader.reset, blocks := Blocks.reset, ram := [],
    pending := [] }

end Sys2Proof.Machine
end

