-- ==== Sys2Proof/Machine/Operands.lean ====
section
/-! DEFINITION. The forms of an access: lanes, byte enables, merging, byte addresses (R182), and bit fields. -/

namespace Sys2Proof.Machine

/-- The field of `n` bits from bit `lo` up, as an unsigned number (R182). -/
def bitField (w : Word) (lo n : Nat) : Nat := (w.toNat >>> lo) % 2 ^ n

/-- The byte in lane k (R182). -/
def laneByte (w : Word) (k : Nat) : Byte := BitVec.ofNat 8 (bitField w (8 * k) 8)

/-- The lanes an access enables, lowest first. -/
def enabledLanes : Lanes → List Nat
  | .word => [0, 1, 2, 3]
  | .half false => [0, 1]
  | .half true => [2, 3]
  | .byte k => [k.val]

/-- The word with 1 in every bit of an enabled lane. -/
def laneMask : Lanes → Word
  | .word => 0xFFFFFFFF
  | .half false => 0x0000FFFF
  | .half true => 0xFFFF0000
  | .byte k => BitVec.ofNat 32 (0xFF * 2 ^ (8 * k.val))

/-- The size of an access in bytes. -/
def sizeBytes : Lanes → Nat
  | .word => 4
  | .half _ => 2
  | .byte _ => 1

/-- The offset in its word of the lowest byte an access names. -/
def lowestLane : Lanes → Nat
  | .word => 0
  | .half false => 0
  | .half true => 2
  | .byte k => k.val

/-- A word with its enabled bytes replaced by those of `new` (R22, R39). -/
def mergeLanes (old new : Word) (l : Lanes) : Word :=
  (old &&& ~~~(laneMask l)) ||| (new &&& laneMask l)

/-- The byte address of an access. -/
def byteAddr (a : Access) : Nat := 4 * a.addr.toNat + lowestLane a.lanes

/-- The halfword in bits 15:0 (low) or 31:16 (high) as a signed number (R185). -/
def signedHalf (w : Word) (high : Bool) : Int :=
  (BitVec.ofNat 16 (bitField w (if high then 16 else 0) 16)).toInt

/-- The word address of a byte address: its low two bits and all bits above bit 23 fall away. -/
def wordAddrOf (byte : Nat) : WordAddr := BitVec.ofNat 22 (byte / 4)

/-- The value of one of two sensors. -/
def PerSensor.get {α : Type} (p : PerSensor α) : Sensor → α
  | .A => p.a
  | .B => p.b

/-- The pair with one sensor's value replaced. -/
def PerSensor.set {α : Type} (p : PerSensor α) (x : Sensor) (v : α) : PerSensor α :=
  match x with
  | .A => { p with a := v }
  | .B => { p with b := v }

end Sys2Proof.Machine
end

