-- ==== Sys2Proof/Machine/Setup.lean ====
section
/-! DEFINITION. The setup block: its fields (R187), classes (R23) and validation (R27 to R32, R39). -/

namespace Sys2Proof.Machine

/-- A way to read the words of a setup block by offset. -/
abbrev Reader := Nat → Word

/-- The shadow's word at an offset. -/
def shadowWord (sh : Shadow) (i : Nat) : Word := sh[i]?.getD 0

/-! ### The fields, at the places R187 gives them -/

def fNcyl (r : Reader) : Nat := bitField (r 4) 0 8
def fTeethN (r : Reader) : Nat := bitField (r 4) 8 8
def fMissingM (r : Reader) : Nat := bitField (r 4) 16 8
def fConfirmRevs (r : Reader) : Nat := bitField (r 4) 24 8
/-- The `firing_order` entry of firing position k. -/
def fFiringOrder (r : Reader) (k : Nat) : Nat := bitField (r (5 + k / 4)) (8 * (k % 4)) 8
def fTdcRef (r : Reader) : Nat := bitField (r 7) 0 16
def fSegOffset (r : Reader) : Nat := bitField (r 7) 16 16
def fTickNs (r : Reader) : Nat := bitField (r 8) 0 16
def fStallTimeout (r : Reader) : Nat := bitField (r 8) 16 16
def fCamLo (r : Reader) : Nat := bitField (r 9) 0 8
def fCamHi (r : Reader) : Nat := bitField (r 9) 8 8
def fCamEdge (r : Reader) : Nat := bitField (r 9) 16 8
def fPhaseTimeoutRevs (r : Reader) : Nat := bitField (r 9) 24 8
def fGapMin (r : Reader) : Nat := bitField (r 10) 0 8
def fGapMax (r : Reader) : Nat := bitField (r 10) 8 8
def fGlitchMin (r : Reader) : Nat := bitField (r 10) 16 8
def fGlitchLimit (r : Reader) : Nat := bitField (r 10) 24 8
def fArbBound (r : Reader) : Nat := bitField (r 11) 0 8
def fAlertPolarity (r : Reader) : Nat := bitField (r 11) 8 8
def fToothBase (r : Reader) : Nat := (r 12).toNat
def fToothSize (r : Reader) : Nat := (r 13).toNat
def fKnockABase (r : Reader) : Nat := (r 14).toNat
def fKnockASize (r : Reader) : Nat := (r 15).toNat
def fKnockBBase (r : Reader) : Nat := (r 16).toNat
def fKnockBSize (r : Reader) : Nat := (r 17).toNat
def fMarkerBase (r : Reader) : Nat := (r 18).toNat
def fReportBase (r : Reader) : Nat := (r 19).toNat
def fReportSize (r : Reader) : Nat := (r 20).toNat
def fFreezeBase (r : Reader) : Nat := (r 21).toNat
def fFreezeSize (r : Reader) : Nat := (r 22).toNat
def fKwStart (r : Reader) : Nat := bitField (r 23) 0 8
def fKwWidth (r : Reader) : Nat := bitField (r 23) 8 8
def fKnockMinSamples (r : Reader) : Nat := bitField (r 23) 16 8
def fSensAFirst (r : Reader) : Nat := bitField (r 24) 0 8
def fSensALast (r : Reader) : Nat := bitField (r 24) 8 8
def fSensBFirst (r : Reader) : Nat := bitField (r 24) 16 8
def fSensBLast (r : Reader) : Nat := bitField (r 24) 24 8
def fQueueCapacity (r : Reader) : Nat := bitField (r 25) 0 8
def fFrzPre (r : Reader) : Nat := bitField (r 25) 8 8
def fFrzPost (r : Reader) : Nat := bitField (r 25) 16 8
/-- The `thr_map` entry of an rpm band and a load band. -/
def fThrMap (r : Reader) (band load : Nat) : Nat := bitField (r (32 + 2 * band + load / 2)) (16 * (load % 2)) 16
/-- The `rpm_edges` entry i, 1 to 7. -/
def fRpmEdge (r : Reader) (i : Nat) : Nat := bitField (r (48 + (i - 1) / 2)) (16 * ((i - 1) % 2)) 16
/-- The `surf_scale` of a surface level, 0 to 2. -/
def fSurfScale (r : Reader) (level : Nat) : Nat := bitField (r 52) (8 * level) 8
def fTransientLimit (r : Reader) : Nat := bitField (r 53) 0 16
def fHoldoffCycles (r : Reader) : Nat := bitField (r 53) 16 8
def fShadowEnable (r : Reader) : Nat := bitField (r 53) 24 8
def fRateWindow (r : Reader) : Nat := bitField (r 54) 0 16
def fSuspectLimit (r : Reader) : Nat := bitField (r 55) 0 16
def fFaultLimit (r : Reader) : Nat := bitField (r 56) 0 16
def fKnockThr (r : Reader) : Nat := bitField (r 57) 0 16
def fHeavyThr (r : Reader) : Nat := bitField (r 58) 0 16
def fImpactCeiling (r : Reader) : Nat := bitField (r 59) 0 16
def fBgShift (r : Reader) : Nat := bitField (r 59) 16 8
def fBiasShift (r : Reader) : Nat := bitField (r 59) 24 8
def fLightRate (r : Reader) : Nat := bitField (r 60) 0 16
def fHeavyRate (r : Reader) : Nat := bitField (r 61) 0 16
def fEventMask (r : Reader) : BitVec 16 := BitVec.ofNat 16 (bitField (r 62) 0 16)
def fAlertMask (r : Reader) : BitVec 16 := BitVec.ofNat 16 (bitField (r 62) 16 16)
def fFreezeTriggerMask (r : Reader) : BitVec 16 := BitVec.ofNat 16 (bitField (r 63) 0 16)
def fFreezeMode (r : Reader) : Nat := bitField (r 64) 0 8

/-- L, the positions of a segment: 2N / ncyl (section 2.4). -/
def segmentLength (r : Reader) : Nat := 2 * fTeethN r / fNcyl r

/-- A position of the engine cycle that has no tooth: N-m to N-1 and 2N-m to 2N-1 (R28). -/
def missingPosition (r : Reader) (p : Nat) : Bool :=
  p % fTeethN r + fMissingM r ≥ fTeethN r

/-- The compression TDC of firing position k (R81). -/
def tdcPosition (r : Reader) (k : Nat) : Nat := (fTdcRef r + k * segmentLength r) % (2 * fTeethN r)

/-- The segment boundary B_k (section 4.5, R81). -/
def segmentBoundary (r : Reader) (k : Nat) : Nat :=
  (fTdcRef r + k * segmentLength r + fSegOffset r) % (2 * fTeethN r)

/-- The knock window open O_k (section 4.5, R110). -/
def windowOpen (r : Reader) (k : Nat) : Nat :=
  (fTdcRef r + k * segmentLength r + fKwStart r) % (2 * fTeethN r)

/-- The knock window close C_k (section 4.5, R110). -/
def windowClose (r : Reader) (k : Nat) : Nat :=
  (fTdcRef r + k * segmentLength r + fKwStart r + fKwWidth r) % (2 * fTeethN r)

/-- The `freeze_mode` a field value names; validation admits 0 to 2 alone (R187). -/
def freezeModeOf : Nat → FreezeMode
  | 0 => .off
  | 1 => .oneShot
  | _ => .rearm

/-- The `alert_polarity` a field value names; validation admits 0 and 1 alone (R187). -/
def polarityOf : Nat → Level
  | 0 => .low
  | _ => .high

/-! ### The checks -/

/-- One check of a validation group: the words that hold a field taking part in it, and the condition on
those words (R27). A range check whose bound is another field takes in that field's word (log 12). -/
structure Check where
  words : List Nat
  test : Reader → Bool

/-- A block as a check sees it: the words it names, and 0 elsewhere. -/
def checkReader (words : List Nat) (sh : Shadow) : Reader :=
  fun i => if words.contains i then shadowWord sh i else 0

/-- The check holds of a shadow. -/
def checkHolds (c : Check) (sh : Shadow) : Bool := c.test (checkReader c.words sh)

/-- A value lies in a range, both ends included. -/
def inRange (lo hi v : Nat) : Bool := lo ≤ v && v ≤ hi

/-- The first ncyl entries of `firing_order` are a permutation of 1..ncyl (R28). -/
def firingOrderGood (r : Reader) : Bool :=
  let entries := (List.range (fNcyl r)).map (fFiringOrder r)
  (List.range (fNcyl r)).all (fun i => entries.contains (i + 1))

/-- 2N is divisible by ncyl, so that L exists (R28). -/
def segmentsDivide (r : Reader) : Bool := fNcyl r != 0 && 2 * fTeethN r % fNcyl r == 0

/-- A condition on every firing position, made only where L exists (R28). -/
def everyPosition (r : Reader) (p : Nat → Bool) : Bool :=
  !segmentsDivide r || (List.range (fNcyl r)).all p

/-- The GEOMETRY group (R28). -/
def geometryChecks : List Check :=
  [ ⟨[4], fun r => inRange 2 8 (fNcyl r)⟩,
    ⟨[4, 5, 6], firingOrderGood⟩,
    ⟨[4], fun r => inRange 12 72 (fTeethN r)⟩,
    ⟨[4], fun r => inRange 1 3 (fMissingM r)⟩,
    ⟨[4, 7], fun r => fTdcRef r < 2 * fTeethN r⟩,
    ⟨[4, 7], fun r => !segmentsDivide r || fSegOffset r < segmentLength r⟩,
    ⟨[8], fun r => inRange 10 1000 (fTickNs r)⟩,
    ⟨[4, 9], fun r => fCamLo r < fTeethN r⟩,
    ⟨[4, 9], fun r => fCamHi r < fTeethN r⟩,
    ⟨[9], fun r => fCamEdge r ≤ 1⟩,
    ⟨[4], fun r => inRange 1 4 (fConfirmRevs r)⟩,
    ⟨[10], fun r => inRange 20 80 (fGapMin r)⟩,
    ⟨[10], fun r => inRange 20 80 (fGapMax r)⟩,
    ⟨[10], fun r => inRange 2 15 (fGlitchMin r)⟩,
    ⟨[10], fun r => inRange 1 7 (fGlitchLimit r)⟩,
    ⟨[9], fun r => inRange 2 8 (fPhaseTimeoutRevs r)⟩,
    ⟨[8], fun r => inRange 10 20000 (fStallTimeout r)⟩,
    ⟨[11], fun r => inRange 1 15 (fArbBound r)⟩,
    ⟨[11], fun r => fAlertPolarity r ≤ 1⟩,
    ⟨[4], fun r => fMissingM r + 8 ≤ fTeethN r⟩,
    ⟨[4], segmentsDivide⟩,
    ⟨[9], fun r => fCamLo r ≤ fCamHi r⟩,
    ⟨[10], fun r => fGapMin r < fGapMax r⟩,
    ⟨[4, 7], fun r => everyPosition r (fun k => !missingPosition r (segmentBoundary r k))⟩ ]

/-- Two address ranges share no address; a range of 0 bytes has none. -/
def apart (base1 bytes1 base2 bytes2 : Nat) : Bool :=
  bytes1 == 0 || bytes2 == 0 || base1 + bytes1 ≤ base2 || base2 + bytes2 ≤ base1

/-- A window as the WINDOWS group sees it: its words, its base, its size in bytes, and whether it is present. -/
structure WindowFields where
  words : List Nat
  base : Reader → Nat
  bytes : Reader → Nat
  present : Reader → Bool

/-- The six address windows, of which KNOCK_B alone may be absent, by a size of 0 (R29). -/
def windowFields : List WindowFields :=
  [ ⟨[12, 13], fToothBase, fun r => 4 * fToothSize r, fun _ => true⟩,
    ⟨[14, 15], fKnockABase, fun r => 2 * fKnockASize r, fun _ => true⟩,
    ⟨[16, 17], fKnockBBase, fun r => 2 * fKnockBSize r, fun r => fKnockBSize r != 0⟩,
    ⟨[18], fMarkerBase, fun _ => 4, fun _ => true⟩,
    ⟨[19, 20], fReportBase, fun r => 4 * fReportSize r, fun _ => true⟩,
    ⟨[21, 22], fFreezeBase, fun r => 4 * fFreezeSize r, fun _ => true⟩ ]

/-- A condition on a window, made only where the window is present (R29). -/
def ifPresent (w : WindowFields) (test : Reader → Bool) (r : Reader) : Bool := !w.present r || test r

/-- The checks of one window (R29): its base is a multiple of 4, it ends at or below address 0xFFFFFF, and it
shares no address with the setup block. -/
def windowChecks (setupBase : Nat) (w : WindowFields) : List Check :=
  [ ⟨w.words, ifPresent w (fun r => w.base r % 4 == 0)⟩,
    ⟨w.words, ifPresent w (fun r => w.base r + w.bytes r ≤ 0x1000000)⟩,
    ⟨w.words, ifPresent w (fun r => apart (w.base r) (w.bytes r) setupBase (4 * Config.setupWords))⟩ ]

/-- The check that two present windows share no address (R29). -/
def apartCheck (v w : WindowFields) : Check :=
  ⟨v.words ++ w.words,
    ifPresent v (ifPresent w (fun r => apart (v.base r) (v.bytes r) (w.base r) (w.bytes r)))⟩

/-- The checks of every pair of a list of windows. -/
def pairChecks : List WindowFields → List Check
  | [] => []
  | v :: rest => rest.map (apartCheck v) ++ pairChecks rest

/-- The WINDOWS group (R29), with the setup block at `setupBase`. -/
def windowsChecks (setupBase : Nat) : List Check :=
  [ ⟨[13], fun r => inRange 16 4096 (fToothSize r)⟩,
    ⟨[15], fun r => inRange 16 8192 (fKnockASize r) && fKnockASize r % 2 == 0⟩,
    ⟨[17], fun r => fKnockBSize r == 0 || (inRange 16 8192 (fKnockBSize r) && fKnockBSize r % 2 == 0)⟩,
    ⟨[20], fun r => inRange 136 65536 (fReportSize r)⟩,
    ⟨[22], fun r => inRange 25 65536 (fFreezeSize r)⟩ ]
  ++ windowFields.flatMap (windowChecks setupBase) ++ pairChecks windowFields

/-- The `thr_map` checks of one word: both of its entries in range (R30). -/
def thrMapCheck (i : Nat) : Check :=
  ⟨[32 + i], fun r =>
    inRange 1 32767 (bitField (r (32 + i)) 0 16) && inRange 1 32767 (bitField (r (32 + i)) 16 16)⟩

/-- The MISFIRE group (R30). -/
def misfireChecks : List Check :=
  (List.range 16).map thrMapCheck ++
  [ ⟨[48], fun r => inRange 1 20000 (fRpmEdge r 1) && inRange 1 20000 (fRpmEdge r 2)⟩,
    ⟨[49], fun r => inRange 1 20000 (fRpmEdge r 3) && inRange 1 20000 (fRpmEdge r 4)⟩,
    ⟨[50], fun r => inRange 1 20000 (fRpmEdge r 5) && inRange 1 20000 (fRpmEdge r 6)⟩,
    ⟨[51], fun r => inRange 1 20000 (fRpmEdge r 7)⟩,
    ⟨[48, 49, 50, 51], fun r => (List.range 6).all (fun i => fRpmEdge r (i + 1) < fRpmEdge r (i + 2))⟩,
    ⟨[52], fun r => (List.range 3).all (fun i => inRange 8 64 (fSurfScale r i))⟩,
    ⟨[53], fun r => inRange 1 4095 (fTransientLimit r)⟩,
    ⟨[53], fun r => fHoldoffCycles r ≤ 15⟩,
    ⟨[53], fun r => fShadowEnable r ≤ 1⟩,
    ⟨[54], fun r => inRange 16 1024 (fRateWindow r)⟩,
    ⟨[55], fun r => inRange 1 1000 (fSuspectLimit r)⟩,
    ⟨[56], fun r => inRange 1 1000 (fFaultLimit r)⟩,
    ⟨[55, 56], fun r => fSuspectLimit r ≤ fFaultLimit r⟩ ]

/-- The KNOCK group (R31). -/
def knockChecks : List Check :=
  [ ⟨[4, 23], fun r => fKwStart r < segmentLength r⟩,
    ⟨[4, 23], fun r => 1 ≤ fKwWidth r && fKwWidth r + fKwStart r ≤ segmentLength r⟩,
    ⟨[4, 24], fun r => fSensAFirst r < fNcyl r⟩,
    ⟨[4, 24], fun r => fSensALast r < fNcyl r⟩,
    ⟨[4, 17, 24], fun r => fKnockBSize r == 0 || fSensBFirst r < fNcyl r⟩,
    ⟨[4, 17, 24], fun r => fKnockBSize r == 0 || fSensBLast r < fNcyl r⟩,
    ⟨[23], fun r => inRange 4 255 (fKnockMinSamples r)⟩,
    ⟨[57], fun r => inRange 16 4095 (fKnockThr r)⟩,
    ⟨[58], fun r => inRange 16 4095 (fHeavyThr r)⟩,
    ⟨[59], fun r => inRange 1 32767 (fImpactCeiling r)⟩,
    ⟨[59], fun r => inRange 1 8 (fBgShift r)⟩,
    ⟨[59], fun r => inRange 2 10 (fBiasShift r)⟩,
    ⟨[60], fun r => inRange 1 1000 (fLightRate r)⟩,
    ⟨[61], fun r => inRange 1 1000 (fHeavyRate r)⟩,
    ⟨[4, 7, 23], fun r => everyPosition r (fun k => !missingPosition r (windowOpen r k))⟩,
    ⟨[4, 7, 23], fun r => everyPosition r (fun k => !missingPosition r (windowClose r k))⟩,
    ⟨[57, 58], fun r => fKnockThr r < fHeavyThr r⟩,
    ⟨[60, 61], fun r => fLightRate r ≤ fHeavyRate r⟩ ]

/-- The QUEUE group (R32). -/
def queueChecks : List Check :=
  [ ⟨[25], fun r => inRange 8 64 (fQueueCapacity r)⟩,
    ⟨[20, 25], fun r => Config.firstSlotWord + 8 * fQueueCapacity r ≤ fReportSize r⟩ ]

/-- The FREEZE group (R32). -/
def freezeChecks : List Check :=
  [ ⟨[25], fun r => fFrzPre r ≤ 15⟩,
    ⟨[25], fun r => fFrzPost r ≤ 8⟩,
    ⟨[64], fun r => fFreezeMode r ≤ 2⟩,
    ⟨[22, 25], fun r => Config.frameHeaderWords + Config.cycleRecordWords * (fFrzPre r + 1 + fFrzPost r)
      ≤ fFreezeSize r⟩ ]

/-- The six field groups in the order R27 tests them, each with its failure code. -/
def groups (setupBase : Nat) : List (ResultCode × List Check) :=
  [ (.badGeometry, geometryChecks), (.badWindows, windowsChecks setupBase), (.badMisfire, misfireChecks),
    (.badKnock, knockChecks), (.badQueue, queueChecks), (.badFreeze, freezeChecks) ]

/-- The failing offset of a group: the lowest offset among the words of its failed checks, none where every
check holds (R27). -/
def groupFailure (cs : List Check) (sh : Shadow) : Option Nat :=
  ((cs.filter (fun c => !checkHolds c sh)).flatMap Check.words).min?

/-- The first failed group, in the order of R27. -/
def firstGroupFailure (sh : Shadow) : List (ResultCode × List Check) → Option (ResultCode × Nat)
  | [] => none
  | (code, cs) :: rest =>
    match groupFailure cs sh with
    | some off => some (code, off)
    | none => firstGroupFailure sh rest

/-- The sum modulo 2^32 of the 128 shadow words, the control and load status words counted as 0 (R27). -/
def blockSum (sh : Shadow) : Word :=
  (List.range Config.setupWords).foldl (fun acc i => if i = 1 ∨ i = 2 then acc else acc + shadowWord sh i) 0

/-- The outcome of validation: none where the block is valid, else the failure code and offset (R27). -/
def validate (setupBase : Nat) (sh : Shadow) : Option (ResultCode × Nat) :=
  if shadowWord sh 0 ≠ Config.setupMarker then some (.badMarker, 0)
  else if blockSum sh ≠ 0 then some (.badChecksum, 3)
  else firstGroupFailure sh (groups setupBase)

/-- The marker test and the checks of the six field groups: the validation constraints (R39). -/
def constraintsHold (setupBase : Nat) (sh : Shadow) : Bool :=
  shadowWord sh 0 == Config.setupMarker &&
    (groups setupBase).all (fun g => g.2.all (fun c => checkHolds c sh))

/-! ### Classes and tunable writes -/

/-- A GEOMETRY word: the setup marker word, or a word that holds GEOMETRY fields (R23, R187). -/
def geometryWord (off : Nat) : Bool := off == 0 || (4 ≤ off && off ≤ 25)

/-- The merged word of a tunable write is accepted: every check that a field of the word takes part in holds
of the shadow with that word merged (R39). -/
def tunableAccepted (setupBase off : Nat) (merged : Shadow) : Bool :=
  (groups setupBase).all (fun g => g.2.all (fun c => !c.words.contains off || checkHolds c merged))

end Sys2Proof.Machine
end

