-- ==== Sys2Proof/Machine/Formats.lean ====
section
/-! DEFINITION. The layouts and encodings of the words the part writes, answers and takes (R182 to R195). -/

namespace Sys2Proof.Machine

/-- A number placed from bit `lo` up in a field of `n` bits. -/
def place (v lo n : Nat) : Word := BitVec.ofNat 32 ((v % 2 ^ n) * 2 ^ lo)

/-- A signed number in two's complement over 16 bits, as an unsigned number (R182). -/
def twos16 (v : Int) : Nat := (BitVec.ofInt 16 v).toNat

/-- 1 for yes and 0 for no. -/
def bit (b : Bool) : Nat := if b then 1 else 0

/-! ### Encodings of named values -/

/-- The result code's encoding (R188). -/
def resultCode : ResultCode → Nat
  | .none => 0
  | .ok => 1
  | .badMarker => 2
  | .badChecksum => 3
  | .badGeometry => 4
  | .badWindows => 5
  | .badMisfire => 6
  | .badKnock => 7
  | .badQueue => 8
  | .badFreeze => 9
  | .refused => 10
  | .unknownCommand => 11

/-- The operating state's encoding (R188). -/
def opCode : OpState → Nat
  | .unconfigured => 0
  | .loading => 1
  | .running => 2
  | .stopping => 3
  | .stopped => 4

/-- The sync state's encoding (R189). -/
def syncCode : SyncState → Nat
  | .stopped => 0
  | .hunt => 1
  | .verify => 2
  | .crankSync => 3
  | .phased => 4

/-- The freeze state's encoding (R189). -/
def freezeCode : FreezeState → Nat
  | .idle => 0
  | .armed => 1
  | .collecting => 2
  | .writing => 3
  | .held => 4

/-- The misfire state's encoding (R190). -/
def misfireStateCode : MisfireState → Nat
  | .clean => 0
  | .suspect => 1
  | .misfiring => 2

/-- The knock state's encoding (R190). -/
def knockStateCode : KnockState → Nat
  | .normal => 0
  | .light => 1
  | .heavy => 2

/-- The misfire level's encoding (R190). -/
def misfireLevelCode : MisfireLevel → Nat
  | .none => 0
  | .low => 1
  | .mid => 2
  | .high => 3

/-- The knock level's encoding (R190). -/
def knockLevelCode : KnockLevel → Nat
  | .none => 0
  | .normal => 1
  | .light => 2
  | .heavy => 3

/-- The segment class's encoding (R191). -/
def segClassCode : SegClass → Nat
  | .none => 0
  | .cut => 1
  | .warmup => 2
  | .rough => 3
  | .shadow => 4
  | .transient => 5
  | .misfire => 6
  | .fired => 7

/-- The knock class's encoding (R191). -/
def knockClassCode : KnockClass → Nat
  | .none => 0
  | .invalid => 1
  | .cut => 2
  | .short => 3
  | .impact => 4
  | .learn => 5
  | .quiet => 6
  | .knock => 7
  | .heavy => 8
  | .notCovered => 9

/-- The event kind's index, which is also its place in the masks (R151). -/
def eventIndex : EventKind → Nat
  | .misfire => 1
  | .knock => 2
  | .impact => 3
  | .misfireState => 4
  | .knockState => 5
  | .syncGained => 6
  | .syncLost => 7
  | .stall => 8
  | .streamFault => 9
  | .camFault => 10
  | .phaseLost => 11
  | .setupRefused => 12
  | .freezeReady => 13

/-- A mask names an event kind (R151, R187). -/
def maskNames (mask : BitVec 16) (k : EventKind) : Bool := mask.getLsbD (eventIndex k)

/-- A flag's place in the header word and in the flag-clear mask (R189). -/
def flagPlace : Flag → Nat
  | .size => 0
  | .format => 1
  | .toothSkip => 2
  | .overrun => 3
  | .knockSkipA => 4
  | .knockSkipB => 5
  | .marker => 6
  | .setupRefused => 7
  | .protect => 8
  | .queueDropped => 9

/-- The bit of a flag among the ten. -/
def flagBit (f : Flag) : BitVec 10 := BitVec.ofNat 10 (2 ^ flagPlace f)

/-- The ten flags in the order of their places (R189). -/
def allFlags : List Flag :=
  [.size, .format, .toothSkip, .overrun, .knockSkipA, .knockSkipB, .marker, .setupRefused, .protect,
    .queueDropped]

/-- The trigger kind's encoding: an event index, or 0xFF for MANUAL (R194). -/
def triggerCode : TriggerKind → Nat
  | .event k => eventIndex k
  | .manual => 0xFF

/-! ### Details of events (R193) -/

/-- The deciding sensor of a knock window (R123). -/
inductive Deciding where
  | a
  | b
  | both
  deriving DecidableEq, Repr

/-- The reasons of a loss of sync (R72). -/
inductive LossReason where
  | framing
  | glitch
  | erratic
  | skip
  | overrun
  | reset
  deriving DecidableEq, Repr

/-- The reasons of a cam fault (R67, R70). -/
inductive CamReason where
  | noCam
  | missing
  | wrongRev
  | extra
  deriving DecidableEq, Repr

/-- The faults of STREAM_FAULT (R52). -/
inductive StreamFaultKind where
  | size
  | format
  | toothSkip
  | overrun
  | knockSkipA
  | knockSkipB
  | marker
  deriving DecidableEq, Repr

/-- The detail of an event, by kind (R193). -/
inductive Detail where
  | none
  /-- KNOCK: severity HEAVY or KNOCK, and the deciding sensor. -/
  | knock (heavy : Bool) (sensor : Deciding)
  | impact (sensor : Deciding)
  | misfireState (before after : MisfireState)
  | knockState (before after : KnockState)
  | syncLost (reason : LossReason)
  | camFault (reason : CamReason)
  | streamFault (fault : StreamFaultKind)
  /-- SETUP_REFUSED: OUT_OF_RANGE where true, LOCKED where false. -/
  | setupRefused (outOfRange : Bool)
  | freezeReady (kind : TriggerKind) (truncated : Bool)
  deriving DecidableEq, Repr

/-- The deciding sensor's encoding (R193). -/
def decidingCode : Deciding → Nat
  | .a => 1
  | .b => 2
  | .both => 3

/-- The loss reason's encoding (R193). -/
def lossReasonCode : LossReason → Nat
  | .framing => 1
  | .glitch => 2
  | .erratic => 3
  | .skip => 4
  | .overrun => 5
  | .reset => 6

/-- The cam fault reason's encoding (R193). -/
def camReasonCode : CamReason → Nat
  | .noCam => 1
  | .missing => 2
  | .wrongRev => 3
  | .extra => 4

/-- The stream fault's encoding (R193). -/
def streamFaultCode : StreamFaultKind → Nat
  | .size => 1
  | .format => 2
  | .toothSkip => 3
  | .overrun => 4
  | .knockSkipA => 5
  | .knockSkipB => 6
  | .marker => 7

/-- The 16-bit detail field of an event record (R193). -/
def detailCode : Detail → Nat
  | .none => 0
  | .knock heavy x => (if heavy then 2 else 1) + 16 * decidingCode x
  | .impact x => 16 * decidingCode x
  | .misfireState b a => misfireStateCode b + 16 * misfireStateCode a
  | .knockState b a => knockStateCode b + 16 * knockStateCode a
  | .syncLost r => lossReasonCode r
  | .camFault r => camReasonCode r
  | .streamFault f => streamFaultCode f
  | .setupRefused range => if range then 2 else 1
  | .freezeReady k t => triggerCode k + 256 * bit t

/-- An event as its raiser hands it to EVQ (R152). -/
structure Event where
  kind : EventKind
  cylinder : Option Nat
  detail : Detail
  value : Word
  limit : Word
  stamp : Stamp
  deriving DecidableEq, Repr

/-! ### Words taken -/

/-- A tooth word's timestamp (R184). -/
def toothStamp (w : Word) : Stamp := BitVec.ofNat 24 (bitField w 0 24)

/-- The kind of a tooth word that has no FORMAT fault; none where it has one (R41, R184). -/
def toothKind (w : Word) : Option ToothKind :=
  match bitField w 24 2, bitField w 26 1 with
  | 0, _ => some .crank
  | 1, 1 => some .camRise
  | 2, 0 => some .camFall
  | _, _ => none

/-- The kinds of a marker word (R186). -/
inductive MarkerKind where
  | ignCut
  | load
  | surface
  | syncReset
  | freeze
  deriving DecidableEq, Repr

/-- The kind of a marker word, none where the field names none (R186). -/
def markerKind (w : Word) : Option MarkerKind :=
  match bitField w 16 16 with
  | 1 => some .ignCut
  | 2 => some .load
  | 3 => some .surface
  | 4 => some .syncReset
  | 5 => some .freeze
  | _ => none

/-- The encoding of a marker kind (R186). -/
def markerCode : MarkerKind → Nat
  | .ignCut => 1
  | .load => 2
  | .surface => 3
  | .syncReset => 4
  | .freeze => 5

/-- The marker word of a kind and a value (R186). -/
def markerWord (k : MarkerKind) (value : BitVec 16) : Word :=
  place value.toNat 0 16 ||| place (markerCode k) 16 16

/-- A marker value in the range of its kind (R48). -/
def markerInRange (ncyl : Nat) (k : MarkerKind) (v : Nat) : Bool :=
  match k with
  | .ignCut => v < 2 ^ ncyl
  | .load => v ≤ 3
  | .surface => v ≤ 3
  | .syncReset => v == 0
  | .freeze => v == 0

/-- The commands of the control word (R188). -/
inductive Command where
  | none
  | start
  | stop
  | unknown
  deriving DecidableEq, Repr

/-- The command a control word carries (R188). -/
def commandOf (w : Word) : Command :=
  match w.toNat with
  | 0 => .none
  | 1 => .start
  | 2 => .stop
  | _ => .unknown

/-! ### Words written and answered -/

/-- The load status word (R188). -/
def loadStatusWord (l : Loader) : Word :=
  place (resultCode l.result) 0 8 ||| place (opCode l.op) 8 8 ||| place l.offset 16 7

/-- The eight words of the status header (R189). -/
def headerWords (h : Header) : Vector Word 8 :=
  #v[ place h.seq.toNat 0 16 ||| place (opCode h.op) 16 3 ||| place (syncCode h.sync) 20 3,
      h.cycle,
      place h.rpm 0 16 ||| place h.producer 16 6 ||| place (freezeCode h.freeze) 24 3,
      place h.cut.toNat 0 8 ||| place h.load.toNat 8 2 ||| place h.surface.toNat 10 2,
      place h.flags.toNat 0 10,
      0, 0, 0 ]

/-- The run bit of a row (R191). -/
def runBit (r : Row) : Bool :=
  match r.misfireState with
  | .clean => false
  | .suspect => r.faultRun
  | .misfiring => r.cleanRun

/-- The eight words of a cylinder row (R190, R191). -/
def rowWords (r : Row) : Vector Word 8 :=
  #v[ place r.seq.toNat 0 16 ||| place r.code.toNat 16 3 ||| place (misfireStateCode r.misfireState) 19 2 |||
        place (bit (runBit r)) 21 1 ||| place (knockStateCode r.knockState) 22 2 |||
        place (segClassCode r.lastSegClass) 24 3 ||| place (bit r.lastMetric.isSome) 27 1 |||
        place (knockClassCode r.lastKnockClass) 28 4,
      place r.evaluated 0 16 ||| place r.misfires 16 16,
      place r.knockEvaluated 0 16 ||| place r.knockCount 16 16,
      place r.heavyCount 0 16 ||| place r.impactCount 16 16,
      place r.totalMisfires 0 32,
      place (r.background.a.getD 0) 0 15 ||| place (r.background.b.getD 0) 15 15 |||
        place (misfireLevelCode r.misfireLevel) 30 2,
      place (twos16 (r.lastMetric.getD 0)) 0 16 ||| place (r.lastRatio.getD 0) 16 16,
      place (r.misfireRate.getD 0) 0 10 ||| place (r.knockRate.getD 0) 10 10 |||
        place (r.heavyRate.getD 0) 20 10 ||| place (knockLevelCode r.knockLevel) 30 2 ]

/-- A slot's ownership word, READY (R192). -/
def slotReadyWord (dropped : Nat) (seq : BitVec 16) : Word :=
  place Config.readyCode 0 8 ||| place dropped 8 8 ||| place seq.toNat 16 16

/-- The fields EVQ fills in for every event, as their owners hold them (R153). -/
structure Context where
  cycle : BitVec 32
  rpm : Nat
  surface : BitVec 2
  load : BitVec 2
  cut : BitVec 8
  sync : SyncState
  deriving DecidableEq, Repr

/-- The eight words of an event record in the order they are written: body words 1 to 7, then the ownership
word (R19, R193). -/
def eventWords (ev : Event) (c : Context) (dropped : Nat) (seq : BitVec 16) : Vector Word 8 :=
  #v[ place (eventIndex ev.kind) 0 8 ||| place (ev.cylinder.getD 0) 8 8 ||| place (detailCode ev.detail) 16 16,
      c.cycle,
      place c.rpm 0 16 ||| place c.surface.toNat 16 2 ||| place c.load.toNat 18 2 |||
        place (syncCode c.sync) 20 3 ||| place c.cut.toNat 24 8,
      ev.value,
      ev.limit,
      place ev.stamp.toNat 0 24,
      0,
      slotReadyWord dropped seq ]

/-- The first of a position's two words in a cycle record; bit 31 is the resync flag in position 0 (R194). -/
def positionWord1 (p : PositionResult) (k : Nat) (resync : Bool) : Word :=
  place p.time 0 24 ||| place (segClassCode p.segClass) 24 3 ||| place (knockClassCode p.knockClass) 27 4 |||
    place (bit (resync && k == 0)) 31 1

/-- The second of a position's two words (R194). -/
def positionWord2 (p : PositionResult) : Word := place (twos16 p.metric) 0 16 ||| place p.ratio 16 16

/-- The result of a firing position in a record; positions 8 and above do not exist. -/
def positionOf (r : CycleRecord) (k : Nat) : PositionResult := r.positions[k]?.getD PositionResult.empty

/-- The 17 words of a cycle record of a frame (R194, R195). -/
def cycleRecordWords (r : CycleRecord) : List Word :=
  r.cycle :: (List.range 8).flatMap (fun k =>
    [positionWord1 (positionOf r k) k r.resync, positionWord2 (positionOf r k)])

/-- The words 1 to 7 of a frame header (R194). -/
def frameHeader (f : Frz) : List Word :=
  [ place (f.trigger.elim 0 (fun t => triggerCode t.kind)) 0 8 |||
      place ((f.trigger.bind Trigger.cylinder).getD 0) 8 8 ||| place (bit f.truncated) 16 1,
    f.trigger.elim 0 Trigger.cycle,
    place f.pre 0 8 ||| place f.post 8 8 ||| place f.missed 16 8,
    0, 0, 0, 0 ]

/-- Words numbered from an index up. -/
def numbered (from_ : Nat) : List Word → List FrameWord
  | [] => []
  | w :: rest => ⟨from_, w⟩ :: numbered (from_ + 1) rest

/-- The words of a frame in the order the freeze writer writes them: header words 1 to 7, the cycle records, and
the frame ownership word last (R175, R192). -/
def frameWords (f : Frz) : List FrameWord :=
  numbered 1 (frameHeader f ++ f.buffer.flatMap cycleRecordWords) ++ [⟨0, place Config.readyCode 0 8⟩]

end Sys2Proof.Machine
end

