-- ==== Sys2Proof/Machine/Ops.lean ====
section
/-! DEFINITION. The shared operations: RAM, the report writer's list, RATE's header and rows. -/

namespace Sys2Proof.Machine

/-! ### RAM -/

/-- The byte at an address. -/
def ramByte : Ram → Nat → Byte
  | [], _ => Config.unlistedByte
  | (b, v) :: rest, a => if a = b then v else ramByte rest a

/-- RAM with one byte written, in canonical form. -/
def ramWriteByte : Ram → Nat → Byte → Ram
  | [], a, v => if v = Config.unlistedByte then [] else [(a, v)]
  | (b, w) :: rest, a, v =>
    if a < b then (if v = Config.unlistedByte then (b, w) :: rest else (a, v) :: (b, w) :: rest)
    else if a = b then (if v = Config.unlistedByte then rest else (a, v) :: rest)
    else (b, w) :: ramWriteByte rest a v

/-- Every listed address is at least `lo`, addresses rise strictly, and no cell holds the unlisted byte. -/
def ramWfFrom : Nat → Ram → Bool
  | _, [] => true
  | lo, (a, v) :: rest => lo ≤ a && v != Config.unlistedByte && ramWfFrom (a + 1) rest

/-- The canonical form of RAM. -/
def ramWf (m : Ram) : Bool := ramWfFrom 0 m

/-- The word at a word address, lane k from the byte at 4w+k (R182). -/
def ramWord (m : Ram) (w : WordAddr) : Word :=
  place (ramByte m (4 * w.toNat)).toNat 0 8 ||| place (ramByte m (4 * w.toNat + 1)).toNat 8 8 |||
    place (ramByte m (4 * w.toNat + 2)).toNat 16 8 ||| place (ramByte m (4 * w.toNat + 3)).toNat 24 8

/-- RAM with the given lanes of a word written (R182). -/
def ramWriteLanes (m : Ram) (w : WordAddr) (data : Word) : List Nat → Ram
  | [] => m
  | k :: ks => ramWriteLanes (ramWriteByte m (4 * w.toNat + k) (laneByte data k)) w data ks

/-- RAM after a memory-side access: a read leaves it (R4, log 5). -/
def ramAfter (m : Ram) (a : Access) : Ram :=
  match a.dir with
  | .read => m
  | .write d => ramWriteLanes m a.addr d (enabledLanes a.lanes)

/-! ### What the blocks see of LOADER and PATH -/

/-- The operating state, the setup shadow and the window table, as the other blocks read them. -/
structure Env where
  op : OpState
  shadow : Shadow
  table : WindowTable
  deriving DecidableEq, Repr

/-- The setup fields as the blocks read them. -/
def Env.reader (e : Env) : Reader := shadowWord e.shadow

/-- The view of a state. -/
def State.env (s : State) : Env :=
  { op := s.loader.op, shadow := s.loader.shadow, table := s.path.table }

/-! ### The report writer's list (R18 to R20) -/

/-- The kinds that are coalesced: the newest-content requests and CONTROL-NONE (R20). -/
def coalesces : RequestKind → Bool
  | .row _ => true
  | .header => true
  | .event _ _ => false
  | .slotEmpty _ => false
  | .frameEmpty => false
  | .controlNone => true
  | .loadStatus => true

/-- The number of words of a request (R18). -/
def requestWords : RequestKind → Nat
  | .row _ => 8
  | .header => 8
  | .event _ _ => 8
  | .slotEmpty _ => 1
  | .frameEmpty => 1
  | .controlNone => 1
  | .loadStatus => 1

/-- A request of a kind that waits and is not begun (R18). -/
def pendingOf (k : RequestKind) (r : Request) : Bool := r.granted == 0 && r.kind = k

/-- The list after a block hands the report writer a request: coalesced with a pending request of the same kind
for the same row, or joining the tail (R20). A coalesced initialisation request still counts as one (R33). -/
def addRequest (initial : Bool) (k : RequestKind) (l : List Request) : List Request :=
  if coalesces k && l.any (pendingOf k) then
    l.map (fun r => if pendingOf k r then { r with initial := r.initial || initial } else r)
  else l ++ [{ kind := k, granted := 0, initial := initial }]

/-- A block hands the report writer a request. -/
def request (k : RequestKind) (b : Blocks) : Blocks := { b with rpw := addRequest false k b.rpw }

/-- LOADER hands the report writer an initialisation request (R33). -/
def requestInitial (k : RequestKind) (b : Blocks) : Blocks := { b with rpw := addRequest true k b.rpw }

/-- A mirror request: RATE hands it while the window table is VALID (R134, R135). -/
def requestMirror (e : Env) (k : RequestKind) (b : Blocks) : Blocks :=
  if e.table.valid then request k b else b

/-! ### RATE's header and rows -/

/-- RATE is told of a change of header fields: where they differ, the header takes them, the sequence increases
by one and a HEADER mirror is requested; a notice of the value already held is no change (R135). `f` gives the
fields, and leaves the sequence. -/
def tellHeader (e : Env) (f : Header → Header) (b : Blocks) : Blocks :=
  if f b.rate.header = b.rate.header then b
  else requestMirror e .header
    { b with rate := { b.rate with header := { f b.rate.header with seq := b.rate.header.seq + 1 } } }

/-- The code of a cylinder number: the number less one. -/
def cylinderCode (c : Nat) : Fin 8 := Fin.ofNat 8 (c - 1)

/-- The row of a cylinder number. -/
def rowOf (rt : Rate) (c : Nat) : Row := rt.rows.get (cylinderCode c)

/-- A row after an update of its fields, its sequence increased by one (R134). -/
def updatedRow (f : Row → Row) (r : Row) : Row := { f r with seq := r.seq + 1 }

/-- RATE updates the row of a cylinder: the fields change, the row sequence increases by one, and a ROW mirror is
requested (R134). -/
def updateRow (e : Env) (c : Nat) (f : Row → Row) (b : Blocks) : Blocks :=
  requestMirror e (.row (cylinderCode c))
    { b with rate := { b.rate with
        rows := b.rate.rows.set (cylinderCode c) (updatedRow f (rowOf b.rate c)) } }

/-! ### Notices to RATE's header (R135) -/

/-- CRANK's sync state becomes `st`, and CRANK tells RATE (R57). -/
def tellSync (e : Env) (b : Blocks) : Blocks :=
  tellHeader e (fun h => { h with sync := b.crank.sync }) b

/-- TAP tells RATE of the sticky flags (R51). -/
def tellFlags (e : Env) (b : Blocks) : Blocks :=
  tellHeader e (fun h => { h with flags := b.tap.flags }) b

/-- TAP tells RATE of the marker context (R49). -/
def tellContext (e : Env) (b : Blocks) : Blocks :=
  tellHeader e (fun h => { h with cut := b.tap.cut, load := b.tap.load, surface := b.tap.surface }) b

/-- EVQ tells RATE of the producer index (R155). -/
def tellProducer (e : Env) (b : Blocks) : Blocks :=
  tellHeader e (fun h => { h with producer := b.evq.producer }) b

/-- FRZ tells RATE of the freeze state (R168). -/
def tellFreeze (e : Env) (b : Blocks) : Blocks :=
  tellHeader e (fun h => { h with freeze := b.frz.state }) b

/-- LOADER tells RATE of the operating state (R135). -/
def tellOp (e : Env) (b : Blocks) : Blocks := tellHeader e (fun h => { h with op := e.op }) b

end Sys2Proof.Machine
end

