-- ==== Sys2Proof/Machine/Flags.lean ====
section
/-! DEFINITION. The sticky flags (R51, R53), and the suspension of the knock sensors that follows two of them (R47, R116). -/

namespace Sys2Proof.Machine

/-- A sticky flag is set. -/
def flagSet (t : Tap) (f : Flag) : Bool := t.flags.getLsbD (flagPlace f)

/-- The knock sensor whose suspension follows a flag, if any (R47). -/
def flagSensor : Flag → Option Sensor
  | .knockSkipA => some .A
  | .knockSkipB => some .B
  | _ => none

/-- The KNOCK_SKIP flag of a sensor. -/
def skipFlag : Sensor → Flag
  | .A => .knockSkipA
  | .B => .knockSkipB

/-- A part becomes tainted (R116). -/
def taintPart (p : SensorPart) : SensorPart := { p with tainted := true }

/-- The open window with the part of a sensor tainted, where it has one (R116). -/
def taintWindow (x : Sensor) (w : KnockWindow) : KnockWindow :=
  { w with parts := w.parts.set x ((w.parts.get x).map taintPart) }

/-- Sensor x is suspended: the open window's part for x is tainted (R116). -/
def suspend (x : Sensor) (k : Knock) : Knock :=
  { k with suspended := k.suspended.set x true, openWin := k.openWin.map (taintWindow x) }

/-- The suspension of sensor x ends; a part already tainted stays tainted (R116). -/
def resume (x : Sensor) (k : Knock) : Knock := { k with suspended := k.suspended.set x false }

/-- KNOCK as it is told that a flag was set. -/
def knockFlagSet (f : Flag) (k : Knock) : Knock :=
  match flagSensor f with
  | some x => suspend x k
  | none => k

/-- KNOCK as it is told that a flag was cleared. -/
def knockFlagCleared (f : Flag) (k : Knock) : Knock :=
  match flagSensor f with
  | some x => resume x k
  | none => k

/-- A flag's event: a flag that is clear is set, KNOCK and RATE are told; a flag already set stays set (R51). -/
def setFlag (e : Env) (f : Flag) (b : Blocks) : Blocks :=
  if flagSet b.tap f then b
  else tellFlags e
    { b with tap := { b.tap with flags := b.tap.flags ||| flagBit f }, knock := knockFlagSet f b.knock }

/-- One flag is cleared, where it is set (R53). -/
def clearFlag (e : Env) (f : Flag) (b : Blocks) : Blocks :=
  if flagSet b.tap f then
    tellFlags e
      { b with tap := { b.tap with flags := b.tap.flags &&& ~~~(flagBit f) },
               knock := knockFlagCleared f b.knock }
  else b

/-- The flags of a list are cleared whose places in the mask hold 1, one after the other (R53, log 13). -/
def clearFlagsOf (e : Env) (mask : Word) : List Flag → Blocks → Blocks
  | [], b => b
  | f :: rest, b =>
    clearFlagsOf e mask rest (if mask.getLsbD (flagPlace f) then clearFlag e f b else b)

/-- TAP takes a flag-clear mask (R53). -/
def clearFlags (e : Env) (mask : Word) (b : Blocks) : Blocks := clearFlagsOf e mask allFlags b

end Sys2Proof.Machine
end

