-- ==== Sys2Proof/Machine/Evq.lean ====
section
/-! DEFINITION. EVQ: masks, placement, drops, ready slots, releases and ALERT (R150 to R167). -/

namespace Sys2Proof.Machine

/-! ### ALERT -/

/-- A slot is READY with a kind that the mask names. -/
def slotAlerts (mask : BitVec 16) : SlotState → Bool
  | .ready k => maskNames mask k
  | .free => false
  | .filling _ => false

/-- The operating states in which ALERT may be ACTIVE (R162), which are those of protection (R7). -/
def inCharge : OpState → Bool
  | .running => true
  | .stopping => true
  | .stopped => true
  | .unconfigured => false
  | .loading => false

/-- The alert state that R162 gives. -/
def alertOf (op : OpState) (q : Evq) : Bool := inCharge op && q.slots.any (slotAlerts q.alertMask)

/-- EVQ decides the alert state again (R162). -/
def decideAlert (op : OpState) (b : Blocks) : Blocks :=
  { b with evq := { b.evq with alert := alertOf op b.evq } }

/-- The level of the ALERT pin (R163): high while RESET is asserted (R167). -/
def alertPin (s : State) : Level :=
  if s.resetPin then .high
  else match s.blocks.evq.polarity, s.blocks.evq.alert with
    | .low, true => .low
    | .low, false => .high
    | .high, true => .high
    | .high, false => .low

/-! ### Taking events -/

/-- The fields EVQ fills in, as their owners hold them at this moment (R153). -/
def contextOf (b : Blocks) : Context :=
  { cycle := b.crank.cycle, rpm := b.seg.rpm, surface := b.tap.surface, load := b.tap.load, cut := b.tap.cut,
    sync := b.crank.sync }

/-- EVQ places an event in slot p (R155). -/
def placeEvent (e : Env) (ev : Event) (b : Blocks) : Blocks :=
  let q := b.evq
  tellProducer e (request (.event q.producer (eventWords ev (contextOf b) q.dropped q.seq))
    { b with evq := { q with
        slots := q.slots.set q.producer (.filling ev.kind)
        seq := q.seq + 1
        dropped := 0
        producer := (q.producer + 1) % e.table.queueCapacity } })

/-- EVQ drops an event that finds slot p occupied (R157). -/
def dropEvent (e : Env) (b : Blocks) : Blocks :=
  setFlag e .queueDropped { b with evq := { b.evq with dropped := min 255 (b.evq.dropped + 1) } }

/-- EVQ takes an event: masked (R154), placed (R155) or dropped (R157). -/
def takeEvent (e : Env) (ev : Event) (b : Blocks) : Blocks :=
  if maskNames (fEventMask e.reader) ev.kind then
    if b.evq.slots[b.evq.producer]? = some .free then placeEvent e ev b else dropEvent e b
  else b

/-! ### Slots -/

/-- A FILLING slot is READY, its kind kept (R159). -/
def readySlot : SlotState → SlotState
  | .filling k => .ready k
  | .free => .free
  | .ready k => .ready k

/-- The ownership write of slot s has ended: it becomes READY and the alert state is decided again (R159). -/
def slotReady (op : OpState) (s : Nat) (b : Blocks) : Blocks :=
  decideAlert op { b with evq := { b.evq with slots := b.evq.slots.modify s readySlot } }

/-- A release of slot s: it becomes FREE and the alert state is decided again (R160). -/
def releaseSlot (op : OpState) (s : Nat) (b : Blocks) : Blocks :=
  decideAlert op { b with evq := { b.evq with slots := b.evq.slots.set s .free } }

/-- An accepted write to the mask word reaches EVQ, and the alert state is decided again (R162, R164). -/
def takeAlertMask (e : Env) (b : Blocks) : Blocks :=
  decideAlert e.op { b with evq := { b.evq with alertMask := fAlertMask e.reader } }

/-- EVQ's START values (R150, R166). -/
def evqStart (r : Reader) : Evq :=
  { slots := List.replicate (fQueueCapacity r) .free, producer := 0, seq := 0, dropped := 0,
    polarity := polarityOf (fAlertPolarity r), alert := false, alertMask := fAlertMask r }

end Sys2Proof.Machine
end

