-- ==== Sys2Proof/Machine/Frz.lean ====
section
/-! DEFINITION. FRZ: triggers, collection, write-out, release and modes (R168 to R181), and the raising of events (R152). -/

namespace Sys2Proof.Machine

/-- The freeze state becomes `st`, and FRZ tells RATE (R168). -/
def setFreezeState (e : Env) (st : FreezeState) (b : Blocks) : Blocks :=
  tellFreeze e { b with frz := { b.frz with state := st } }

/-! ### The history ring as FRZ reads it -/

/-- The record of a cycle number in the ring, other than an EMPTY one (R171). -/
def recordOfCycle (ring : Vector CycleRecord 24) (c : BitVec 32) : Option CycleRecord :=
  ring.toList.find? (fun r => r.state != .empty && r.cycle == c)

/-- The number of consecutive records before cycle c that the ring holds, at most `limit` (R171, step 3). -/
def cyclesBefore (ring : Vector CycleRecord 24) (c : BitVec 32) : Nat → Nat
  | 0 => 0
  | limit + 1 =>
    match recordOfCycle ring (c - 1) with
    | some _ => cyclesBefore ring (c - 1) limit + 1
    | none => 0

/-- The record of a cycle number where it is FINAL. -/
def finalRecord (ring : Vector CycleRecord 24) (c : BitVec 32) : Option CycleRecord :=
  (recordOfCycle ring c).filter (fun r => r.state == .final)

/-- The FINAL records of the cycles from c - pre to c, in cycle order (R171, step 5). -/
def finalRecords (ring : Vector CycleRecord 24) (c : BitVec 32) : Nat → List CycleRecord
  | 0 => (finalRecord ring c).toList
  | pre + 1 => finalRecords ring (c - 1) pre ++ (finalRecord ring c).toList

/-! ### Write-out -/

/-- Write-out begins: the words are fixed and handed to the freeze writer, the state becomes WRITING, and the
missed count becomes 0 (R175). -/
def writeOut (e : Env) (b : Blocks) : Blocks :=
  setFreezeState e .writing
    { b with frz := { b.frz with writeList := frameWords b.frz, missed := 0 } }

/-! ### Triggers -/

/-- A missed trigger (R172). -/
def missTrigger (b : Blocks) : Blocks :=
  { b with frz := { b.frz with missed := min 255 (b.frz.missed + 1) } }

/-- The conditions of a collection (R171). -/
def collectionStarts (b : Blocks) : Bool :=
  b.crank.sync == .phased && (recordOfCycle b.seg.ring b.crank.cycle).isSome

/-- FRZ with a collection started at this trigger (R171, steps 1 to 5). -/
def collectionOf (e : Env) (kind : TriggerKind) (cylinder : Option Nat) (b : Blocks) : Frz :=
  let pre := cyclesBefore b.seg.ring b.crank.cycle e.table.frzPre
  { b.frz with
    trigger := some ⟨kind, cylinder, b.crank.cycle⟩
    pre := pre
    post := 0
    truncated := false
    buffer := finalRecords b.seg.ring b.crank.cycle pre }

/-- A frame that is complete at its trigger: the trigger cycle's record is FINAL and no cycle follows (R171). -/
def completeAtTrigger (e : Env) (b : Blocks) : Bool :=
  e.table.frzPost == 0 && (finalRecord b.seg.ring b.crank.cycle).isSome

/-- A collection starts (R171). -/
def startCollection (e : Env) (kind : TriggerKind) (cylinder : Option Nat) (b : Blocks) : Blocks :=
  let c := setFreezeState e .collecting { b with frz := collectionOf e kind cylinder b }
  if completeAtTrigger e b then writeOut e c else c

/-- FRZ takes a trigger by its freeze state (R170). -/
def trigger (e : Env) (kind : TriggerKind) (cylinder : Option Nat) (b : Blocks) : Blocks :=
  match b.frz.state with
  | .idle => b
  | .armed => if collectionStarts b then startCollection e kind cylinder b else missTrigger b
  | .collecting => missTrigger b
  | .writing => missTrigger b
  | .held => missTrigger b

/-- FRZ takes the offer of a raised event (R170). -/
def offerEvent (e : Env) (ev : Event) (b : Blocks) : Blocks :=
  if maskNames (fFreezeTriggerMask e.reader) ev.kind then trigger e (.event ev.kind) ev.cylinder b else b

/-- A block raises an event: in RUNNING alone, EVQ takes it and it is then offered to FRZ (R152). -/
def raise (e : Env) (ev : Event) (b : Blocks) : Blocks :=
  if e.op = .running then offerEvent e ev (takeEvent e ev b) else b

/-! ### Collection -/

/-- The place of a cycle in the span that begins `pre` cycles before the trigger cycle (R173). -/
def spanPlace (f : Frz) (trig c : BitVec 32) : Nat := (c - (trig - BitVec.ofNat 32 f.pre)).toNat

/-- FRZ with the record of a cycle of the span copied; a cycle after the trigger counts as a post cycle (R173). -/
def copyRecord (f : Frz) (trig : BitVec 32) (r : CycleRecord) : Frz :=
  { f with
    buffer := f.buffer ++ [r]
    post := if f.pre < spanPlace f trig r.cycle then f.post + 1 else f.post }

/-- FRZ takes the notice that a record has become FINAL (R173). -/
def finalNotice (e : Env) (r : CycleRecord) (b : Blocks) : Blocks :=
  match b.frz.state, b.frz.trigger with
  | .collecting, some t =>
    if spanPlace b.frz t.cycle r.cycle ≤ b.frz.pre + e.table.frzPost then
      let c := { b with frz := copyRecord b.frz t.cycle r }
      if spanPlace b.frz t.cycle r.cycle = b.frz.pre + e.table.frzPost then writeOut e c else c
    else b
  | _, _ => b

/-- FRZ takes a loss notice: a collection is truncated and written out (R174). -/
def frzLoss (e : Env) (b : Blocks) : Blocks :=
  match b.frz.state with
  | .collecting => writeOut e { b with frz := { b.frz with truncated := true } }
  | _ => b

/-- FRZ with the trigger fields, counts, truncated mark and frame buffer cleared (R177, R178). -/
def clearFrame (f : Frz) : Frz :=
  { f with trigger := none, pre := 0, post := 0, truncated := false, buffer := [] }

/-- A collection is abandoned (R178, R179). -/
def abandonCollection (e : Env) (b : Blocks) : Blocks :=
  setFreezeState e .idle { b with frz := clearFrame b.frz }

/-! ### The end of write-out, release, mode writes, STOP -/

/-- FREEZE_READY (R176). -/
def freezeReadyEvent (f : Frz) : Event :=
  { kind := .freezeReady
    cylinder := f.trigger.bind Trigger.cylinder
    detail := .freezeReady (f.trigger.elim .manual Trigger.kind) f.truncated
    value := f.trigger.elim 0 Trigger.cycle
    limit := BitVec.ofNat 32 (f.pre + 1 + f.post)
    stamp := 0 }

/-- Write-out is done: the frame is HELD (R176, steps 1 and 2). -/
def frameHeld (e : Env) (b : Blocks) : Blocks :=
  setFreezeState e .held { b with frz := { b.frz with writeList := [] } }

/-- The freeze state after a release, by the mode in force and the operating state (R177). -/
def releasedState (mode : FreezeMode) (op : OpState) : FreezeState :=
  if mode = .rearm ∧ op = .running then .armed else .idle

/-- FRZ takes a release of the frame (R177). -/
def releaseFrame (e : Env) (b : Blocks) : Blocks :=
  setFreezeState e (releasedState b.frz.mode e.op) { b with frz := clearFrame b.frz }

/-- FRZ takes an accepted write to the word that holds `freeze_mode` (R178). -/
def modeWrite (e : Env) (mode : FreezeMode) (b : Blocks) : Blocks :=
  let c := { b with frz := { b.frz with mode := mode } }
  match b.frz.state with
  | .idle => if mode = .off then c else setFreezeState e .armed c
  | .armed => if mode = .off then setFreezeState e .idle c else c
  | .collecting => if mode = .off then abandonCollection e c else c
  | .writing => c
  | .held => c

/-- FRZ takes a STOP (R179). -/
def frzStop (e : Env) (b : Blocks) : Blocks :=
  match b.frz.state with
  | .collecting => abandonCollection e b
  | _ => b

/-- FRZ's START values (R168, R180). -/
def frzStart (r : Reader) : Frz :=
  { Frz.reset with
    mode := freezeModeOf (fFreezeMode r)
    state := if freezeModeOf (fFreezeMode r) = .off then .idle else .armed }

end Sys2Proof.Machine
end

