-- ==== Sys2Proof/Machine/Rate.lean ====
section
/-! DEFINITION. RATE: counts, rating windows, levels, states and the cylinder table (R130 to R149). -/

namespace Sys2Proof.Machine

/-- Adding one with saturation at a limit. -/
def satSucc (limit v : Nat) : Nat := if v < limit then v + 1 else v

/-! ### Results -/

/-- A segment result as SEG hands it to RATE (R97). -/
structure SegmentResult where
  cylinder : Nat
  position : Nat
  segClass : SegClass
  metric : Option Int
  rpm : Nat
  deriving DecidableEq, Repr

/-- A knock window result as KNOCK hands it to RATE (R125). -/
structure WindowResult where
  cylinder : Nat
  position : Nat
  knockClass : KnockClass
  ratio : Option Nat
  background : PerSensor (Option Nat)
  deriving DecidableEq, Repr

/-- The row after the counts of a segment result: evaluated and misfires stop together (R137, step 1). -/
def countSegment (c : SegClass) (r : Row) : Row :=
  match c with
  | .fired => if r.evaluated < 65535 then { r with evaluated := r.evaluated + 1 } else r
  | .misfire =>
    if r.evaluated < 65535 then { r with evaluated := r.evaluated + 1, misfires := r.misfires + 1 } else r
  | _ => r

/-- The row after the total of a segment result (R137, step 2). -/
def totalSegment (c : SegClass) (r : Row) : Row :=
  if c = .misfire then { r with totalMisfires := satSucc (2 ^ 32 - 1) r.totalMisfires } else r

/-- The row of a cylinder at a segment result (R137, steps 1 to 3). -/
def segmentRow (res : SegmentResult) (r : Row) : Row :=
  { totalSegment res.segClass (countSegment res.segClass r) with
    lastMetric := res.metric, lastSegClass := res.segClass }

/-- RATE takes a segment result (R137). -/
def takeSegmentResult (e : Env) (res : SegmentResult) (b : Blocks) : Blocks :=
  tellHeader e (fun h => { h with rpm := res.rpm }) (updateRow e res.cylinder (segmentRow res) b)

/-- The row after the counts of a knock window result (R138, step 1). -/
def countWindow (c : KnockClass) (r : Row) : Row :=
  match c with
  | .quiet => if r.knockEvaluated < 65535 then { r with knockEvaluated := r.knockEvaluated + 1 } else r
  | .knock =>
    if r.knockEvaluated < 65535 then
      { r with knockEvaluated := r.knockEvaluated + 1, knockCount := r.knockCount + 1 } else r
  | .heavy =>
    if r.knockEvaluated < 65535 then
      { r with knockEvaluated := r.knockEvaluated + 1, heavyCount := r.heavyCount + 1 } else r
  | .impact => { r with impactCount := satSucc 65535 r.impactCount }
  | _ => r

/-- The row of a cylinder at a knock window result (R138, steps 1 and 2). -/
def windowRow (res : WindowResult) (r : Row) : Row :=
  { countWindow res.knockClass r with
    lastRatio := res.ratio, lastKnockClass := res.knockClass, background := res.background }

/-- RATE takes a knock window result (R138). -/
def takeWindowResult (e : Env) (res : WindowResult) (b : Blocks) : Blocks :=
  updateRow e res.cylinder (windowRow res) b

/-! ### Levels and states at a close -/

/-- The misfire level and rate of a row (R139). -/
def misfireLevelOf (r : Reader) (wcur : Nat) (row : Row) : MisfireLevel × Option Nat :=
  if row.evaluated < wcur / 2 then (.none, none)
  else
    let rate := row.misfires * 1000 / row.evaluated
    if rate < fSuspectLimit r then (.low, some rate)
    else if rate < fFaultLimit r then (.mid, some rate)
    else (.high, some rate)

/-- The knock level, the knock rate and the heavy rate of a row (R140). -/
def knockLevelOf (r : Reader) (wcur : Nat) (row : Row) : KnockLevel × Option Nat × Option Nat :=
  if row.knockEvaluated < wcur / 2 then (.none, none, none)
  else
    let heavy := row.heavyCount * 1000 / row.knockEvaluated
    let knock := (row.knockCount + row.heavyCount) * 1000 / row.knockEvaluated
    if fHeavyRate r ≤ heavy then (.heavy, some knock, some heavy)
    else if fLightRate r ≤ knock then (.light, some knock, some heavy)
    else (.normal, some knock, some heavy)

/-- The misfire state, fault run and clean run after a close (R141). -/
def moveMisfire (st : MisfireState) (fault clean : Bool) : MisfireLevel → MisfireState × Bool × Bool
  | .none => (st, fault, clean)
  | .high =>
    match st with
    | .clean => (.suspect, true, clean)
    | .suspect => if fault then (.misfiring, false, false) else (.suspect, true, clean)
    | .misfiring => (.misfiring, fault, false)
  | .mid =>
    match st with
    | .clean => (.suspect, false, clean)
    | .suspect => (.suspect, false, clean)
    | .misfiring => (.misfiring, fault, false)
  | .low =>
    match st with
    | .clean => (.clean, fault, clean)
    | .suspect => (.clean, false, clean)
    | .misfiring => if clean then (.clean, fault, false) else (.misfiring, fault, true)

/-- The knock state after a close (R142). -/
def moveKnock (st : KnockState) : KnockLevel → KnockState
  | .none => st
  | .normal => .normal
  | .light => .light
  | .heavy => .heavy

/-- The row of a cylinder at a close (R143, steps 1 to 4). -/
def closeRow (r : Reader) (wcur : Nat) (row : Row) : Row :=
  let m := misfireLevelOf r wcur row
  let k := knockLevelOf r wcur row
  let moved := moveMisfire row.misfireState row.faultRun row.cleanRun m.1
  { row with
    misfireState := moved.1, faultRun := moved.2.1, cleanRun := moved.2.2
    knockState := moveKnock row.knockState k.1
    misfireLevel := m.1, knockLevel := k.1, misfireRate := m.2, knockRate := k.2.1, heavyRate := k.2.2
    evaluated := 0, misfires := 0, knockEvaluated := 0, knockCount := 0, heavyCount := 0, impactCount := 0 }

/-- MISFIRE_STATE, from the row before a close and the row after it (R144). -/
def misfireStateEvent (r : Reader) (c : Nat) (stamp : Stamp) (before after : Row) : Event :=
  { kind := .misfireState
    cylinder := some c
    detail := .misfireState before.misfireState after.misfireState
    value := BitVec.ofNat 32 (after.misfireRate.getD 0)
    limit := BitVec.ofNat 32 (if after.misfireLevel = .high then fFaultLimit r else fSuspectLimit r)
    stamp := stamp }

/-- KNOCK_STATE, from the row before a close and the row after it (R144). -/
def knockStateEvent (r : Reader) (c : Nat) (stamp : Stamp) (before after : Row) : Event :=
  { kind := .knockState
    cylinder := some c
    detail := .knockState before.knockState after.knockState
    value := BitVec.ofNat 32 ((if after.knockState = .heavy then after.heavyRate else after.knockRate).getD 0)
    limit := BitVec.ofNat 32 (if after.knockState = .heavy then fHeavyRate r else fLightRate r)
    stamp := stamp }

/-- An event is raised where a condition holds. -/
def raiseIf (e : Env) (cond : Bool) (ev : Event) (b : Blocks) : Blocks := if cond then raise e ev b else b

/-- One cylinder at a close (R143). -/
def closeCylinder (e : Env) (stamp : Stamp) (c : Nat) (b : Blocks) : Blocks :=
  let before := rowOf b.rate c
  let after := closeRow e.reader b.rate.wcur before
  raiseIf e (after.knockState != before.knockState) (knockStateEvent e.reader c stamp before after)
    (raiseIf e (after.misfireState != before.misfireState) (misfireStateEvent e.reader c stamp before after)
      (updateRow e c (closeRow e.reader b.rate.wcur) b))

/-- The cylinders of a list, one after the other (R143). -/
def closeCylinders (e : Env) (stamp : Stamp) : List Nat → Blocks → Blocks
  | [], b => b
  | c :: rest, b => closeCylinders e stamp rest (closeCylinder e stamp c b)

/-- A rating window closes and the next begins (R143). -/
def closeWindow (e : Env) (stamp : Stamp) (b : Blocks) : Blocks :=
  let c := closeCylinders e stamp (List.range' 1 (fNcyl e.reader)) b
  { c with rate := { c.rate with wcur := fRateWindow e.reader, cycles := 1 } }

/-- RATE takes a cycle start notice (R136). -/
def rateCycleStart (e : Env) (stamp : Stamp) (b : Blocks) : Blocks :=
  let c := tellHeader e (fun h => { h with cycle := b.crank.cycle }) b
  if c.rate.cycles < c.rate.wcur then { c with rate := { c.rate with cycles := c.rate.cycles + 1 } }
  else closeWindow e stamp c

/-! ### START -/

/-- The row of a cylinder code at a START: its start contents, or zero in every word above ncyl (R132, R148). -/
def startRow (ncyl code : Nat) : Row := if code < ncyl then Row.start (BitVec.ofNat 3 code) else Row.start 0

/-- The header at a START (R148). -/
def startHeader (freeze : FreezeState) : Header := { Header.reset with op := .loading, freeze := freeze }

/-- RATE's START values (R148). -/
def rateStart (r : Reader) : Rate :=
  { cycles := 0, wcur := fRateWindow r
    rows := #v[startRow (fNcyl r) 0, startRow (fNcyl r) 1, startRow (fNcyl r) 2, startRow (fNcyl r) 3,
      startRow (fNcyl r) 4, startRow (fNcyl r) 5, startRow (fNcyl r) 6, startRow (fNcyl r) 7]
    header := startHeader (frzStart r).state }

end Sys2Proof.Machine
end

