-- ==== Sys2Proof/Machine/Seg.lean ====
section
/-! DEFINITION. SEG: segment timing, the misfire metric, the segment classes and the history ring (R79 to R107). -/

namespace Sys2Proof.Machine

/-! ### The history ring -/

/-- The record after the most recently opened one (R104, step 1). -/
def nextRecord : Option (Fin 24) → Fin 24
  | none => 0
  | some i => i + 1

/-- The indices of the ring from the oldest record to the most recently opened one (R104). -/
def ringOrder (last : Option (Fin 24)) : List (Fin 24) :=
  (List.range 24).map (fun d => nextRecord last + Fin.ofNat 24 d)

/-- The ring with one record changed. -/
def setRecord (i : Fin 24) (r : CycleRecord) (g : Seg) : Seg := { g with ring := g.ring.set i r }

/-- A record's change to FINAL, and its notice to FRZ (R106). -/
def makeFinal (e : Env) (i : Fin 24) (b : Blocks) : Blocks :=
  let r := { b.seg.ring.get i with state := RecordState.final }
  finalNotice e r { b with seg := setRecord i r b.seg }

/-- Every CLOSED record of a list other than `keep` becomes FINAL, in the list's order (R106). -/
def finaliseClosed (e : Env) (keep : Option (Fin 24)) : List (Fin 24) → Blocks → Blocks
  | [], b => b
  | i :: rest, b =>
    finaliseClosed e keep rest
      (if (b.seg.ring.get i).state = .closed ∧ keep ≠ some i then makeFinal e i b else b)

/-- A record's state after the OPEN record closes (R106). -/
def closeIfOpen (r : CycleRecord) : CycleRecord :=
  if r.state = .opened then { r with state := .closed } else r

/-- The OPEN record, if any, closes as partial (R106, step 1). -/
def closePartial (g : Seg) : Seg := { g with ring := g.ring.map closeIfOpen }

/-- The ring is settled at a loss notice (R106). -/
def settleRing (e : Env) (b : Blocks) : Blocks :=
  finaliseClosed e none (ringOrder b.seg.last) { b with seg := closePartial b.seg }

/-- SEG takes a cycle start notice: a record opens for the new cycle (R104). -/
def segCycleStart (b : Blocks) : Blocks :=
  let i := nextRecord b.seg.last
  { b with seg := { setRecord i
        { state := .opened, cycle := b.crank.cycle, resync := b.seg.resync,
          positions := Vector.replicate 8 PositionResult.empty } b.seg with
      last := some i, resync := false } }

/-- The record that is OPEN, or none (R83, step 3). -/
def openRecord (g : Seg) : Option (Fin 24) := (ringOrder g.last).find? (fun i => (g.ring.get i).state == .opened)

/-- A position of a record with a segment filed: its knock fields stay (R105, R107). -/
def filedSegment (time : Nat) (c : SegClass) (metric : Option Int) (p : PositionResult) : PositionResult :=
  { p with time := time, segClass := c, metric := metric.getD 0 }

/-- A position of a record with a knock window filed: its segment fields stay (R107, R124). -/
def filedWindow (c : KnockClass) (ratio : Option Nat) (p : PositionResult) : PositionResult :=
  { p with knockClass := c, ratio := ratio.getD 0 }

/-- A record with one position changed. -/
def filePosition (k : Nat) (f : PositionResult → PositionResult) (r : CycleRecord) : CycleRecord :=
  { r with positions := r.positions.setIfInBounds k (f (positionOf r k)) }

/-- SEG with a position of a record changed. -/
def fileInto (i : Fin 24) (k : Nat) (f : PositionResult → PositionResult) (g : Seg) : Seg :=
  setRecord i (filePosition k f (g.ring.get i)) g

/-- A record becomes CLOSED and the record CLOSED before it becomes FINAL (R106). -/
def closeRecord (e : Env) (i : Fin 24) (b : Blocks) : Blocks :=
  finaliseClosed e (some i) (ringOrder b.seg.last)
    { b with seg := setRecord i { b.seg.ring.get i with state := .closed } b.seg }

/-! ### Opening segments -/

/-- SEG takes the entry to PHASED (R82). -/
def segPhased (g : Seg) : Seg :=
  { g with list := [], warmup := 0, holdoff := 0, starts := Vector.replicate 8 none, resync := true }

/-- The cylinder of a firing position (R81). -/
def cylinderOf (r : Reader) (k : Nat) : Nat := fFiringOrder r k

/-- A cylinder's bit in the cut mask (R81). -/
def cylinderCut (cut : BitVec 8) (c : Nat) : Bool := cut.getLsbD (c - 1)

/-- SEG takes the start of segment k (R83). -/
def segStart (e : Env) (k : Nat) (t : Stamp) (b : Blocks) : Blocks :=
  { b with seg := { b.seg with
      openSeg := some { position := k, start := t, cut := cylinderCut b.tap.cut (cylinderOf e.reader k),
                        record := openRecord b.seg }
      starts := b.seg.starts.setIfInBounds k (openRecord b.seg) } }

/-! ### Measuring -/

/-- The segment time T (R85). -/
def segTime (start stop : Stamp) : Nat := if (stop - start).toNat = 0 then 2 ^ 24 - 1 else (stop - start).toNat

/-- The engine speed of a segment (R85). -/
def rpmOf (ncyl time tickNs : Nat) : Nat := min 65535 (120 * 10 ^ 9 / (ncyl * time * tickNs))

/-- The entry of the preceding segment, T_prev (R86). -/
def prevEntry (l : List SegEntry) : Option SegEntry := l.getLast?

/-- The entry of the same firing position one cycle back, T_back (R86). -/
def backEntry (ncyl : Nat) (l : List SegEntry) : Option SegEntry :=
  if ncyl ≤ l.length then l[l.length - ncyl]? else none

/-- A number clamped to -32768..32767. -/
def clamp16 (v : Int) : Int := max (-32768) (min 32767 v)

/-- The misfire metric M of T, T_prev and T_back (R87). -/
def metricOf (ncyl time prev back : Nat) : Int :=
  let d : Int := (time : Int) - prev
  let c : Int := Int.tdiv ((time : Int) - back) ncyl
  clamp16 (Int.tdiv ((d - c) * 4096) time)

/-- The transient measure A of T and T_back (R88). -/
def transientMeasure (time back : Nat) : Nat := (if back ≤ time then time - back else back - time) * 4096 / time

/-- The rpm band (R89, step 1). -/
def rpmBand (r : Reader) (rpm : Nat) : Nat := ((List.range' 1 7).filter (fun i => fRpmEdge r i ≤ rpm)).length

/-- The effective threshold thr_eff, absent at surface level 3 (R89). -/
def thrEff (r : Reader) (rpm load surface : Nat) : Option Nat :=
  if surface < 3 then some (min 32767 (fThrMap r (rpmBand r rpm) load * fSurfScale r surface / 8)) else none

/-- What SEG works out at a completion before it gives the class (R84, steps 1 to 4). -/
structure Measures where
  position : Nat
  cut : Bool
  time : Nat
  rpm : Nat
  prev : Option SegEntry
  back : Option SegEntry
  metric : Option Int
  transient : Option Nat
  surface : Nat
  threshold : Option Nat
  deriving DecidableEq, Repr

/-- The measures of the open segment ended at t (R84, steps 1 to 4). -/
def measure (e : Env) (o : OpenSegment) (t : Stamp) (b : Blocks) : Measures :=
  let ncyl := fNcyl e.reader
  let time := segTime o.start t
  let rpm := rpmOf ncyl time (fTickNs e.reader)
  let prev := prevEntry b.seg.list
  let back := backEntry ncyl b.seg.list
  { position := o.position
    cut := o.cut
    time := time
    rpm := rpm
    prev := prev
    back := back
    metric := prev.bind (fun p => back.map (fun q => metricOf ncyl time p.time q.time))
    transient := back.map (fun q => transientMeasure time q.time)
    surface := b.tap.surface.toNat
    threshold := thrEff e.reader rpm b.tap.load.toNat b.tap.surface.toNat }

/-! ### Classes -/

/-- An entry of the list is CUT; an absent entry is not (R94). -/
def entryCut : Option SegEntry → Bool
  | some x => x.segClass == .cut
  | none => false

/-- The SHADOW condition (R94). -/
def shadowed (r : Reader) (m : Measures) : Bool :=
  fShadowEnable r == 1 && (entryCut m.prev || entryCut m.back)

/-- The transient test would detect: A > `transient_limit` (R95). -/
def exceedsTransient (r : Reader) (m : Measures) : Bool :=
  match m.transient with
  | some a => fTransientLimit r < a
  | none => false

/-- M ≥ thr_eff, both present (R96). -/
def exceedsThreshold (m : Measures) : Bool :=
  match m.metric, m.threshold with
  | some v, some thr => (thr : Int) ≤ v
  | _, _ => false

/-- The class of a completed segment, by the precedence of R90. -/
def classify (r : Reader) (warmup holdoff : Nat) (m : Measures) : SegClass :=
  if m.cut then .cut
  else if warmup < fNcyl r then .warmup
  else if m.surface = 3 then .rough
  else if shadowed r m then .shadow
  else if exceedsTransient r m ∨ 0 < holdoff then .transient
  else if exceedsThreshold m then .misfire
  else .fired

/-- The transient test detects on this segment: it is not made for CUT, WARMUP and SHADOW (R95). -/
def detects (r : Reader) (c : SegClass) (m : Measures) : Bool :=
  match c with
  | .cut => false
  | .warmup => false
  | .shadow => false
  | _ => exceedsTransient r m

/-- The holdoff counter after a completion (R95). -/
def holdoffAfter (r : Reader) (detected : Bool) (holdoff : Nat) : Nat :=
  if detected then fHoldoffCycles r * fNcyl r else holdoff - 1

/-- The list after an entry joins its tail, the oldest leaving a full list (R86). -/
def joinList (ncyl : Nat) (x : SegEntry) (l : List SegEntry) : List SegEntry :=
  (if l.length < 2 * ncyl then l else l.drop 1) ++ [x]

/-! ### Completing a segment -/

/-- SEG's own state after steps 1 to 7 of a completion (R84). -/
def segMeasured (r : Reader) (m : Measures) (c : SegClass) (g : Seg) : Seg :=
  { g with
    rpm := m.rpm
    holdoff := holdoffAfter r (detects r c m) g.holdoff
    warmup := min (fNcyl r) (g.warmup + 1)
    list := joinList (fNcyl r) ⟨m.time, c⟩ g.list }

/-- The result is filed into the start record; the last firing position closes it (R84 step 8, R105, R106). -/
def fileSegment (e : Env) (record : Option (Fin 24)) (m : Measures) (c : SegClass) (b : Blocks) : Blocks :=
  match record with
  | none => b
  | some i =>
    let filed := { b with seg := fileInto i m.position (filedSegment m.time c m.metric) b.seg }
    if m.position + 1 = fNcyl e.reader then closeRecord e i filed else filed

/-- The MISFIRE event (R98). -/
def misfireEvent (e : Env) (m : Measures) (t : Stamp) : Event :=
  { kind := .misfire
    cylinder := some (cylinderOf e.reader m.position)
    detail := .none
    value := BitVec.ofInt 32 (m.metric.getD 0)
    limit := BitVec.ofNat 32 (m.threshold.getD 0)
    stamp := t }

/-- The segment result handed to RATE (R97). -/
def segmentResult (e : Env) (m : Measures) (c : SegClass) : SegmentResult :=
  { cylinder := cylinderOf e.reader m.position, position := m.position, segClass := c, metric := m.metric,
    rpm := m.rpm }

/-- No segment is open. -/
def dropSegment (b : Blocks) : Blocks := { b with seg := { b.seg with openSeg := none } }

/-- A segment of these measures and this class goes through steps 5 to 9 of R84. -/
def finishSegment (e : Env) (record : Option (Fin 24)) (m : Measures) (c : SegClass) (t : Stamp) (b : Blocks) :
    Blocks :=
  dropSegment
    (raiseIf e (c == .misfire) (misfireEvent e m t)
      (takeSegmentResult e (segmentResult e m c)
        (fileSegment e record m c { b with seg := segMeasured e.reader m c b.seg })))

/-- SEG takes the end of a segment at timestamp t (R84). -/
def segEnd (e : Env) (t : Stamp) (b : Blocks) : Blocks :=
  match b.seg.openSeg with
  | none => b
  | some o =>
    let m := measure e o t b
    finishSegment e o.record m (classify e.reader b.seg.warmup b.seg.holdoff m) t b

/-- SEG takes a loss notice (R100). -/
def segLoss (e : Env) (b : Blocks) : Blocks := settleRing e (dropSegment b)

end Sys2Proof.Machine
end

