-- ==== Sys2Proof/Machine/Knock.lean ====
section
/-! DEFINITION. KNOCK: samples, bias, knock windows, classes and backgrounds (R108 to R129). -/

namespace Sys2Proof.Machine

/-! ### Samples -/

/-- The bias after a sample (R113): the difference is shifted right rounding toward minus infinity. -/
def biasAfter (shift : Nat) (bias s : Int) : Int := bias + (s - bias) / (2 : Int) ^ shift

/-- A part after a sample whose distance from the bias is `d` (R114). -/
def integrate (d : Nat) (p : SensorPart) : SensorPart :=
  { p with accumulator := min (2 ^ 32 - 1) (p.accumulator + d), count := satSucc 65535 p.count }

/-- The open window after a sample of an unsuspended sensor (R114). -/
def integrateInto (x : Sensor) (d : Nat) (w : KnockWindow) : KnockWindow :=
  { w with parts := w.parts.set x ((w.parts.get x).map (integrate d)) }

/-- KNOCK takes a sample of sensor x (R113, R114). -/
def takeSample (r : Reader) (x : Sensor) (s : Int) (k : Knock) : Knock :=
  let bias := biasAfter (fBiasShift r) (k.bias.get x) s
  { k with
    bias := k.bias.set x bias
    openWin := if k.suspended.get x then k.openWin else k.openWin.map (integrateInto x (s - bias).natAbs) }

/-! ### Opening -/

/-- A range of firing positions from first to last, which may wrap past the last position (R111). -/
def coveredBy (first last j : Nat) : Bool :=
  if first ≤ last then first ≤ j && j ≤ last else first ≤ j || j ≤ last

/-- Sensor x covers firing position j (R111). -/
def covers (e : Env) (x : Sensor) (j : Nat) : Bool :=
  match x with
  | .A => coveredBy (fSensAFirst e.reader) (fSensALast e.reader) j
  | .B => e.table.knockSize.b != 0 && coveredBy (fSensBFirst e.reader) (fSensBLast e.reader) j

/-- The part a window opens with for a sensor that covers it (R112, step 3). -/
def openPart (e : Env) (x : Sensor) (j : Nat) (suspended : Bool) : Option SensorPart :=
  if covers e x j then some { accumulator := 0, count := 0, tainted := suspended } else none

/-- KNOCK takes the open of firing position j's window (R112). -/
def knockOpen (e : Env) (j : Nat) (b : Blocks) : Blocks :=
  { b with knock := { b.knock with
      openWin := some
        { position := j
          cylinder := cylinderOf e.reader j
          cut := cylinderCut b.tap.cut (cylinderOf e.reader j)
          parts := ⟨openPart e .A j b.knock.suspended.a, openPart e .B j b.knock.suspended.b⟩ } } }

/-! ### Classing one sensor's part -/

/-- What a sensor part comes to at the close (R118 to R122): class, ratio, intensity, and the background after. -/
structure PartResult where
  knockClass : KnockClass
  ratio : Option Nat
  intensity : Nat
  background : Option Nat
  deriving DecidableEq, Repr

/-- The background after a QUIET part (R122). -/
def backgroundAfter (shift intensity bg : Nat) : Nat :=
  (max 1 ((bg : Int) + ((intensity : Int) - bg) / (2 : Int) ^ shift)).toNat

/-- The knock ratio R (R121). -/
def ratioOf (intensity bg : Nat) : Nat := min 65535 (intensity * 16 / bg)

/-- A part whose intensity is below the ceiling and whose background is seeded (R121, R122). -/
def ratedPart (r : Reader) (intensity bg : Nat) : PartResult :=
  let ratio := ratioOf intensity bg
  if fHeavyThr r ≤ ratio then ⟨.heavy, some ratio, intensity, some bg⟩
  else if fKnockThr r ≤ ratio then ⟨.knock, some ratio, intensity, some bg⟩
  else ⟨.quiet, some ratio, intensity, some (backgroundAfter (fBgShift r) intensity bg)⟩

/-- A part that reaches the evaluation (R119, R120). -/
def evaluatePart (r : Reader) (intensity : Nat) (bg : Option Nat) : PartResult :=
  if fImpactCeiling r ≤ intensity then ⟨.impact, none, intensity, bg⟩
  else match bg with
    | none => ⟨.learn, none, intensity, some (max 1 intensity)⟩
    | some v => ratedPart r intensity v

/-- A sensor part classed at the close (R118). -/
def classPart (r : Reader) (cut : Bool) (bg : Option Nat) (p : SensorPart) : PartResult :=
  if p.tainted then ⟨.invalid, none, 0, bg⟩
  else if cut then ⟨.cut, none, 0, bg⟩
  else if p.count < fKnockMinSamples r then ⟨.short, none, 0, bg⟩
  else evaluatePart r (p.accumulator / p.count) bg

/-! ### Combining the sensors (R123) -/

/-- What a window comes to: final class, final R, deciding sensor, and the larger I among the IMPACT parts. -/
structure WindowVerdict where
  knockClass : KnockClass
  ratio : Option Nat
  deciding : Deciding
  intensity : Nat
  deriving DecidableEq, Repr

/-- A part's result as the window's (R123). -/
def verdictOf (x : Deciding) (p : PartResult) : WindowVerdict := ⟨p.knockClass, p.ratio, x, p.intensity⟩

/-- The place of a class without a ratio in the order INVALID, CUT, SHORT, LEARN (R123, case 4). -/
def unratedOrder : KnockClass → Nat
  | .invalid => 0
  | .cut => 1
  | .short => 2
  | .learn => 3
  | _ => 4

/-- Two parts of which at least one is IMPACT (R123, case 1; R126). -/
def combineImpact (a b : PartResult) : WindowVerdict :=
  if a.knockClass = .impact then
    if b.knockClass = .impact then ⟨.impact, none, .both, max a.intensity b.intensity⟩
    else verdictOf .a a
  else verdictOf .b b

/-- Two parts of which none is IMPACT (R123, cases 2 to 4). -/
def combineRatios (a b : PartResult) : WindowVerdict :=
  match a.ratio, b.ratio with
  | some ra, some rb => if ra < rb then verdictOf .b b else verdictOf .a a
  | some _, none => verdictOf .a a
  | none, some _ => verdictOf .b b
  | none, none =>
    if unratedOrder a.knockClass < unratedOrder b.knockClass then verdictOf .b b else verdictOf .a a

/-- The verdict of a window from its sensor parts (R123). -/
def combine : Option PartResult → Option PartResult → WindowVerdict
  | none, none => ⟨.notCovered, none, .a, 0⟩
  | some a, none => verdictOf .a a
  | none, some b => verdictOf .b b
  | some a, some b =>
    if a.knockClass = .impact ∨ b.knockClass = .impact then combineImpact a b else combineRatios a b

/-! ### Closing -/

/-- The background of a cylinder on a sensor (R108). -/
def backgroundOf (k : Knock) (x : Sensor) (c : Nat) : Option Nat := (k.background.get x).get (cylinderCode c)

/-- The part of a sensor classed at the close, where the window has one (R117, step 1). -/
def partResult (r : Reader) (w : KnockWindow) (k : Knock) (x : Sensor) : Option PartResult :=
  (w.parts.get x).map (classPart r w.cut (backgroundOf k x w.cylinder))

/-- KNOCK with a sensor's background after its part was classed (R120, R122). -/
def learn (x : Sensor) (c : Nat) (p : Option PartResult) (k : Knock) : Knock :=
  match p with
  | none => k
  | some q =>
    { k with background := k.background.set x ((k.background.get x).set (cylinderCode c) q.background) }

/-- The start record of a firing position in SEG (R83). -/
def startRecord (g : Seg) (j : Nat) : Option (Fin 24) := g.starts[j]?.getD none

/-- The window's result is filed into the start record of its firing position, if any (R124). -/
def fileWindow (j : Nat) (v : WindowVerdict) (b : Blocks) : Blocks :=
  match startRecord b.seg j with
  | none => b
  | some i => { b with seg := fileInto i j (filedWindow v.knockClass v.ratio) b.seg }

/-- The background of a cylinder on sensor B as RATE is handed it: UNSEEDED with KNOCK_B absent (R125). -/
def handedBackgroundB (e : Env) (k : Knock) (c : Nat) : Option Nat :=
  if e.table.knockSize.b = 0 then none else backgroundOf k .B c

/-- The window result handed to RATE (R125). -/
def windowResult (e : Env) (w : KnockWindow) (v : WindowVerdict) (k : Knock) : WindowResult :=
  { cylinder := w.cylinder, position := w.position, knockClass := v.knockClass, ratio := v.ratio
    background := ⟨backgroundOf k .A w.cylinder, handedBackgroundB e k w.cylinder⟩ }

/-- The event a final class calls for, if any (R126). -/
def windowEvent (r : Reader) (w : KnockWindow) (v : WindowVerdict) (stamp : Stamp) : Option Event :=
  match v.knockClass with
  | .knock => some
      { kind := .knock, cylinder := some w.cylinder, detail := .knock false v.deciding
        value := BitVec.ofNat 32 (v.ratio.getD 0), limit := BitVec.ofNat 32 (fKnockThr r), stamp := stamp }
  | .heavy => some
      { kind := .knock, cylinder := some w.cylinder, detail := .knock true v.deciding
        value := BitVec.ofNat 32 (v.ratio.getD 0), limit := BitVec.ofNat 32 (fHeavyThr r), stamp := stamp }
  | .impact => some
      { kind := .impact, cylinder := some w.cylinder, detail := .impact v.deciding
        value := BitVec.ofNat 32 v.intensity, limit := BitVec.ofNat 32 (fImpactCeiling r), stamp := stamp }
  | _ => none

/-- An event is raised where there is one. -/
def raiseOption (e : Env) (ev : Option Event) (b : Blocks) : Blocks :=
  match ev with
  | some v => raise e v b
  | none => b

/-- No window is open. -/
def dropWindow (b : Blocks) : Blocks := { b with knock := { b.knock with openWin := none } }

/-- KNOCK with both sensors' backgrounds after their parts were classed (R117, step 1). -/
def learnBoth (r : Reader) (w : KnockWindow) (k : Knock) : Knock :=
  learn .B w.cylinder (partResult r w k .B) (learn .A w.cylinder (partResult r w k .A) k)

/-- A window of this verdict goes through steps 2 to 4 of R117. -/
def finishWindow (e : Env) (w : KnockWindow) (v : WindowVerdict) (stamp : Stamp) (b : Blocks) : Blocks :=
  dropWindow
    (raiseOption e (windowEvent e.reader w v stamp)
      (takeWindowResult e (windowResult e w v b.knock) (fileWindow w.position v b)))

/-- KNOCK takes the close of a window at a tooth of this timestamp (R117). -/
def knockClose (e : Env) (stamp : Stamp) (b : Blocks) : Blocks :=
  match b.knock.openWin with
  | none => b
  | some w =>
    finishWindow e w (combine (partResult e.reader w b.knock .A) (partResult e.reader w b.knock .B)) stamp
      { b with knock := learnBoth e.reader w b.knock }

end Sys2Proof.Machine
end

