-- ==== Sys2Proof/Machine/Crank.lean ====
section
/-! DEFINITION. CRANK: tooth periods, sync, cam phasing, the engine cycle, loss of sync and the stall timer (R57 to R78). -/

namespace Sys2Proof.Machine

/-! ### Periods -/

/-- The classes of a period (R60). -/
inductive PeriodClass where
  | glitch
  | normal
  | gap
  | erratic
  deriving DecidableEq, Repr

/-- The ratio r of a period to the reference (R60). -/
def ratioTo (p pPrev : Nat) : Nat := p * 16 / pPrev

/-- The class of a ratio (R60). -/
def classOfRatio (r : Reader) (ratio : Nat) : PeriodClass :=
  if ratio < fGlitchMin r then .glitch
  else if ratio < fGapMin r then .normal
  else if ratio ≤ fGapMax r then .gap
  else .erratic

/-- The class of a period that is not wide (R59). -/
def classOfPeriod (r : Reader) (p : Nat) (pPrev : Option Nat) : PeriodClass :=
  if p = 0 then .glitch
  else match pPrev with
    | none => .normal
    | some q => classOfRatio r (ratioTo p q)

/-- The ratio as a loss of sync reports it: 0 where there is no reference. -/
def reportedRatio (p : Nat) (pPrev : Option Nat) : Nat := pPrev.elim 0 (ratioTo p)

/-- The last position before the gap, N-m-1. -/
def lastTooth (r : Reader) : Nat := fTeethN r - fMissingM r - 1

/-- CRANK after an accepted NORMAL period (R60). -/
def acceptNormal (t : Stamp) (p : Nat) (c : Crank) : Crank := { c with tPrev := some t, pPrev := some p }

/-- CRANK after an accepted GAP period: the reference is one pitch, and the glitch count returns to 0 (R60, R61). -/
def acceptGap (r : Reader) (t : Stamp) (p : Nat) (c : Crank) : Crank :=
  { c with tPrev := some t, pPrev := some (max 1 (p / (fMissingM r + 1))), glitch := 0 }

/-- CRANK after a first tooth (R59). -/
def firstTooth (t : Stamp) (c : Crank) : Crank := { c with tPrev := some t, pPrev := none }

/-- CRANK in HUNT with the hunt begun at a tooth (R62, R63). -/
def huntFrom (t : Stamp) (c : Crank) : Crank :=
  { c with sync := .hunt, tPrev := some t, pPrev := none, glitch := 0 }

/-- The blocks with CRANK replaced. -/
def setCrank (c : Crank) (b : Blocks) : Blocks := { b with crank := c }

/-- CRANK's new state, of which RATE is told (R57). -/
def moveCrank (e : Env) (c : Crank) (b : Blocks) : Blocks := tellSync e (setCrank c b)

/-! ### Notices of a loss -/

/-- The sync states in which a loss is handed on (R72). -/
def synced : SyncState → Bool
  | .crankSync => true
  | .phased => true
  | .stopped => false
  | .hunt => false
  | .verify => false

/-- The loss notice to SEG, the abort notice to KNOCK and the loss notice to FRZ, in this order (R72). -/
def lossNotices (e : Env) (b : Blocks) : Blocks := frzLoss e (dropWindow (segLoss e b))

/-- CRANK's own state at a loss of sync, the position, cycle number and stall timer kept (R72). -/
def crankLost (st : SyncState) (tPrev : Option Stamp) (c : Crank) : Crank :=
  { c with
    sync := st, tPrev := tPrev, pPrev := none, glitch := 0, verify := 0, confirmed := 0, unphased := 0
    noCam := false, spanEdges := 0, spanError := false, camRun := 0 }

/-- SYNC_LOST (R74). -/
def syncLostEvent (reason : LossReason) (position limit : Nat) (stamp : Stamp) : Event :=
  { kind := .syncLost, cylinder := none, detail := .syncLost reason, value := BitVec.ofNat 32 position
    limit := BitVec.ofNat 32 limit, stamp := stamp }

/-- STALL (R74). -/
def stallEvent (r : Reader) (position : Nat) : Event :=
  { kind := .stall, cylinder := none, detail := .none, value := BitVec.ofNat 32 position
    limit := BitVec.ofNat 32 (fStallTimeout r), stamp := 0 }

/-- CRANK's new state after a loss or a stall, with the notices and the event where it was synced before, and
RATE told (R72, R76). -/
def loseTo (e : Env) (c : Crank) (ev : Event) (b : Blocks) : Blocks :=
  if synced b.crank.sync then tellSync e (raise e ev (lossNotices e (setCrank c b)))
  else moveCrank e c b

/-- CRANK takes a loss of sync (R72). -/
def lossOfSync (e : Env) (reason : LossReason) (tPrev : Option Stamp) (limit : Nat) (stamp : Stamp)
    (b : Blocks) : Blocks :=
  loseTo e (crankLost .hunt tPrev b.crank) (syncLostEvent reason b.crank.position limit stamp) b

/-- A GLITCH tooth (R61). -/
def glitchTooth (e : Env) (t : Stamp) (b : Blocks) : Blocks :=
  if fGlitchLimit e.reader < b.crank.glitch + 1 then
    lossOfSync e .glitch (some t) (b.crank.glitch + 1) t b
  else setCrank { b.crank with glitch := b.crank.glitch + 1 } b

/-! ### Cam faults -/

/-- CAM_FAULT (R74). -/
def camFaultEvent (reason : CamReason) (value limit : Nat) (stamp : Stamp) : Event :=
  { kind := .camFault, cylinder := none, detail := .camFault reason, value := BitVec.ofNat 32 value
    limit := BitVec.ofNat 32 limit, stamp := stamp }

/-- An unphased revolution is counted, and a missing cam reported once per stay (R67). -/
def countUnphased (e : Env) (t : Stamp) (b : Blocks) : Blocks :=
  let n := satSucc 255 b.crank.unphased
  if fPhaseTimeoutRevs e.reader ≤ n ∧ b.crank.noCam = false then
    raise e (camFaultEvent .noCam n (fPhaseTimeoutRevs e.reader) t)
      (setCrank { b.crank with unphased := n, noCam := true } b)
  else setCrank { b.crank with unphased := n } b

/-- PHASE_LOST (R74). -/
def phaseLostEvent (t : Stamp) : Event :=
  { kind := .phaseLost, cylinder := none, detail := .none, value := 3, limit := 3, stamp := t }

/-- CRANK's own state at a phase loss (R73). -/
def crankUnphased (r : Reader) (c : Crank) : Crank :=
  { c with
    sync := .crankSync, position := c.position % fTeethN r, camRun := 0, spanEdges := 0, spanError := false
    unphased := 0, noCam := false }

/-- CRANK takes a phase loss at the gap tooth (R73). -/
def phaseLoss (e : Env) (t : Stamp) (b : Blocks) : Blocks :=
  tellSync e (raise e (phaseLostEvent t)
    (lossNotices e (setCrank (crankUnphased e.reader b.crank) b)))

/-- A span without an edge and without an error reports MISSING (R70, step 1). -/
def spanMissing (e : Env) (t : Stamp) (b : Blocks) : Blocks :=
  if b.crank.spanEdges = 0 ∧ b.crank.spanError = false then
    raise e (camFaultEvent .missing 0 b.crank.camRun t) (setCrank { b.crank with spanError := true } b)
  else b

/-- The cam error run after a span (R70, step 2). -/
def runAfter (c : Crank) : Nat := if c.spanError then c.camRun + 1 else 0

/-- The span that ends at engine position 0 is judged (R70, steps 2 to 4), its MISSING already reported. -/
def closeSpan (e : Env) (t : Stamp) (b : Blocks) : Blocks :=
  if 3 ≤ runAfter b.crank then phaseLoss e t (setCrank { b.crank with camRun := runAfter b.crank } b)
  else setCrank { b.crank with camRun := runAfter b.crank, spanEdges := 0, spanError := false } b

/-- The span that ends at engine position 0 is judged (R70). -/
def judgeSpan (e : Env) (t : Stamp) (b : Blocks) : Blocks := closeSpan e t (spanMissing e t b)

/-! ### Handing on a tooth in PHASED (R69) -/

/-- The firing position whose position function gives engine position p, if any. -/
def positionAt (r : Reader) (f : Reader → Nat → Nat) (p : Nat) : Option Nat :=
  (List.range (fNcyl r)).find? (fun k => f r k == p)

/-- An effect where a firing position matches. -/
def atPosition (o : Option Nat) (f : Nat → Blocks → Blocks) (b : Blocks) : Blocks :=
  match o with
  | some k => f k b
  | none => b

/-- The cycle number increases, and SEG and then RATE are told of the new cycle (R69 item 3, R71). -/
def cycleStart (e : Env) (t : Stamp) (b : Blocks) : Blocks :=
  rateCycleStart e t (segCycleStart (setCrank { b.crank with cycle := b.crank.cycle + 1 } b))

/-- What CRANK hands on from a tooth accepted at engine position p, in the order of R69. -/
def handOn (e : Env) (p : Nat) (t : Stamp) (b : Blocks) : Blocks :=
  let boundary := positionAt e.reader segmentBoundary p
  let b1 := atPosition boundary (fun _ => segEnd e t) b
  let b2 := atPosition (positionAt e.reader windowClose p) (fun _ => knockClose e t) b1
  let b3 := if boundary = some 0 then cycleStart e t b2 else b2
  let b4 := atPosition boundary (fun k => segStart e k t) b3
  atPosition (positionAt e.reader windowOpen p) (fun j => knockOpen e j) b4

/-! ### Teeth, state by state -/

/-- A tooth in HUNT whose period is classed (R62). -/
def toothHunt (e : Env) (t : Stamp) (p : Nat) (b : Blocks) : Blocks :=
  match classOfPeriod e.reader p b.crank.pPrev with
  | .normal => setCrank (acceptNormal t p b.crank) b
  | .gap =>
    moveCrank e { acceptGap e.reader t p b.crank with
      sync := .verify, position := 0, verify := 0, confirmed := 0 } b
  | .erratic => setCrank (huntFrom t b.crank) b
  | .glitch => glitchTooth e t b

/-- CRANK after a confirmed revolution (R63). -/
def confirmRevolution (r : Reader) (c : Crank) : Crank :=
  if fConfirmRevs r ≤ c.confirmed + 1 then
    { c with confirmed := c.confirmed + 1, verify := 0, position := 0, sync := .crankSync, unphased := 0,
             noCam := false }
  else { c with confirmed := c.confirmed + 1, verify := 0, position := 0 }

/-- A tooth in VERIFY whose period is classed (R63). -/
def toothVerify (e : Env) (t : Stamp) (p : Nat) (b : Blocks) : Blocks :=
  match classOfPeriod e.reader p b.crank.pPrev with
  | .normal =>
    if b.crank.verify < lastTooth e.reader then
      setCrank { acceptNormal t p b.crank with
        verify := b.crank.verify + 1, position := b.crank.verify + 1 } b
    else moveCrank e (huntFrom t b.crank) b
  | .gap =>
    if b.crank.verify = lastTooth e.reader then
      moveCrank e (confirmRevolution e.reader (acceptGap e.reader t p b.crank)) b
    else moveCrank e (huntFrom t b.crank) b
  | .erratic => moveCrank e (huntFrom t b.crank) b
  | .glitch => glitchTooth e t b

/-- A loss of sync caused by a tooth's period, FRAMING or ERRATIC (R64, R68, R72). -/
def toothLoss (e : Env) (reason : LossReason) (t : Stamp) (p : Nat) (b : Blocks) : Blocks :=
  lossOfSync e reason (some t) (reportedRatio p b.crank.pPrev) t b

/-- A tooth in CRANK_SYNC whose period is classed (R64). -/
def toothCrankSync (e : Env) (t : Stamp) (p : Nat) (b : Blocks) : Blocks :=
  match classOfPeriod e.reader p b.crank.pPrev with
  | .normal =>
    if b.crank.position < lastTooth e.reader then
      setCrank { acceptNormal t p b.crank with position := b.crank.position + 1 } b
    else toothLoss e .framing t p b
  | .gap =>
    if b.crank.position = lastTooth e.reader then
      countUnphased e t (setCrank { acceptGap e.reader t p b.crank with position := 0 } b)
    else toothLoss e .framing t p b
  | .erratic => toothLoss e .erratic t p b
  | .glitch => glitchTooth e t b

/-- The gap is due after engine position q: q is N-m-1 or 2N-m-1 (R68). -/
def gapDue (r : Reader) (q : Nat) : Bool := q == lastTooth r || q == fTeethN r + lastTooth r

/-- The engine position after an accepted GAP (R68). -/
def positionAfterGap (r : Reader) (q : Nat) : Nat := (q + fMissingM r + 1) % (2 * fTeethN r)

/-- The span that ends at engine position 0 is judged before the tooth goes on (R68, R70). -/
def spanAt (e : Env) (t : Stamp) (b : Blocks) : Blocks :=
  if b.crank.position = 0 then judgeSpan e t b else b

/-- A tooth goes on to R69 where the state is still PHASED. -/
def handOnIfPhased (e : Env) (p : Nat) (t : Stamp) (b : Blocks) : Blocks :=
  if b.crank.sync = .phased then handOn e p t b else b

/-- A tooth in PHASED whose period is classed (R68). -/
def toothPhased (e : Env) (t : Stamp) (p : Nat) (b : Blocks) : Blocks :=
  match classOfPeriod e.reader p b.crank.pPrev with
  | .normal =>
    if gapDue e.reader b.crank.position then toothLoss e .framing t p b
    else handOn e (b.crank.position + 1) t
      (setCrank { acceptNormal t p b.crank with position := b.crank.position + 1 } b)
  | .gap =>
    if gapDue e.reader b.crank.position then
      handOnIfPhased e (positionAfterGap e.reader b.crank.position) t
        (spanAt e t (setCrank { acceptGap e.reader t p b.crank with
          position := positionAfterGap e.reader b.crank.position } b))
    else toothLoss e .framing t p b
  | .erratic => toothLoss e .erratic t p b
  | .glitch => glitchTooth e t b

/-- A tooth with a period of at least 2^23 (R59). -/
def toothWide (e : Env) (t : Stamp) (b : Blocks) : Blocks :=
  match b.crank.sync with
  | .stopped => moveCrank e (huntFrom t b.crank) b
  | .hunt => setCrank (firstTooth t b.crank) b
  | .verify => moveCrank e (huntFrom t b.crank) b
  | .crankSync => lossOfSync e .erratic (some t) 0 t b
  | .phased => lossOfSync e .erratic (some t) 0 t b

/-- A tooth with a period below 2^23, by sync state. -/
def toothPeriod (e : Env) (t : Stamp) (p : Nat) (b : Blocks) : Blocks :=
  match b.crank.sync with
  | .stopped => moveCrank e (huntFrom t b.crank) b
  | .hunt => toothHunt e t p b
  | .verify => toothVerify e t p b
  | .crankSync => toothCrankSync e t p b
  | .phased => toothPhased e t p b

/-- A tooth with no t_prev: a first tooth, which moves STOPPED to HUNT (R59, R62). -/
def toothFirst (e : Env) (t : Stamp) (b : Blocks) : Blocks :=
  match b.crank.sync with
  | .stopped => moveCrank e (huntFrom t b.crank) b
  | _ => setCrank (firstTooth t b.crank) b

/-- CRANK processes a tooth (R59). -/
def tooth (e : Env) (t : Stamp) (b : Blocks) : Blocks :=
  match b.crank.tPrev with
  | none => toothFirst e t b
  | some u => if 2 ^ 23 ≤ (t - u).toNat then toothWide e t b else toothPeriod e t (t - u).toNat b

/-! ### Cam edges -/

/-- The kind of record that `cam_edge` selects (R65, R187). -/
def phasingKind (r : Reader) : ToothKind := if fCamEdge r = 0 then .camRise else .camFall

/-- A revolution position lies in the cam window (R65). -/
def inCamWindow (r : Reader) (p : Nat) : Bool := fCamLo r ≤ p && p ≤ fCamHi r

/-- SYNC_GAINED (R74). -/
def syncGainedEvent (c : Crank) (t : Stamp) : Event :=
  { kind := .syncGained, cylinder := none, detail := .none, value := BitVec.ofNat 32 c.position
    limit := BitVec.ofNat 32 c.unphased, stamp := t }

/-- CRANK's own state at the entry to PHASED (R66, steps 1 to 3). -/
def crankPhased (c : Crank) : Crank :=
  { c with sync := .phased, spanEdges := 1, spanError := false, camRun := 0 }

/-- A phasing edge in the window phases the crank (R66). -/
def enterPhased (e : Env) (t : Stamp) (b : Blocks) : Blocks :=
  tellSync e (raise e (syncGainedEvent b.crank t)
    { setCrank (crankPhased b.crank) b with seg := segPhased b.seg })

/-- A phasing edge in the window in revolution 0 of PHASED (R70). -/
def edgeRev0 (e : Env) (t : Stamp) (p : Nat) (b : Blocks) : Blocks :=
  let n := satSucc 255 b.crank.spanEdges
  if 2 ≤ n then
    raise e (camFaultEvent .extra p b.crank.camRun t)
      (setCrank { b.crank with spanEdges := n, spanError := true } b)
  else setCrank { b.crank with spanEdges := n } b

/-- A phasing edge in the window in revolution 1 of PHASED (R70). -/
def edgeRev1 (e : Env) (t : Stamp) (p : Nat) (b : Blocks) : Blocks :=
  raise e (camFaultEvent .wrongRev p b.crank.camRun t) (setCrank { b.crank with spanError := true } b)

/-- CRANK processes a cam edge (R65, R66, R70). -/
def camEdge (e : Env) (kind : ToothKind) (t : Stamp) (b : Blocks) : Blocks :=
  let p := b.crank.position % fTeethN e.reader
  if kind = phasingKind e.reader ∧ inCamWindow e.reader p then
    match b.crank.sync with
    | .stopped => b
    | .hunt => b
    | .verify => b
    | .crankSync => enterPhased e t b
    | .phased => if b.crank.position < fTeethN e.reader then edgeRev0 e t p b else edgeRev1 e t p b
  else b

/-! ### Taking a record -/

/-- A record's loss note is taken as a loss of sync; in STOPPED it is set aside (R58, step 1). -/
def takeNote (e : Env) (r : ToothRecord) (b : Blocks) : Blocks :=
  match b.crank.sync, r.note with
  | .stopped, _ => b
  | _, .none => b
  | _, .skip => lossOfSync e .skip none 0 r.stamp b
  | _, .overrun => lossOfSync e .overrun none 0 r.stamp b

/-- The stall timer restarts with elapsed time 0 (R76). -/
def restartStall (b : Blocks) : Blocks := setCrank { b.crank with stall := .running 0 } b

/-- A taken record after its loss note (R58, steps 2 and 3). -/
def takeKind (e : Env) (r : ToothRecord) (b : Blocks) : Blocks :=
  match r.kind with
  | .crank => tooth e r.stamp (restartStall b)
  | .camRise => camEdge e .camRise r.stamp b
  | .camFall => camEdge e .camFall r.stamp b

/-- CRANK takes a record and processes it whole (R58). -/
def takeRecord (e : Env) (r : ToothRecord) (b : Blocks) : Blocks := takeKind e r (takeNote e r b)

/-- The blocks with a tooth FIFO of these records. -/
def setFifo (l : List ToothRecord) (b : Blocks) : Blocks := { b with tap := { b.tap with fifo := l } }

/-- CRANK takes the record at the head of the tooth FIFO, in RUNNING and where there is one (R58). -/
def takeHead (e : Env) (b : Blocks) : Blocks :=
  match b.tap.fifo with
  | [] => b
  | r :: rest => if e.op = .running then takeRecord e r (setFifo rest b) else b

/-! ### The stall timer, the sync reset request, STOP -/

/-- CRANK's own state at an expiry of the stall timer (R76). -/
def crankStalled (c : Crank) : Crank := { crankLost .stopped none c with stall := .halted }

/-- CRANK takes an expiry of the stall timer (R76). -/
def stallExpiry (e : Env) (b : Blocks) : Blocks :=
  loseTo e (crankStalled b.crank) (stallEvent e.reader b.crank.position) b

/-- The stall timer expires where it is RUNNING; in HALTED there is nothing to expire (R76). -/
def expireStall (e : Env) (b : Blocks) : Blocks :=
  match b.crank.stall with
  | .halted => b
  | .running _ => stallExpiry e b

/-- One unit of part time, 0.1 ms, passes at the stall timer (R76, log 2). -/
def stallTick (e : Env) (b : Blocks) : Blocks :=
  match b.crank.stall with
  | .halted => b
  | .running n =>
    if fStallTimeout e.reader ≤ n + 1 then stallExpiry e b
    else setCrank { b.crank with stall := .running (n + 1) } b

/-- CRANK takes a sync reset request (R75). -/
def syncResetRequest (e : Env) (b : Blocks) : Blocks :=
  match b.crank.sync with
  | .stopped => b
  | _ => lossOfSync e .reset none 0 0 b

/-- CRANK's own state at a STOP (R78). -/
def crankStopped (c : Crank) : Crank := crankStalled c

/-- CRANK takes a STOP (R78). -/
def crankStop (e : Env) (b : Blocks) : Blocks := moveCrank e (crankStopped b.crank) b

end Sys2Proof.Machine
end

