-- ==== Sys2Proof/Machine/Tap.lean ====
section
/-! DEFINITION. TAP: the tooth ring, the knock rings and the markers (R40 to R56). -/

namespace Sys2Proof.Machine

/-! ### Stream faults -/

/-- The sticky flag of a stream fault (R52). -/
def faultFlag : StreamFaultKind → Flag
  | .size => .size
  | .format => .format
  | .toothSkip => .toothSkip
  | .overrun => .overrun
  | .knockSkipA => .knockSkipA
  | .knockSkipB => .knockSkipB
  | .marker => .marker

/-- STREAM_FAULT (R52). -/
def streamFaultEvent (f : StreamFaultKind) (value limit : Word) : Event :=
  { kind := .streamFault, cylinder := none, detail := .streamFault f, value := value, limit := limit, stamp := 0 }

/-- A stream fault sets its flag, and where the flag was clear raises STREAM_FAULT (R51, R52). -/
def streamFault (e : Env) (f : StreamFaultKind) (value limit : Word) (b : Blocks) : Blocks :=
  if flagSet b.tap (faultFlag f) then b
  else raise e (streamFaultEvent f value limit) (setFlag e (faultFlag f) b)

/-- A number as an event's value or limit. -/
def eventNat (n : Nat) : Word := BitVec.ofNat 32 n

/-- A write of the wrong size: fault SIZE, with the byte offset in the window and the size (R42, R45, R48, R52). -/
def sizeFault (e : Env) (offset : Nat) (l : Lanes) (b : Blocks) : Blocks :=
  streamFault e .size (eventNat offset) (eventNat (sizeBytes l)) b

/-! ### Position in a ring -/

/-- A write off the expected index of an aligned ring (R42, R46). -/
def ringSkips (r : RingIndex) (i : Nat) : Bool := r.aligned && i != r.expected

/-- A ring's index after a write of width w at index i (R42, R46). -/
def ringAfter (size i w : Nat) : RingIndex := ⟨true, (i + w) % size⟩

/-! ### The tooth ring -/

/-- The pending loss note after a fault: the first fault's reason is kept (R44). -/
def noteAfter (n fault : LossNote) : LossNote := if n = .none then fault else n

/-- The blocks with the pending loss note after a fault (R44). -/
def noteFault (fault : LossNote) (b : Blocks) : Blocks :=
  { b with tap := { b.tap with note := noteAfter b.tap.note fault } }

/-- The blocks with the tooth ring's index after a write to slot s (R42). -/
def alignTooth (e : Env) (s : Nat) (b : Blocks) : Blocks :=
  { b with tap := { b.tap with tooth := ringAfter e.table.toothSize s 1 } }

/-- The position judgement of a write to tooth slot s (R42, R44, R52). -/
def toothPosition (e : Env) (s : Nat) (b : Blocks) : Blocks :=
  if ringSkips b.tap.tooth s then
    streamFault e .toothSkip (eventNat s) (eventNat b.tap.tooth.expected) (noteFault .skip (alignTooth e s b))
  else alignTooth e s b

/-- A record joins the tail of the FIFO with the pending note, which becomes NONE (R43, R44). -/
def joinFifo (k : ToothKind) (t : Stamp) (b : Blocks) : Blocks :=
  { b with tap := { b.tap with fifo := b.tap.fifo ++ [⟨t, k, b.tap.note⟩], note := .none } }

/-- The room judgement of a good tooth word (R43). -/
def toothRoom (e : Env) (s : Nat) (k : ToothKind) (t : Stamp) (b : Blocks) : Blocks :=
  if b.tap.fifo.length < Config.fifoDepth then joinFifo k t b
  else streamFault e .overrun (eventNat s) (eventNat Config.fifoDepth) (noteFault .overrun b)

/-- The content judgement of a word write to TOOTH (R41). -/
def toothContent (e : Env) (s : Nat) (data : Word) (b : Blocks) : Blocks :=
  match toothKind data with
  | some k => toothRoom e s k (toothStamp data) b
  | none => streamFault e .format data (eventNat s) b

/-- The slot of an access to the TOOTH window (R42). -/
def toothSlot (e : Env) (a : Access) : Nat := (byteAddr a - e.table.toothBase) / 4

/-- TAP takes a write to TOOTH: position, size, content, room (R40, R42). -/
def takeTooth (e : Env) (a : Access) (data : Word) (b : Blocks) : Blocks :=
  let b1 := toothPosition e (toothSlot e a) b
  match a.lanes with
  | .word => toothContent e (toothSlot e a) data b1
  | l => sizeFault e (byteAddr a - e.table.toothBase) l b1

/-! ### The knock rings -/

/-- The KNOCK_SKIP fault of a sensor's ring. -/
def skipFault : Sensor → StreamFaultKind
  | .A => .knockSkipA
  | .B => .knockSkipB

/-- The width of a write in halfwords (R46). -/
def halfwords : Lanes → Nat
  | .word => 2
  | .half _ => 1
  | .byte _ => 1

/-- The blocks with a knock ring's index after a write of width w at halfword h (R46). -/
def alignKnock (e : Env) (x : Sensor) (h w : Nat) (b : Blocks) : Blocks :=
  { b with tap := { b.tap with knock := b.tap.knock.set x (ringAfter (e.table.knockSize.get x) h w) } }

/-- The position judgement of a write to a knock ring (R46, R52). -/
def knockPosition (e : Env) (x : Sensor) (h w : Nat) (b : Blocks) : Blocks :=
  if ringSkips (b.tap.knock.get x) h then
    streamFault e (skipFault x) (eventNat h) (eventNat (b.tap.knock.get x).expected) (alignKnock e x h w b)
  else alignKnock e x h w b

/-- A sample handed to KNOCK. -/
def handSample (e : Env) (x : Sensor) (s : Int) (b : Blocks) : Blocks :=
  { b with knock := takeSample e.reader x s b.knock }

/-- The size judgement of a write to a knock ring, and the samples handed to KNOCK (R45). -/
def knockSize (e : Env) (x : Sensor) (offset : Nat) (l : Lanes) (data : Word) (b : Blocks) : Blocks :=
  match l with
  | .word => handSample e x (signedHalf data true) (handSample e x (signedHalf data false) b)
  | .half high => handSample e x (signedHalf data high) b
  | .byte k => sizeFault e offset (.byte k) b

/-- TAP takes a write to a knock ring: position, then size and samples (R40, R45, R46). -/
def takeKnock (e : Env) (x : Sensor) (a : Access) (data : Word) (b : Blocks) : Blocks :=
  let offset := byteAddr a - e.table.knockBase.get x
  knockSize e x offset a.lanes data (knockPosition e x (offset / 2) (halfwords a.lanes) b)

/-! ### Markers -/

/-- A taken marker acts (R49, R50). -/
def takeMarkerKind (e : Env) (k : MarkerKind) (value : Nat) (b : Blocks) : Blocks :=
  match k with
  | .ignCut => tellContext e { b with tap := { b.tap with cut := BitVec.ofNat 8 value } }
  | .load => tellContext e { b with tap := { b.tap with load := BitVec.ofNat 2 value } }
  | .surface => tellContext e { b with tap := { b.tap with surface := BitVec.ofNat 2 value } }
  | .syncReset => syncResetRequest e b
  | .freeze => trigger e .manual none b

/-- The fault MARKER of a word of unknown kind or bad value (R48). -/
def markerFault (e : Env) (data : Word) (b : Blocks) : Blocks := streamFault e .marker data 0 b

/-- The content judgement of a word write to MARKER (R48). -/
def markerContent (e : Env) (data : Word) (b : Blocks) : Blocks :=
  match markerKind data with
  | some k =>
    if markerInRange (fNcyl e.reader) k (bitField data 0 16) then takeMarkerKind e k (bitField data 0 16) b
    else markerFault e data b
  | none => markerFault e data b

/-- TAP takes a write to MARKER: size, then content (R48). -/
def takeMarker (e : Env) (a : Access) (data : Word) (b : Blocks) : Blocks :=
  match a.lanes with
  | .word => markerContent e data b
  | l => sizeFault e (byteAddr a - e.table.markerBase) l b

/-- TAP takes a STOP (R55). -/
def tapStop (b : Blocks) : Blocks := { b with tap := { b.tap with fifo := [], note := .none } }

end Sys2Proof.Machine
end

