-- ==== Sys2Proof/Machine/Loader.lean ====
section
/-! DEFINITION. LOADER: commands, the load, initialisation, STOP, and setup writes (R22 to R39). -/

namespace Sys2Proof.Machine

/-- The state with its blocks changed, as they see LOADER and PATH. -/
def onBlocks (f : Env → Blocks → Blocks) (s : State) : State := { s with blocks := f s.env s.blocks }

/-- The word address of a setup word: the block lies at SETUP_SEL x 0x100000 (R2). -/
def setupWordAddr (sel : BitVec 4) (off : Nat) : WordAddr := BitVec.ofNat 22 (sel.toNat * 0x40000 + off)

/-- The byte address of the setup block (R2). -/
def setupBaseByte (sel : BitVec 4) : Nat := sel.toNat * 0x100000

/-- LOADER hands the report writer a LOAD-STATUS request, tells RATE of the operating state, and EVQ decides the
alert state again: what each change of the operating state brings (R24, R135, R162, log 14). -/
def announceOp (e : Env) (b : Blocks) : Blocks := decideAlert e.op (tellOp e (request .loadStatus b))

/-- The requests LOADER makes after a command that is taken, refused or unknown (R25). -/
def commandRequests (b : Blocks) : Blocks := request .loadStatus (request .controlNone b)

/-! ### Commands -/

/-- LOADER in phase READING, with no read done (R26). -/
def loaderReading (l : Loader) : Loader :=
  { l with op := .loading, phase := .reading, readsDone := 0, result := .none, offset := 0 }

/-- PATH at a START: the window table and the snapshot INVALID, protection off (R2, R7, R12, R26). -/
def pathLoading (p : Path) : Path :=
  { p with table := { p.table with valid := false }, protection := false,
           snapshot := { p.snapshot with valid := false } }

/-- LOADER and PATH as a START is taken (R26). -/
def beginLoad (s : State) : State := { s with path := pathLoading s.path, loader := loaderReading s.loader }

/-- A START is taken (R25, R26). -/
def takeStart (s : State) : State :=
  onBlocks (fun e b => announceOp e (commandRequests b)) (beginLoad s)

/-- LOADER acts at the release of RESET as if a START had been taken, with no CONTROL-NONE request (R26). -/
def autoStart (s : State) : State := onBlocks announceOp (beginLoad s)

/-- A command is refused or unknown (R25). -/
def refuseCommand (code : ResultCode) (s : State) : State :=
  onBlocks (fun _ => commandRequests) { s with loader := { s.loader with result := code, offset := 0 } }

/-- The blocks at a STOP (R35, R55, R78, R101, R129, R147, R165, R179). -/
def stopBlocks (e : Env) (b : Blocks) : Blocks :=
  frzStop e (dropWindow (dropSegment (crankStop e (tapStop b))))

/-- A STOP is taken (R25, R35). -/
def takeStop (s : State) : State :=
  onBlocks (fun e b => stopBlocks e (announceOp e (commandRequests b)))
    { s with loader := { s.loader with op := .stopping, result := .ok, offset := 0 } }

/-- A START against the operating state (R25). -/
def commandStart (s : State) : State :=
  match s.loader.op with
  | .unconfigured => takeStart s
  | .stopped => takeStart s
  | .loading => refuseCommand .refused s
  | .running => refuseCommand .refused s
  | .stopping => refuseCommand .refused s

/-- A STOP against the operating state (R25). -/
def commandStop (s : State) : State :=
  match s.loader.op with
  | .running => takeStop s
  | .unconfigured => refuseCommand .refused s
  | .loading => refuseCommand .refused s
  | .stopping => refuseCommand .refused s
  | .stopped => refuseCommand .refused s

/-- LOADER takes the value of a word write to the control word (R25). -/
def takeCommand (value : Word) (s : State) : State :=
  match commandOf value with
  | .none => s
  | .start => commandStart s
  | .stop => commandStop s
  | .unknown => refuseCommand .unknownCommand s

/-! ### The load -/

/-- The window table as PATH loads it from the shadow (R2, R33). -/
def tableOf (r : Reader) : WindowTable :=
  { valid := true
    toothBase := fToothBase r, toothSize := fToothSize r
    knockBase := ⟨fKnockABase r, fKnockBBase r⟩, knockSize := ⟨fKnockASize r, fKnockBSize r⟩
    markerBase := fMarkerBase r
    reportBase := fReportBase r, reportSize := fReportSize r
    freezeBase := fFreezeBase r, freezeSize := fFreezeSize r
    queueCapacity := fQueueCapacity r, frzPre := fFrzPre r, frzPost := fFrzPost r, arbBound := fArbBound r }

/-- The blocks other than PATH and LOADER at their START values, the report writer's list kept (R33). -/
def startBlocks (r : Reader) (b : Blocks) : Blocks :=
  { tap := Tap.reset, crank := Crank.reset, seg := Seg.reset, knock := Knock.reset, rate := rateStart r,
    evq := evqStart r, frz := frzStart r, rpw := b.rpw }

/-- Requests handed one after the other as initialisation requests. -/
def requestAll : List RequestKind → Blocks → Blocks
  | [], b => b
  | k :: ks, b => requestAll ks (requestInitial k b)

/-- The initialisation requests in the order of R33. -/
def initialRequests (queue : Nat) : List RequestKind :=
  .header :: ((List.range 8).map (fun c => .row (Fin.ofNat 8 c)) ++ (List.range queue).map .slotEmpty
    ++ [.frameEmpty])

/-- A load fails (R27). -/
def loadFailed (code : ResultCode) (off : Nat) (s : State) : State :=
  onBlocks announceOp { s with loader := { s.loader with result := code, offset := off, op := .unconfigured } }

/-- A load's validation succeeds (R33). -/
def loadSucceeded (s : State) : State :=
  let r := shadowWord s.loader.shadow
  { s with
    loader := { s.loader with result := .ok, offset := 0, phase := .initialising }
    path := { s.path with table := tableOf r }
    blocks := request .loadStatus (requestAll (initialRequests (fQueueCapacity r)) (startBlocks r s.blocks)) }

/-- Validation at the end of the 128th read (R27). -/
def endOfReading (s : State) : State :=
  match validate (setupBaseByte s.path.setupSel) s.loader.shadow with
  | some (code, off) => loadFailed code off s
  | none => loadSucceeded s

/-- The shadow with the word at an offset replaced; the control word is held at 0 (R22). -/
def shadowSet (off : Nat) (w : Word) (sh : Shadow) : Shadow :=
  if off = 1 then sh else sh.setIfInBounds off w

/-- One of LOADER's reads ends with this data (R26). -/
def loaderRead (data : Word) (s : State) : State :=
  let l := { s.loader with
    shadow := shadowSet s.loader.readsDone data s.loader.shadow, readsDone := s.loader.readsDone + 1 }
  if l.readsDone = Config.setupWords then endOfReading { s with loader := l } else { s with loader := l }

/-- RUNNING is entered (R34). -/
def enterRunning (s : State) : State :=
  onBlocks announceOp
    { s with loader := { s.loader with op := .running }, path := { s.path with protection := true } }

/-- An initialisation request is still in the list. -/
def initialising (l : List Request) : Bool := l.any Request.initial

/-- LOADER is told that one of its requests left the list: initialisation is done when the last initialisation
request has left (R19, R34). -/
def requestLeft (r : Request) (s : State) : State :=
  if s.loader.op = .loading ∧ s.loader.phase = .initialising ∧ r.initial = true
      ∧ initialising s.blocks.rpw = false then enterRunning s else s

/-- STOPPING ends where the report writer's list is empty and the freeze writer has no word left (R36). -/
def checkStopped (s : State) : State :=
  if s.loader.op = .stopping ∧ s.blocks.rpw = [] ∧ s.blocks.frz.writeList = [] then
    onBlocks announceOp { s with loader := { s.loader with op := .stopped } }
  else s

/-! ### Setup writes -/

/-- The states in which a setup write is taken without a check (R37). -/
def setupOpen (l : Loader) : Bool :=
  match l.op with
  | .unconfigured => true
  | .loading => l.phase == .reading
  | .running => false
  | .stopping => false
  | .stopped => true

/-- The shadow with a setup write merged (R22, R39). -/
def mergedShadow (off : Nat) (l : Lanes) (data : Word) (sh : Shadow) : Shadow :=
  shadowSet off (mergeLanes (shadowWord sh off) data l) sh

/-- LOADER's decision on a setup write at its turn. -/
inductive SetupFate where
  | take
  | locked
  | outOfRange
  deriving DecidableEq, Repr

/-- LOADER decides a write to a setup word other than the control and load status words (R37 to R39). -/
def decideSetup (setupBase off : Nat) (l : Lanes) (data : Word) (ld : Loader) : SetupFate :=
  if setupOpen ld then .take
  else if geometryWord off then .locked
  else if tunableAccepted setupBase off (mergedShadow off l data ld.shadow) then .take
  else .outOfRange

/-- SETUP_REFUSED (R38, R39). -/
def setupRefusedEvent (outOfRange : Bool) (off : Nat) : Event :=
  { kind := .setupRefused, cylinder := none, detail := .setupRefused outOfRange, value := BitVec.ofNat 32 off
    limit := 0, stamp := 0 }

/-- A setup write is refused: the flag, and on its change the event, in RUNNING (R38, R39). -/
def refuseSetup (outOfRange : Bool) (off : Nat) (e : Env) (b : Blocks) : Blocks :=
  if flagSet b.tap .setupRefused then b
  else raise e (setupRefusedEvent outOfRange off) (setFlag e .setupRefused b)

/-- LOADER tells the owner of a changed tunable word: EVQ of its masks, FRZ of its mode. The other blocks read the
shadow at the points their rules give (R39, R99, R127, R145, R154, R164, R170, R178). -/
def tunableChanged (off : Nat) (e : Env) (b : Blocks) : Blocks :=
  if off = 62 then takeAlertMask e b
  else if off = 64 then modeWrite e (freezeModeOf (fFreezeMode e.reader)) b
  else b

/-- A setup write is taken into the shadow at its grant (R22, R37, R39). -/
def takeSetup (off : Nat) (l : Lanes) (data : Word) (s : State) : State :=
  let s1 := { s with loader := { s.loader with shadow := mergedShadow off l data s.loader.shadow } }
  if setupOpen s.loader then s1 else onBlocks (tunableChanged off) s1

end Sys2Proof.Machine
end

