-- ==== Sys2Proof/Machine/Path.lean ====
section
/-! DEFINITION. PATH: windows, the fate of accesses, the snapshot, the arbiter and the grants (R1 to R21). -/

namespace Sys2Proof.Machine

/-! ### Windows (R2) -/

/-- The address window an access falls in, with its word in SETUP, REPORT and FREEZE. -/
inductive Window where
  | setup (off : Nat)
  | tooth
  | knock (x : Sensor)
  | marker
  | report (word : Nat)
  | freeze (word : Nat)
  | none
  deriving DecidableEq, Repr

/-- An address lies in a window of this base and size in bytes. -/
def within (base bytes a : Nat) : Bool := base ≤ a && a < base + bytes

/-- The window of an address among those of the window table. -/
def tableWindow (t : WindowTable) (a : Nat) : Window :=
  if within t.toothBase (4 * t.toothSize) a then .tooth
  else if within t.knockBase.a (2 * t.knockSize.a) a then .knock .A
  else if within t.knockBase.b (2 * t.knockSize.b) a then .knock .B
  else if within t.markerBase 4 a then .marker
  else if within t.reportBase (4 * t.reportSize) a then .report ((a - t.reportBase) / 4)
  else if within t.freezeBase (4 * t.freezeSize) a then .freeze ((a - t.freezeBase) / 4)
  else .none

/-- The window of an address (R2). -/
def windowOf (p : Path) (a : Nat) : Window :=
  if within (setupBaseByte p.setupSel) (4 * Config.setupWords) a then
    .setup ((a - setupBaseByte p.setupSel) / 4)
  else if p.table.valid then tableWindow p.table a
  else .none

/-! ### The fate of a write at its turn -/

/-- What becomes of a system-side write at its turn, and which block takes its data (R1). -/
inductive Fate where
  /-- Forwarded, its data handed to nobody. -/
  | forward
  /-- Forwarded, its value a command to LOADER (R5). -/
  | command
  /-- Forwarded and taken into the setup shadow (R5). -/
  | setup (off : Nat)
  /-- Forwarded and taken by TAP (R6). -/
  | tooth
  | knock (x : Sensor)
  | marker
  /-- Forwarded, a release of a queue slot (R9). -/
  | slotRelease (slot : Nat)
  /-- Forwarded, a release of the frame (R10). -/
  | frameRelease
  /-- Dropped without a flag (R5). -/
  | drop
  /-- Dropped with PROTECT set (R8). -/
  | protect
  /-- Dropped as LOCKED or OUT_OF_RANGE (R38, R39). -/
  | refuseSetup (outOfRange : Bool) (off : Nat)
  /-- Consumed by TAP as a flag-clear mask (R11). -/
  | flagClear
  deriving DecidableEq, Repr

/-- The fates with a grant of the memory-side port (R1). -/
def Fate.granted : Fate → Bool
  | .forward => true
  | .command => true
  | .setup _ => true
  | .tooth => true
  | .knock _ => true
  | .marker => true
  | .slotRelease _ => true
  | .frameRelease => true
  | .drop => false
  | .protect => false
  | .refuseSetup _ _ => false
  | .flagClear => false

/-- A word write of the value EMPTY (R9, R10, R192). -/
def writesEmpty (l : Lanes) (data : Word) : Bool := l = .word && data == Config.emptyWord

/-- The fate of a write to a setup word (R5). -/
def setupFate (s : State) (off : Nat) (l : Lanes) (data : Word) : Fate :=
  if off = 1 then (if l = .word then .command else .forward)
  else if off = 2 then .drop
  else match decideSetup (setupBaseByte s.path.setupSel) off l data s.loader with
    | .take => .setup off
    | .locked => .refuseSetup false off
    | .outOfRange => .refuseSetup true off

/-- The fate of a write to the ownership word of slot i (R9). A slot of the layout always has a state in EVQ under
protection; `none` does not arise. -/
def slotFate (s : State) (i : Nat) (l : Lanes) (data : Word) : Fate :=
  if writesEmpty l data then
    match s.blocks.evq.slots[i]? with
    | some (.ready _) => .slotRelease i
    | some .free => .forward
    | some (.filling _) => .protect
    | none => .protect
  else .protect

/-- The fate of a write to a word of the REPORT window under protection (R8). -/
def reportFate (s : State) (w : Nat) (l : Lanes) (data : Word) : Fate :=
  if w = 4 then .flagClear
  else if Config.firstSlotWord ≤ w ∧ w < Config.firstSlotWord + 8 * s.path.table.queueCapacity
      ∧ (w - Config.firstSlotWord) % 8 = 0 then
    slotFate s ((w - Config.firstSlotWord) / 8) l data
  else .protect

/-- The fate of a write to a word of the FREEZE window under protection (R10). -/
def freezeFate (s : State) (w : Nat) (l : Lanes) (data : Word) : Fate :=
  if w = 0 ∧ writesEmpty l data ∧ s.blocks.frz.state = .held then .frameRelease else .protect

/-- The fate of a stream write: taken in RUNNING, forwarded otherwise (R6). -/
def streamFate (s : State) (f : Fate) : Fate := if s.loader.op = .running then f else .forward

/-- The fate of a write by its window (R5 to R10). -/
def windowFate (s : State) (l : Lanes) (data : Word) : Window → Fate
  | .setup off => setupFate s off l data
  | .tooth => streamFate s .tooth
  | .knock x => streamFate s (.knock x)
  | .marker => streamFate s .marker
  | .report w => if s.path.protection then reportFate s w l data else .forward
  | .freeze w => if s.path.protection then freezeFate s w l data else .forward
  | .none => .forward

/-- The fate of a write as the state stands at its turn (R1); under RESET every access is forwarded (R3). -/
def writeFate (s : State) (a : Access) (data : Word) : Fate :=
  if s.resetPin then .forward else windowFate s a.lanes data (windowOf s.path (byteAddr a))

/-! ### Grants and completions -/

/-- The memory-side port is granted: the access is in progress, and a write's bytes land in RAM (R4, log 5). -/
def grant (user : Claimant) (a : Access) (s : State) : State :=
  { s with ram := ramAfter s.ram a, path := { s.path with port := some ⟨user, a, true⟩ } }

/-- The system access is granted at its turn; the patience count rises where an internal claim is kept waiting
(R15, case 2). -/
def grantSystem (waiting : Bool) (a : Access) (s : State) : State :=
  grant .system a
    { s with path := { s.path with
        access := none, patience := if waiting then s.path.patience + 1 else s.path.patience } }

/-- The system-side access ends (section 1.1). -/
def endAccess (a : Access) (how : Ending) (data : Word) (s : State) : State :=
  { s with path := { s.path with access := none, done := some ⟨a, how, data⟩ } }

/-- What the block that takes a granted write does with it (R5, R6, R9, R10). -/
def takeWrite (a : Access) (data : Word) (s : State) : Fate → State
  | .forward => s
  | .command => takeCommand data s
  | .setup off => takeSetup off a.lanes data s
  | .tooth => onBlocks (fun e => takeTooth e a data) s
  | .knock x => onBlocks (fun e => takeKnock e x a data) s
  | .marker => onBlocks (fun e => takeMarker e a data) s
  | .slotRelease i => onBlocks (fun e => releaseSlot e.op i) s
  | .frameRelease => onBlocks releaseFrame s
  | .drop => s
  | .protect => onBlocks (fun e => setFlag e .protect) s
  | .refuseSetup range off => onBlocks (refuseSetup range off) s
  | .flagClear => onBlocks (fun e => clearFlags e (data &&& laneMask a.lanes)) s

/-- How a write that takes no grant ends (section 1.1). -/
def Fate.ending : Fate → Ending
  | .flagClear => .consumed
  | _ => .dropped

/-- The turn of a system write (R1, R15, R17). -/
def turnWrite (waiting : Bool) (a : Access) (data : Word) (s : State) : State :=
  let f := writeFate s a data
  takeWrite a data
    (if f.granted then grantSystem waiting a s else endAccess a f.ending data s) f

/-- The turn of the pending system access. A read was decided as a forward at its arrival (R1). -/
def turn (waiting : Bool) (a : Access) (s : State) : State :=
  match a.dir with
  | .read => grantSystem waiting a s
  | .write data => turnWrite waiting a data s

/-! ### Internal claims (R14, R18) -/

/-- A word of the REPORT window. -/
def reportWordAddr (t : WindowTable) (w : Nat) : WordAddr := wordAddrOf (t.reportBase + 4 * w)

/-- A word of the FREEZE window. -/
def freezeWordAddr (t : WindowTable) (w : Nat) : WordAddr := wordAddrOf (t.freezeBase + 4 * w)

/-- The words of a record of the report area, from RATE's internal copy (R12, R18). -/
def recordWords (rt : Rate) : RecordTag → Vector Word 8
  | .header => headerWords rt.header
  | .row code => rowWords (rt.rows.get code)

/-- Word i of eight words. -/
def wordOf (v : Vector Word 8) (i : Nat) : Word := v[i]?.getD 0

/-- The address and the content of the word i that a request writes, as they stand at its grant (R18, R19). -/
def requestWord (s : State) (i : Nat) : RequestKind → WordAddr × Word
  | .row code => (reportWordAddr s.path.table (8 + 8 * code.val + i),
      wordOf (recordWords s.blocks.rate (.row code)) i)
  | .header => (reportWordAddr s.path.table i, wordOf (recordWords s.blocks.rate .header) i)
  | .event slot words =>
    (reportWordAddr s.path.table (Config.firstSlotWord + 8 * slot + (i + 1) % 8), wordOf words i)
  | .slotEmpty slot => (reportWordAddr s.path.table (Config.firstSlotWord + 8 * slot), Config.emptyWord)
  | .frameEmpty => (freezeWordAddr s.path.table 0, Config.emptyWord)
  | .controlNone => (setupWordAddr s.path.setupSel 1, 0)
  | .loadStatus => (setupWordAddr s.path.setupSel 2, loadStatusWord s.loader)

/-- LOADER holds a claim: in READING, while its reads are not all done (R14). -/
def loaderClaims (l : Loader) : Bool :=
  l.op == .loading && l.phase == .reading && l.readsDone < Config.setupWords

/-- The first internal claimant holding a claim, in the order report writer, LOADER, freeze writer (R15). Under
RESET the part makes no access of its own (R3). -/
def firstInternal (s : State) : Option Claimant :=
  if s.resetPin then none
  else if s.blocks.rpw ≠ [] then some .report
  else if loaderClaims s.loader then some .loader
  else if s.blocks.frz.writeList ≠ [] then some .freeze
  else none

/-- A write of a whole word, as the internal writers make it. -/
def wordWrite (x : WordAddr × Word) : Access := ⟨x.1, .word, .write x.2⟩

/-- The setup shadow at the grant of a report writer's word: the load status word takes what memory takes (R22). -/
def shadowAtReport (k : RequestKind) (data : Word) (l : Loader) : Loader :=
  match k with
  | .loadStatus => { l with shadow := shadowSet 2 data l.shadow }
  | _ => l

/-- The port is granted to the report writer for the next word of the request at the head (R19). -/
def grantReport (s : State) : State :=
  match s.blocks.rpw with
  | [] => s
  | r :: rest =>
    let x := requestWord s r.granted r.kind
    grant .report (wordWrite x)
      { s with
        loader := shadowAtReport r.kind x.2 s.loader
        blocks := { s.blocks with rpw := { r with granted := r.granted + 1 } :: rest } }

/-- The port is granted to LOADER for its next read (R14, R26). -/
def grantLoader (s : State) : State :=
  grant .loader ⟨setupWordAddr s.path.setupSel s.loader.readsDone, .word, .read⟩ s

/-- The port is granted to the freeze writer for its next word (R175). -/
def grantFreeze (s : State) : State :=
  match s.blocks.frz.writeList with
  | [] => s
  | w :: _ => grant .freeze (wordWrite (freezeWordAddr s.path.table w.index, w.value)) s

/-- A grant to an internal claimant. -/
def grantTo (s : State) : Claimant → State
  | .report => grantReport s
  | .loader => grantLoader s
  | .freeze => grantFreeze s
  | .system => s

/-- The port is granted to an internal claimant, and the patience count becomes 0 (R15, cases 1 and 3). -/
def grantInternal (c : Claimant) (s : State) : State :=
  grantTo { s with path := { s.path with patience := 0 } } c

/-! ### The arbiter -/

/-- The bound in force (R16). -/
def bound (t : WindowTable) : Nat := if t.valid then t.arbBound else 1

/-- A decision with no system access pending (R15, case 3), where the port is free. -/
def decideInternal (s : State) : State :=
  match s.path.port, firstInternal s with
  | none, some c => grantInternal c s
  | _, _ => s

/-- A decision with a system access pending: an exhausted patience grants the first internal claimant (R15, case 1);
else it is the access's turn (case 2), and where that takes no grant the arbiter decides again at once (R17). -/
def decideSystem (a : Access) (s : State) : State :=
  match firstInternal s with
  | none => decideInternal (turn false a s)
  | some c =>
    if bound s.path.table ≤ s.path.patience then grantInternal c s
    else decideInternal (turn true a s)

/-- The arbiter decides, where the port is free and a claim is held (R14, R15). -/
def arbitrate (s : State) : State :=
  match s.path.port with
  | some _ => s
  | none =>
    match s.path.access with
    | some a => decideSystem a s
    | none => decideInternal s

/-! ### Arrivals -/

/-- The record and word of a word index of the REPORT window, 0 to 71 (R8). -/
def reportRecord (w : Nat) : RecordTag × Nat :=
  if w < 8 then (.header, w) else (.row (Fin.ofNat 8 ((w - 8) / 8)), (w - 8) % 8)

/-- The snapshot captures a record whole (R12). -/
def capture (tag : RecordTag) (s : State) : Snapshot :=
  { valid := true, tag := tag, words := recordWords s.blocks.rate tag }

/-- The system access ends as an answered read, in the lanes it addresses (R12, R13). -/
def answer (a : Access) (w : Word) (s : State) : State := endAccess a .answered (w &&& laneMask a.lanes) s

/-- The word of the REPORT window that a read addresses under protection, none where the read is forwarded by its
window alone (R8). -/
def protectedRead (s : State) (a : Access) : Option (RecordTag × Nat) :=
  if s.resetPin = false ∧ s.path.protection = true ∧ a.dir = .read then
    match windowOf s.path (byteAddr a) with
    | .report w => if w < Config.firstSlotWord then some (reportRecord w) else none
    | _ => none
  else none

/-- The access becomes the pending access, which holds a claim (R1, R14). -/
def hold (a : Access) (s : State) : State := { s with path := { s.path with access := some a } }

/-- A read of word 0: answered from the internal copy, the snapshot capturing the record (R12). -/
def answerWord0 (a : Access) (tag : RecordTag) (s : State) : State :=
  answer a (wordOf (recordWords s.blocks.rate tag) 0)
    { s with path := { s.path with snapshot := capture tag s } }

/-- The snapshot holds a record (R13). -/
def snapshotHolds (p : Snapshot) (tag : RecordTag) : Bool := p.valid && p.tag = tag

/-- A system-side access arrives: a read is decided now, a write at its turn (R1, R12, R13). -/
def arrive (a : Access) (s : State) : State :=
  match protectedRead s a with
  | some (tag, 0) => answerWord0 a tag s
  | some (tag, j + 1) =>
    if snapshotHolds s.path.snapshot tag then answer a (wordOf s.path.snapshot.words (j + 1)) s else hold a s
  | none => hold a s

/-- The system bus is held: an access is pending, or in progress on the memory side (section 1.1). -/
def busHeld (s : State) : Bool :=
  s.path.access.isSome || s.path.port.any (fun u => u.user == .system)

/-- The accesses that wait for the system bus arrive one after the other as the bus becomes free, and the arbiter
decides (R14, R15, R17). An access pending already is decided first. Where the system side has just become free, the
next access of the line arrives before the arbiter decides, so that it takes part beside an internal claim, as the
example of section 1.6 needs; R14 leaves this order open, and it is the model's choice: DESIGN CHOICE, log 1. -/
def settle : List Access → State → State
  | [], s => arbitrate { s with path := { s.path with bus := [] } }
  | a :: rest, s =>
    let s1 := if s.path.access.isSome then arbitrate s else s
    if busHeld s1 then { s1 with path := { s1.path with bus := a :: rest } }
    else settle rest (arrive a s1)

/-- The buses after a change of the state: the arbiter decides and waiting accesses arrive. All that the command brings
is made before this decision, which falls at the same moment: log 24. -/
def settled (s : State) : State := settle s.path.bus s

/-- A master's access goes to the system bus. -/
def systemAccess (a : Access) (s : State) : State := settle (s.path.bus ++ [a]) s

/-! ### Ends of memory-side accesses -/

/-- The state with the port free. -/
def freePort (s : State) : State := { s with path := { s.path with port := none } }

/-- The data a forwarded access ends with: a read's from RAM in the lanes it addresses, a write's its own (R4). -/
def forwardedData (m : Ram) (a : Access) : Word :=
  match a.dir with
  | .read => ramWord m a.addr &&& laneMask a.lanes
  | .write d => d

/-- The RAM drives ready for a forwarded system access (R4). -/
def systemDone (a : Access) (s : State) : State :=
  endAccess a .forwarded (forwardedData s.ram a) (freePort s)

/-- The slot that an EVENT request filled is told to EVQ; LOADER is told of the others (R19). -/
def makerTold (r : Request) (s : State) : State :=
  match r.kind with
  | .event slot _ => onBlocks (fun e => slotReady e.op slot) s
  | _ => requestLeft r s

/-- The request at the head leaves the list when the access of its last word has ended (R18, R19). -/
def headDone (s : State) : State :=
  match s.blocks.rpw with
  | [] => s
  | r :: rest =>
    if requestWords r.kind ≤ r.granted then
      checkStopped (makerTold r { s with blocks := { s.blocks with rpw := rest } })
    else s

/-- The access of a report writer's word ends (R19). -/
def reportDone (live : Bool) (s : State) : State := if live then headDone (freePort s) else freePort s

/-- The access of a LOADER read ends with the data read (R14, R26). -/
def loaderDone (live : Bool) (a : Access) (s : State) : State :=
  if live then loaderRead (ramWord s.ram a.addr) (freePort s) else freePort s

/-- Write-out is done: HELD, LOADER told, FREEZE_READY raised (R176). That FREEZE_READY, with the QUEUE_DROPPED that
its drop sets, is taken before whatever the turn of a system write at this end brings (R53, R157, R158), the write granted,
dropped or consumed, is the model's choice: DESIGN CHOICE, log 24. -/
def writeOutDone (s : State) : State :=
  let ev := freezeReadyEvent s.blocks.frz
  onBlocks (fun e => raise e ev) (checkStopped (onBlocks frameHeld s))

/-- The freeze writer's word at the head of its list is written (R175, R176). -/
def frameWordDone (s : State) : State :=
  match s.blocks.frz.writeList with
  | [] => s
  | [_] => writeOutDone s
  | _ :: w :: rest =>
    { s with blocks := { s.blocks with frz := { s.blocks.frz with writeList := w :: rest } } }

/-- The access of a freeze writer's word ends (R176). -/
def freezeDone (live : Bool) (s : State) : State := if live then frameWordDone (freePort s) else freePort s

/-- The RAM drives ready for the access in progress, where it is this claimant's; where it is not, there is no such
end and nothing happens (log 3). The end comes before the turn that the freed port brings (R9, R14), and all that the
end brings (`f`) is taken before what that turn brings. Between FREEZE_READY, raised at the end of the last frame word,
and whatever the turn of a system write at that same end brings (an event, a slot or frame release, a mask write, a marker,
a STOP, or a flag-clear, which is consumed), the manual fixes no order (R53, R153, R154, R157, R158, R170). FREEZE_READY
first, and so QUEUE_DROPPED set by its drop before the flag-clear, is the model's choice: DESIGN CHOICE, log 24. -/
def accessDone (user : Claimant) (f : Bool → Access → State → State) (s : State) : State :=
  match s.path.port with
  | some u => if u.user = user then settled (f u.live u.access s) else s
  | none => s

end Sys2Proof.Machine
end

