-- ==== Sys2Proof/Machine/PinCommands.lean ====
section
/-! DEFINITION. The commands of the RESET pin: RESET_ASSERT and RESET_RELEASE (R3). -/

namespace Sys2Proof.Machine

/-- What a command that starts a system-side access, or ends or takes something, answers: every command of the block
completes. -/
abbrev Answer := Host.Outcome State Fault Refusal

/-- An internal access in progress whose claimant RESET cuts off: it completes whole and tells nobody (R3, log 18).
A system access in progress stays the system's. -/
def cutOff (u : PortUse) : PortUse := { u with live := u.user == .system }

/-- The report writer's list and the freeze writer's remaining words are discarded (R3). -/
def discardWrites (b : Blocks) : Blocks := { b with rpw := [], frz := { b.frz with writeList := [] } }

/-- The assertion of RESET: PATH is transparent, internal claims are discarded, and an access in progress completes
whole (R3). The other values stand unread until the release (log 8). -/
def assertReset (s : State) : State :=
  { s with
    resetPin := true
    path := { s.path with port := s.path.port.map cutOff }
    loader := { s.loader with readsDone := Config.setupWords }
    blocks := discardWrites s.blocks }

/-- PATH at the release of RESET: its reset values, the accesses on the buses kept (R3). -/
def pathReleased (sel : BitVec 4) (auto : Bool) (p : Path) : Path :=
  { Path.reset sel auto with access := p.access, port := p.port, bus := p.bus, done := p.done }

/-- Every block at the release of RESET (R3, R22, R24, R56, R57, R79, R108, R130, R150, R168). RAM is not written. -/
def releaseReset (sel : BitVec 4) (auto : Bool) (s : State) : State :=
  { s with
    resetPin := false, path := pathReleased sel auto s.path, loader := Loader.reset, blocks := Blocks.reset }

/-- LOADER acts on the AUTOSTART strap as sampled at the release (R3, R26). -/
def autoStartIf (s : State) : State := if s.path.autostart then autoStart s else s

/-- RESET_ASSERT (R3). Where RESET is asserted already, there is no edge and nothing happens (log 3). -/
def execResetAssert (s : State) : Answer :=
  .next (if s.resetPin then s else settled (assertReset s))

/-- RESET_RELEASE (R3, R26). Where RESET is not asserted, there is no edge and nothing happens (log 3). -/
def execResetRelease (sel : BitVec 4) (auto : Bool) (s : State) : Answer :=
  .next (if s.resetPin then settled (autoStartIf (releaseReset sel auto s)) else s)

end Sys2Proof.Machine
end

