-- ==== Sys2Proof/Machine/PortCommands.lean ====
section
/-! DEFINITION. The commands that end memory-side accesses, and CRANK's own events (R4, R14, R19, R26, R58, R76, R176). -/

namespace Sys2Proof.Machine

/-- FORWARDED_ACCESS_DONE (R4): the RAM drives ready for the forwarded system access. -/
def execForwardedAccessDone (s : State) : Answer := .next (accessDone .system (fun _ => systemDone) s)

/-- LOADER_READ_DONE (R26, R27, R33): the RAM drives ready for LOADER's read. -/
def execLoaderReadDone (s : State) : Answer := .next (accessDone .loader loaderDone s)

/-- REPORT_WRITE_DONE (R19, R34, R36, R159): the RAM drives ready for the report writer's word. -/
def execReportWriteDone (s : State) : Answer := .next (accessDone .report (fun live _ => reportDone live) s)

/-- FREEZE_WRITE_DONE (R176): the RAM drives ready for the freeze writer's word. FREEZE_READY is raised, and QUEUE_DROPPED
set where it is dropped, before whatever the turn of a system write at this same end brings (R158), a consumed flag-clear
among it (R53, R157): DESIGN CHOICE, log 24. -/
def execFreezeWriteDone (s : State) : Answer := .next (accessDone .freeze (fun live _ => freezeDone live) s)

/-- An event of CRANK: under RESET it takes nothing (R78); else its effects are made and the arbiter decides on the
claims they bring (R14), in that order: DESIGN CHOICE, log 24. -/
def crankEvent (f : Env → Blocks → Blocks) (s : State) : State :=
  if s.resetPin then s else settled (onBlocks f s)

/-- TOOTH_RECORD_TAKE (R58): CRANK takes the record at the head of the tooth FIFO and processes it whole. -/
def execToothRecordTake (s : State) : Answer := .next (crankEvent takeHead s)

/-- STALL_EXPIRY (R76): the stall timer reaches `stall_timeout`. -/
def execStallExpiry (s : State) : Answer := .next (crankEvent expireStall s)

/-- One unit of part time passes with no command: the stall timer counts it (R76, log 2). -/
def idle (s : State) : State := crankEvent stallTick s

end Sys2Proof.Machine
end

