-- ==== Sys2Proof/Machine/StreamCommands.lean ====
section
/-! DEFINITION. The commands that write the stream windows and the MARKER window (R6, R40). -/

namespace Sys2Proof.Machine

/-- A system write at a word address. -/
def writeAccess (addr : WordAddr) (l : Lanes) (data : Word) : Access := ⟨addr, l, .write data⟩

/-- The word address of the MARKER window. -/
def markerAddr (s : State) : WordAddr := wordAddrOf s.path.table.markerBase

/-- A word write of a marker. -/
def markerAccess (s : State) (k : MarkerKind) (value : BitVec 16) : Access :=
  writeAccess (markerAddr s) .word (markerWord k value)

/-- TOOTH_WRITE (R41 to R44): a write to the TOOTH window arrives. -/
def execToothWrite (addr : WordAddr) (l : Lanes) (data : Word) (s : State) : Answer :=
  .next (systemAccess (writeAccess addr l data) s)

/-- KNOCK_WRITE (R45 to R47): a write to a knock ring arrives. -/
def execKnockWrite (addr : WordAddr) (l : Lanes) (data : Word) (s : State) : Answer :=
  .next (systemAccess (writeAccess addr l data) s)

/-- IGN_CUT (R49): an IGN_CUT marker arrives. -/
def execIgnCut (mask : BitVec 16) (s : State) : Answer :=
  .next (systemAccess (markerAccess s .ignCut mask) s)

/-- LOAD (R49): a LOAD marker arrives. -/
def execLoad (band : BitVec 16) (s : State) : Answer :=
  .next (systemAccess (markerAccess s .load band) s)

/-- SURFACE (R49): a SURFACE marker arrives. -/
def execSurface (level : BitVec 16) (s : State) : Answer :=
  .next (systemAccess (markerAccess s .surface level) s)

/-- SYNC_RESET (R50, R75): a SYNC_RESET marker arrives. -/
def execSyncReset (s : State) : Answer := .next (systemAccess (markerAccess s .syncReset 0) s)

/-- FREEZE (R50, R170): a FREEZE marker arrives. -/
def execFreeze (s : State) : Answer := .next (systemAccess (markerAccess s .freeze 0) s)

/-- MARKER_FAULT (R48, R52): a marker write of a wrong size, kind or value arrives. -/
def execMarkerFault (l : Lanes) (data : Word) (s : State) : Answer :=
  .next (systemAccess (writeAccess (markerAddr s) l data) s)

end Sys2Proof.Machine
end

