-- ==== Sys2Proof/Machine/ReportCommands.lean ====
section
/-! DEFINITION. The commands on the REPORT and FREEZE windows and on plain memory (R4, R8 to R13). -/

namespace Sys2Proof.Machine

/-- FLAG_CLEAR (R11, R53): a write to the flag-clear word, word 4 of the header, arrives. -/
def execFlagClear (l : Lanes) (data : Word) (s : State) : Answer :=
  .next (systemAccess (writeAccess (reportWordAddr s.path.table 4) l data) s)

/-- SLOT_RELEASE (R9, R160): a write to a queue slot's ownership word arrives. -/
def execSlotRelease (slot : BitVec 6) (l : Lanes) (data : Word) (s : State) : Answer :=
  .next (systemAccess
    (writeAccess (reportWordAddr s.path.table (Config.firstSlotWord + 8 * slot.toNat)) l data) s)

/-- FRAME_RELEASE (R10, R177): a write to the frame ownership word arrives. -/
def execFrameRelease (l : Lanes) (data : Word) (s : State) : Answer :=
  .next (systemAccess (writeAccess (freezeWordAddr s.path.table 0) l data) s)

/-- PROTECTED_WRITE_DROP (R8, R10): a write to a word that protection guards arrives. -/
def execProtectedWriteDrop (addr : WordAddr) (l : Lanes) (data : Word) (s : State) : Answer :=
  .next (systemAccess (writeAccess addr l data) s)

/-- PLAIN_WRITE (R4): a write that no window policy takes arrives. -/
def execPlainWrite (addr : WordAddr) (l : Lanes) (data : Word) (s : State) : Answer :=
  .next (systemAccess (writeAccess addr l data) s)

/-- WORD0_READ (R12): a read of word 0 of the header or of a row arrives. -/
def execWord0Read (addr : WordAddr) (l : Lanes) (s : State) : Answer :=
  .next (systemAccess ⟨addr, l, .read⟩ s)

/-- SNAPSHOT_READ (R13): a read of words 1 to 7 of the header or of a row arrives. A read of any other word is
forwarded (R4, log 11). -/
def execSnapshotRead (addr : WordAddr) (l : Lanes) (s : State) : Answer :=
  .next (systemAccess ⟨addr, l, .read⟩ s)

end Sys2Proof.Machine
end

