-- ==== Sys2Proof/Machine/SetupCommands.lean ====
section
/-! DEFINITION. The commands that write the SETUP window: START, STOP, NONE, UNKNOWN_COMMAND, LOAD_STATUS_WRITE, SETUP_WRITE (R5). -/

namespace Sys2Proof.Machine

/-- A system write to a setup word. -/
def setupAccess (s : State) (off : Nat) (l : Lanes) (data : Word) : Access :=
  ⟨setupWordAddr s.path.setupSel off, l, .write data⟩

/-- START (R25, R26): a word write of START to the control word arrives. -/
def execStart (s : State) : Answer := .next (systemAccess (setupAccess s 1 .word 1) s)

/-- STOP (R25, R35): a word write of STOP to the control word arrives. -/
def execStop (s : State) : Answer := .next (systemAccess (setupAccess s 1 .word 2) s)

/-- NONE (R25): a word write of NONE to the control word arrives. -/
def execNoneCommand (s : State) : Answer := .next (systemAccess (setupAccess s 1 .word 0) s)

/-- UNKNOWN_COMMAND (R25): a word write of a value that is no command to the control word arrives. -/
def execUnknownCommand (value : Word) (s : State) : Answer :=
  .next (systemAccess (setupAccess s 1 .word value) s)

/-- LOAD_STATUS_WRITE (R5): a write to the load status word arrives. -/
def execLoadStatusWrite (l : Lanes) (data : Word) (s : State) : Answer :=
  .next (systemAccess (setupAccess s 2 l data) s)

/-- SETUP_WRITE (R37 to R39): a write to a setup word arrives. -/
def execSetupWrite (off : BitVec 7) (l : Lanes) (data : Word) (s : State) : Answer :=
  .next (systemAccess (setupAccess s off.toNat l data) s)

end Sys2Proof.Machine
end

