-- ==== Sys2Proof/Machine/Dispatch.lean ====
section
/-! DEFINITION. The meaning of every command, one arm per row of spec/opcode_table.json. -/

namespace Sys2Proof.Machine

def exec (i : Instr) (s : State) : Host.Outcome State Fault Refusal :=
  match i with
  | .resetAssert => Sys2Proof.Machine.execResetAssert s
  | .resetRelease sel auto => Sys2Proof.Machine.execResetRelease sel auto s
  | .start => Sys2Proof.Machine.execStart s
  | .stop => Sys2Proof.Machine.execStop s
  | .noneCommand => Sys2Proof.Machine.execNoneCommand s
  | .unknownCommand value => Sys2Proof.Machine.execUnknownCommand value s
  | .loadStatusWrite lanes data => Sys2Proof.Machine.execLoadStatusWrite lanes data s
  | .setupWrite offset lanes data => Sys2Proof.Machine.execSetupWrite offset lanes data s
  | .toothWrite addr lanes data => Sys2Proof.Machine.execToothWrite addr lanes data s
  | .knockWrite addr lanes data => Sys2Proof.Machine.execKnockWrite addr lanes data s
  | .ignCut mask => Sys2Proof.Machine.execIgnCut mask s
  | .load band => Sys2Proof.Machine.execLoad band s
  | .surface level => Sys2Proof.Machine.execSurface level s
  | .syncReset => Sys2Proof.Machine.execSyncReset s
  | .freeze => Sys2Proof.Machine.execFreeze s
  | .markerFault lanes data => Sys2Proof.Machine.execMarkerFault lanes data s
  | .flagClear lanes data => Sys2Proof.Machine.execFlagClear lanes data s
  | .slotRelease slot lanes data => Sys2Proof.Machine.execSlotRelease slot lanes data s
  | .frameRelease lanes data => Sys2Proof.Machine.execFrameRelease lanes data s
  | .protectedWriteDrop addr lanes data => Sys2Proof.Machine.execProtectedWriteDrop addr lanes data s
  | .plainWrite addr lanes data => Sys2Proof.Machine.execPlainWrite addr lanes data s
  | .word0Read addr lanes => Sys2Proof.Machine.execWord0Read addr lanes s
  | .snapshotRead addr lanes => Sys2Proof.Machine.execSnapshotRead addr lanes s
  | .forwardedAccessDone => Sys2Proof.Machine.execForwardedAccessDone s
  | .loaderReadDone => Sys2Proof.Machine.execLoaderReadDone s
  | .reportWriteDone => Sys2Proof.Machine.execReportWriteDone s
  | .freezeWriteDone => Sys2Proof.Machine.execFreezeWriteDone s
  | .toothRecordTake => Sys2Proof.Machine.execToothRecordTake s
  | .stallExpiry => Sys2Proof.Machine.execStallExpiry s

end Sys2Proof.Machine
end

