-- ==== Sys2Proof/Safety.lean ====
section
/-! DEFINITION. The vocabulary of the statements: turns, forwarded and ended accesses, and the invariants of the part. -/

namespace Sys2Proof.Machine

/-! ### System-side accesses -/

/-- The access a command sends to the system-side port, none where the command is no access. -/
def accessOf (s : State) : Instr → Option Access
  | .start => some (setupAccess s 1 .word 1)
  | .stop => some (setupAccess s 1 .word 2)
  | .noneCommand => some (setupAccess s 1 .word 0)
  | .unknownCommand v => some (setupAccess s 1 .word v)
  | .loadStatusWrite l d => some (setupAccess s 2 l d)
  | .setupWrite off l d => some (setupAccess s off.toNat l d)
  | .toothWrite w l d => some (writeAccess w l d)
  | .knockWrite w l d => some (writeAccess w l d)
  | .ignCut m => some (markerAccess s .ignCut m)
  | .load b => some (markerAccess s .load b)
  | .surface v => some (markerAccess s .surface v)
  | .syncReset => some (markerAccess s .syncReset 0)
  | .freeze => some (markerAccess s .freeze 0)
  | .markerFault l d => some (writeAccess (markerAddr s) l d)
  | .flagClear l d => some (writeAccess (reportWordAddr s.path.table 4) l d)
  | .slotRelease i l d =>
    some (writeAccess (reportWordAddr s.path.table (Config.firstSlotWord + 8 * i.toNat)) l d)
  | .frameRelease l d => some (writeAccess (freezeWordAddr s.path.table 0) l d)
  | .protectedWriteDrop w l d => some (writeAccess w l d)
  | .plainWrite w l d => some (writeAccess w l d)
  | .word0Read w l => some ⟨w, l, .read⟩
  | .snapshotRead w l => some ⟨w, l, .read⟩
  | .resetAssert => none
  | .resetRelease _ _ => none
  | .forwardedAccessDone => none
  | .loaderReadDone => none
  | .reportWriteDone => none
  | .freezeWriteDone => none
  | .toothRecordTake => none
  | .stallExpiry => none

/-- An access that arrives now has its turn at once (R14, R15): both ports are free, no access waits, and no
internal claim is held or the system side is not yet out of patience. -/
abbrev onTurn (s : State) : Prop :=
  s.path.port = none ∧ s.path.access = none ∧ s.path.bus = [] ∧
    (firstInternal s = none ∨ s.path.patience < bound s.path.table)

/-- Nothing waits and nothing is in progress on either port. -/
abbrev portsIdle (s : State) : Prop := s.path.port = none ∧ s.path.access = none ∧ s.path.bus = []

/-- Accesses wait for the system bus only while it is held, and an access waits for the port only while it is in
use: the arbiter has nothing to decide for the system side (R14, R15). -/
abbrev calmBus (s : State) : Prop :=
  (s.path.bus = [] ∨ busHeld s = true) ∧ (s.path.port ≠ none ∨ s.path.access = none)

/-- The arbiter has nothing to decide at all: the port is in use, or nothing is claimed (R14). -/
abbrev quietPorts (s : State) : Prop := calmBus s ∧ (s.path.port ≠ none ∨ firstInternal s = none)

/-- The system bus is free, and the arbiter has nothing to decide (R14). -/
abbrev busFree (s : State) : Prop :=
  s.path.access = none ∧ s.path.bus = [] ∧ busHeld s = false ∧ (s.path.port ≠ none ∨ firstInternal s = none)

/-- The patience count after a grant to the system side (R15, case 2). -/
def patienceAfter (s : State) : Nat :=
  if firstInternal s = none then s.path.patience else s.path.patience + 1

/-- The state in which a forwarded system access has been granted the memory-side port: a write's bytes are in
RAM, and nothing else has changed but the patience count (R4, R15). -/
def forwarded (a : Access) (s : State) : State :=
  { s with
    ram := ramAfter s.ram a
    path := { s.path with port := some ⟨.system, a, true⟩, patience := patienceAfter s } }

/-- The state in which a system access has ended without a grant (R1, R17). -/
def endedBy (a : Access) (how : Ending) (data : Word) (s : State) : State :=
  { s with path := { s.path with done := some ⟨a, how, data⟩ } }

/-- Byte address `n` is one of the bytes that an access names. -/
abbrev names (a : Access) (n : Nat) : Prop := byteAddr a ≤ n ∧ n < byteAddr a + sizeBytes a.lanes

/-- The byte a write puts at byte address `n`, one of those it names (R182). -/
def writtenByte (a : Access) (data : Word) (n : Nat) : Byte := laneByte data (n - 4 * a.addr.toNat)

/-- A memory-side access in progress writes byte address `n`. -/
def writes (u : PortUse) (n : Nat) : Prop := u.access.dir ≠ .read ∧ names u.access n

/-- The windows of the window table that an address lies in, where the table is VALID (R2). -/
def windowsAt (t : WindowTable) (n : Nat) : List Window :=
  (if within t.toothBase (4 * t.toothSize) n then [.tooth] else []) ++
  (if within t.knockBase.a (2 * t.knockSize.a) n then [.knock .A] else []) ++
  (if within t.knockBase.b (2 * t.knockSize.b) n then [.knock .B] else []) ++
  (if within t.markerBase 4 n then [.marker] else []) ++
  (if within t.reportBase (4 * t.reportSize) n then [.report ((n - t.reportBase) / 4)] else []) ++
  (if within t.freezeBase (4 * t.freezeSize) n then [.freeze ((n - t.freezeBase) / 4)] else [])

/-- An address lies in the SETUP window (R2). -/
abbrev inSetup (p : Path) (n : Nat) : Prop := within (setupBaseByte p.setupSel) (4 * Config.setupWords) n = true

/-- The window of an access. -/
abbrev windowOfAccess (s : State) (a : Access) : Window := windowOf s.path (byteAddr a)

/-! ### Frames -/

/-- The bytes a write names read as its data in canonical RAM, and every other byte reads as before (R4, R182). -/
abbrev storesOnly (a : Access) (s t : State) : Prop :=
  (∀ n, ¬ names a n → ramByte t.ram n = ramByte s.ram n) ∧
    ∀ d, a.dir = .write d → ramWf s.ram = true → ∀ n, names a n → ramByte t.ram n = writtenByte a d n

/-- No byte of RAM reads otherwise than before but those that the access in progress writes. -/
abbrev onlyPortWrites (s t : State) : Prop :=
  ∀ n, (∀ u, t.path.port = some u → ¬ writes u n) → ramByte t.ram n = ramByte s.ram n

/-- What a granted write leaves outside the blocks: the path of a forwarded access, LOADER, the pin and the queue as
before, and RAM but for the bytes it names. -/
abbrev throughPort (a : Access) (s t : State) : Prop :=
  t.resetPin = s.resetPin ∧ t.pending = s.pending ∧ t.path = (forwarded a s).path ∧ t.loader = s.loader ∧
    storesOnly a s t

/-- What a command with no system access in progress leaves outside the blocks, the port, the patience count and the
load status word of the shadow, which an internal grant may change. -/
abbrev outsideKept (s t : State) : Prop :=
  t.resetPin = s.resetPin ∧ t.pending = s.pending ∧
    t.path = { s.path with port := t.path.port, patience := t.path.patience, done := t.path.done } ∧
    t.loader = { s.loader with shadow := t.loader.shadow } ∧
    (∀ i, i ≠ 2 → shadowWord t.loader.shadow i = shadowWord s.loader.shadow i) ∧ onlyPortWrites s t

/-- What a system access that ends leaves outside the blocks: it ended so (the model keeps the last end: log 17), and no
system access is in progress after it, so that memory took no write of the system's. -/
abbrev endedOnly (a : Access) (how : Ending) (d : Word) (s t : State) : Prop :=
  outsideKept s t ∧ t.path.done = some ⟨a, how, d⟩ ∧ t.path.port.map PortUse.user ≠ some .system

/-- The rows and the rating window are as before: RATE changed its header at most. -/
abbrev rowsKept (b c : Blocks) : Prop :=
  c.rate.rows = b.rate.rows ∧ c.rate.cycles = b.rate.cycles ∧ c.rate.wcur = b.rate.wcur

/-- RATE and the report writer's list after one notice of header fields: where they differ from the header's, the
header takes them, the sequence rises by one and, the window table being VALID, a HEADER mirror is requested (R135). -/
abbrev headerStep (valid : Bool) (f : Header → Header) (b c : Blocks) : Prop :=
  (f b.rate.header = b.rate.header → c.rate = b.rate ∧ c.rpw = b.rpw) ∧
    (f b.rate.header ≠ b.rate.header →
      c.rate = { b.rate with header := { f b.rate.header with seq := b.rate.header.seq + 1 } } ∧
        c.rpw = if valid then addRequest false .header b.rpw else b.rpw)

/-- The ring is settled: every OPEN or CLOSED record is FINAL with its contents kept, and every other record is as
before (R100, R106). -/
abbrev ringSettled (g h : Seg) : Prop :=
  ∀ i : Fin 24, h.ring.get i =
    if (g.ring.get i).state = .opened ∨ (g.ring.get i).state = .closed then { g.ring.get i with state := .final }
    else g.ring.get i

/-- The history ring holds a record, other than EMPTY, of a cycle number (R171). -/
abbrev ringHolds (ring : Vector CycleRecord 24) (c : BitVec 32) : Prop :=
  ∃ i : Fin 24, (ring.get i).state ≠ .empty ∧ (ring.get i).cycle = c

/-- A trigger in ARMED starts a collection: PHASED, and a record of the current cycle number in the ring (R171). -/
abbrev triggerUsable (b : Blocks) : Prop := b.crank.sync = .phased ∧ ringHolds b.seg.ring b.crank.cycle

/-- The frame is complete at its trigger: no cycle follows and the trigger cycle's record is FINAL (R171). -/
abbrev frameComplete (e : Env) (b : Blocks) : Prop :=
  e.table.frzPost = 0 ∧ (finalRecord b.seg.ring b.crank.cycle).isSome = true

/-- FRZ, and RATE's freeze state, after a trigger has started a collection (R171): the trigger fields, the counts, the
FINAL records of the frame, and write-out at once where the frame is complete (R175). -/
abbrev collectionBegun (e : Env) (kind : TriggerKind) (cylinder : Option Nat) (b c : Blocks) : Prop :=
  c.rate.header.freeze = c.frz.state ∧ c.frz.trigger = some ⟨kind, cylinder, b.crank.cycle⟩ ∧ c.frz.post = 0 ∧
    c.frz.truncated = false ∧ c.frz.pre = cyclesBefore b.seg.ring b.crank.cycle e.table.frzPre ∧
    c.frz.buffer = finalRecords b.seg.ring b.crank.cycle c.frz.pre ∧ c.frz.mode = b.frz.mode ∧
    (¬ frameComplete e b → c.frz.state = .collecting ∧ c.frz.missed = b.frz.missed ∧
      c.frz.writeList = b.frz.writeList) ∧
    (frameComplete e b → c.frz.state = .writing ∧ c.frz.missed = 0 ∧
      c.frz.writeList = frameWords { c.frz with missed := b.frz.missed })

/-- The blocks after write-out has begun with these contents of FRZ (R175): WRITING, the frame's words handed to the
freeze writer, the missed count 0, and RATE told. -/
abbrev writeOutBegun (valid : Bool) (f : Frz) (b c : Blocks) : Prop :=
  c = { b with
      frz := { f with state := .writing, missed := 0, writeList := frameWords f }, rate := c.rate, rpw := c.rpw } ∧
    headerStep valid (fun h => { h with freeze := .writing }) b c

/-- The state after a command that is refused or unknown: its write forwarded, the load result replaced, and
CONTROL-NONE and LOAD-STATUS requested (R25). -/
def commandRefused (a : Access) (code : ResultCode) (s : State) : State :=
  { forwarded a s with
    loader := { s.loader with result := code, offset := 0 }
    blocks := { s.blocks with rpw := addRequest false .loadStatus (addRequest false .controlNone s.blocks.rpw) } }

/-! ### Reading a system's blocks -/

/-- A sticky flag is set. -/
abbrev flagIn (s : State) (f : Flag) : Bool := flagSet s.blocks.tap f

/-- The state of queue slot i, none where there is no such slot. -/
abbrev slotIn (s : State) (i : Nat) : Option SlotState := s.blocks.evq.slots[i]?

/-- A request of a kind is in the report writer's list. -/
abbrev requested (s : State) (k : RequestKind) : Prop := ∃ r ∈ s.blocks.rpw, r.kind = k

/-- The setup fields in force, as the blocks read them. -/
abbrev State.setup (s : State) : Reader := shadowWord s.loader.shadow

/-- Two states agree on everything but the buses, the RAM and the report writer's list: the blocks' own values and
LOADER's are untouched. -/
abbrev sameBlocks (b c : Blocks) : Prop :=
  b.tap = c.tap ∧ b.crank = c.crank ∧ b.seg = c.seg ∧ b.knock = c.knock ∧ b.rate = c.rate ∧ b.evq = c.evq ∧
    b.frz = c.frz

/-! ### Invariants -/

/-- RAM is in canonical form. -/
abbrev ramCanonical (s : State) : Prop := ramWf s.ram = true

/-- The tooth FIFO holds at most 8 records (R43). -/
abbrev fifoBounded (s : State) : Prop := s.blocks.tap.fifo.length ≤ 8

/-- The patience count is at most 15, and so is the bound a VALID window table holds (R16, R28). -/
abbrev patienceBounded (s : State) : Prop :=
  s.path.patience ≤ 15 ∧ (s.path.table.valid = true → s.path.table.arbBound ≤ 15)

/-- Protection is on in RUNNING, STOPPING and STOPPED, and off in UNCONFIGURED and LOADING (R7). -/
abbrev protectionAgrees (s : State) : Prop := s.path.protection = inCharge s.loader.op

/-- The internal copy of the header shows what each field's owner holds (R133, R135). -/
abbrev headerShows (s : State) : Prop :=
  s.blocks.rate.header.op = s.loader.op ∧
  s.blocks.rate.header.sync = s.blocks.crank.sync ∧
  s.blocks.rate.header.cycle = s.blocks.crank.cycle ∧
  s.blocks.rate.header.rpm = s.blocks.seg.rpm ∧
  s.blocks.rate.header.cut = s.blocks.tap.cut ∧
  s.blocks.rate.header.load = s.blocks.tap.load ∧
  s.blocks.rate.header.surface = s.blocks.tap.surface ∧
  s.blocks.rate.header.flags = s.blocks.tap.flags ∧
  s.blocks.rate.header.producer = s.blocks.evq.producer ∧
  s.blocks.rate.header.freeze = s.blocks.frz.state

/-- The counts of a row's open rating window agree (R138). -/
abbrev rowCountsAgree (r : Row) : Prop :=
  r.misfires ≤ r.evaluated ∧ r.knockCount + r.heavyCount ≤ r.knockEvaluated ∧
    r.evaluated ≤ 65535 ∧ r.knockEvaluated ≤ 65535

/-- Every row's counts agree (R138). -/
abbrev countsAgree (s : State) : Prop := ∀ i : Fin 8, rowCountsAgree (s.blocks.rate.rows.get i)

/-- A background is UNSEEDED or at least 1 (R122). -/
abbrev backgroundGood (o : Option Nat) : Prop := ∀ v ∈ o, 1 ≤ v

/-- Every background that has been seeded is at least 1 (R122). -/
abbrev backgroundsGood (s : State) : Prop :=
  ∀ i : Fin 8, backgroundGood (s.blocks.knock.background.a.get i) ∧
    backgroundGood (s.blocks.knock.background.b.get i)

/-- The alert state is the one that the slots, the mask in force and the operating state give (R162). -/
abbrev alertDecided (s : State) : Prop := s.blocks.evq.alert = alertOf s.loader.op s.blocks.evq

/-- Sensor x is suspended exactly while KNOCK_SKIP_x is set (R47, R116). -/
abbrev suspensionFollows (s : State) : Prop :=
  ∀ x : Sensor, s.blocks.knock.suspended.get x = flagSet s.blocks.tap (skipFlag x)

/-- The requests of a kind that wait in the list and are not begun. -/
def pendingCount (k : RequestKind) (l : List Request) : Nat := l.countP (pendingOf k)

/-- Of each kind that coalesces, at most one request is pending (R20). -/
def pendingOnce (s : State) : Prop := ∀ k, coalesces k = true → pendingCount k s.blocks.rpw ≤ 1

/-- The phases in which LOADER guards the shadow by its checks: INITIALISING, RUNNING, STOPPING (R38, R39). -/
def guarded (l : Loader) : Bool := !setupOpen l

/-- A LOADER read in progress that LOADER waits for belongs to a load that is READING (R14), and RESET is not
asserted (R3). -/
abbrev readsBelong (s : State) : Prop :=
  ∀ u, s.path.port = some u → u.user = .loader → u.live = true →
    s.resetPin = false ∧ s.loader.op = .loading ∧ s.loader.phase = .reading

/-- In INITIALISING, RUNNING and STOPPING the shadow satisfies every validation constraint (R34, R39). -/
abbrev shadowGuarded (s : State) : Prop :=
  guarded s.loader = true → constraintsHold (setupBaseByte s.path.setupSel) s.loader.shadow = true

end Sys2Proof.Machine
end

