-- ==== Sys2Proof/Certificates/Slice0/Obligations.lean ====
section
/-! DEFINITION. The statements about the VK-620. -/

open Sys2Proof Sys2Proof.Machine

/-! ### Steps, resets, the buses -/

/-- A step takes the command at the front of the queue and runs it on the state with the queue's rest. The queue of
commands is the model's: log 23. -/
def Obligations.StepTakesFrontCommand : Prop :=
  ∀ (c : Instr) (s : State), step { s with pending := c :: s.pending } = exec c s

/-- Every command completes and leaves the queue; two commands that are the same access are the same command. No rule
says the first clause: that an event that cannot happen answers a next state too, so that no command ever stops the run,
is the model's choice, log 3, and so is the queue that every command leaves, log 23. A command whose row pins its word
takes its address from the straps or the table: log 10, the model's choice. -/
def Obligations.EveryCommandAnswersNext : Prop :=
  (∀ (c : Instr) (s : State), ∃ t, exec c s = .next t ∧ t.pending = s.pending) ∧
  ∀ (c d : Instr) (s : State) (a : Access), accessOf s c = some a → accessOf s d = some a → exec c s = exec d s

/-- On an empty queue one unit of the stall timer's time passes (R76): the model's choice, log 2. An event that cannot
happen in the state it finds does nothing: no edge of RESET, no access of that claimant in progress, no record to take,
no timer to expire, CRANK under RESET (R78): the model's choice, log 3. -/
def Obligations.IdleAndImpossibleSteps : Prop :=
  (∀ s : State, s.pending = [] →
     (s.resetPin = true → step s = .next s) ∧
     (s.resetPin = false → quietPorts s →
       (s.blocks.crank.stall = .halted → step s = .next s) ∧
       ∀ n, s.blocks.crank.stall = .running n →
         (n + 1 < fStallTimeout s.setup →
           step s = .next { s with blocks := { s.blocks with crank :=
             { s.blocks.crank with stall := .running (n + 1) } } }) ∧
         (fStallTimeout s.setup ≤ n + 1 → step s = exec .stallExpiry s))) ∧
  ∀ s : State,
    (s.resetPin = true → exec .resetAssert s = .next s ∧ exec .toothRecordTake s = .next s ∧
      exec .stallExpiry s = .next s) ∧
    (s.resetPin = false → ∀ sel auto, exec (.resetRelease sel auto) s = .next s) ∧
    ((∀ u, s.path.port = some u → u.user ≠ .system) → exec .forwardedAccessDone s = .next s) ∧
    ((∀ u, s.path.port = some u → u.user ≠ .loader) → exec .loaderReadDone s = .next s) ∧
    ((∀ u, s.path.port = some u → u.user ≠ .report) → exec .reportWriteDone s = .next s) ∧
    ((∀ u, s.path.port = some u → u.user ≠ .freeze) → exec .freezeWriteDone s = .next s) ∧
    (quietPorts s → s.blocks.tap.fifo = [] ∨ s.loader.op ≠ .running → exec .toothRecordTake s = .next s) ∧
    (quietPorts s → s.blocks.crank.stall = .halted → exec .stallExpiry s = .next s)

/-- The values at the release of RESET (R3, R7, R12, R16, R22, R24, R54, R57, R79, R108, R130, R148, R150, R168).
RAM with nothing written is the model's choice: log 4. The straps sampled at the reset state are the model's choice:
log 6. -/
def Obligations.ResetValues : Prop :=
  let s := State.reset
  s.resetPin = false ∧ s.pending = [] ∧ s.ram = [] ∧
  (s.path.table.valid = false ∧ s.path.protection = false ∧ s.path.snapshot.valid = false ∧ s.path.patience = 0 ∧
    bound s.path.table = 1 ∧ portsIdle s) ∧
  (s.loader.op = .unconfigured ∧ s.loader.result = .none ∧ s.loader.offset = 0 ∧
    ∀ i, shadowWord s.loader.shadow i = 0) ∧
  (s.blocks.tap.tooth = ⟨false, 0⟩ ∧ s.blocks.tap.knock = ⟨⟨false, 0⟩, ⟨false, 0⟩⟩ ∧ s.blocks.tap.fifo = [] ∧
    s.blocks.tap.note = .none ∧ s.blocks.tap.cut = 0 ∧ s.blocks.tap.load = 0 ∧ s.blocks.tap.surface = 0 ∧
    ∀ f, flagIn s f = false) ∧
  (s.blocks.crank.sync = .stopped ∧ s.blocks.crank.tPrev = none ∧ s.blocks.crank.pPrev = none ∧
    s.blocks.crank.position = 0 ∧ s.blocks.crank.glitch = 0 ∧ s.blocks.crank.verify = 0 ∧
    s.blocks.crank.confirmed = 0 ∧ s.blocks.crank.unphased = 0 ∧ s.blocks.crank.noCam = false ∧
    s.blocks.crank.spanEdges = 0 ∧ s.blocks.crank.spanError = false ∧ s.blocks.crank.camRun = 0 ∧
    s.blocks.crank.cycle = 0 ∧ s.blocks.crank.stall = .halted) ∧
  (s.blocks.seg.openSeg = none ∧ s.blocks.seg.list = [] ∧ s.blocks.seg.warmup = 0 ∧ s.blocks.seg.holdoff = 0 ∧
    s.blocks.seg.rpm = 0 ∧ s.blocks.seg.resync = false ∧ (∀ k : Fin 8, s.blocks.seg.starts.get k = none) ∧
    ∀ i : Fin 24, (s.blocks.seg.ring.get i).state = .empty) ∧
  (s.blocks.knock.bias = ⟨0, 0⟩ ∧ s.blocks.knock.suspended = ⟨false, false⟩ ∧ s.blocks.knock.openWin = none ∧
    ∀ i : Fin 8, s.blocks.knock.background.a.get i = none ∧ s.blocks.knock.background.b.get i = none) ∧
  (s.blocks.rate.cycles = 0 ∧ s.blocks.rate.wcur = 0 ∧
    (∀ (i : Fin 8) (j : Fin 8), (rowWords (s.blocks.rate.rows.get i)).get j = 0) ∧
    s.blocks.rate.header =
      { seq := 0, op := .unconfigured, sync := .stopped, cycle := 0, rpm := 0, cut := 0, load := 0, surface := 0,
        flags := 0, producer := 0, freeze := .idle }) ∧
  (s.blocks.evq.slots = [] ∧ s.blocks.evq.producer = 0 ∧ s.blocks.evq.seq = 0 ∧ s.blocks.evq.dropped = 0 ∧
    s.blocks.evq.polarity = .low ∧ s.blocks.evq.alert = false ∧ alertPin s = .high) ∧
  (s.blocks.frz.state = .idle ∧ s.blocks.frz.trigger = none ∧ s.blocks.frz.pre = 0 ∧ s.blocks.frz.post = 0 ∧
    s.blocks.frz.truncated = false ∧ s.blocks.frz.buffer = [] ∧ s.blocks.frz.missed = 0 ∧
    s.blocks.frz.writeList = []) ∧
  s.blocks.rpw = []

/-- RESET_RELEASE (R3, R26): the straps are sampled, every block holds its reset values, memory is not written, and with
AUTOSTART high a load begins without a CONTROL-NONE request. The reset values of items without a meaning (the fields of
the INVALID table, the snapshot's tag and words, LOADER's phase and ended reads, EMPTY history records, EVQ's mask in
force, FRZ's mode in force) are the model's choice: log 7. -/
def Obligations.ReleaseOfReset : Prop :=
  ∀ (s : State) (sel : BitVec 4), s.resetPin = true → calmBus s →
    exec (.resetRelease sel false) s = .next
      { s with
        resetPin := false
        path := { Path.reset sel false with
          access := s.path.access, port := s.path.port, bus := s.path.bus, done := s.path.done }
        loader := Loader.reset
        blocks := Blocks.reset } ∧
    ∃ t, exec (.resetRelease sel true) s = .next t ∧ t.resetPin = false ∧ t.pending = s.pending ∧
      t.loader.op = .loading ∧ t.loader.phase = .reading ∧ t.loader.readsDone = 0 ∧ t.loader.result = .none ∧
      t.loader.offset = 0 ∧ t.path.setupSel = sel ∧ t.path.autostart = true ∧ t.path.table.valid = false ∧
      t.path.protection = false ∧ t.path.snapshot.valid = false ∧ t.path.access = s.path.access ∧
      t.path.bus = s.path.bus ∧ t.path.done = s.path.done ∧
      t.blocks.rpw.map Request.kind = [.loadStatus] ∧ t.blocks.tap = Tap.reset ∧ t.blocks.crank = Crank.reset ∧
      t.blocks.seg = Seg.reset ∧ t.blocks.knock = Knock.reset ∧ t.blocks.evq = Evq.reset ∧
      t.blocks.frz = Frz.reset ∧ rowsKept Blocks.reset t.blocks ∧ onlyPortWrites s t

/-- RESET_ASSERT (R3): PATH is transparent, the report writer's list, the freeze writer's words and LOADER's reads are
discarded, an access in progress goes on, and ALERT is driven high (R163). While RESET is asserted every system-side
access is forwarded unchanged and handed to nobody. That the other values stand until the release and that a cut-off
claimant is not told are the model's choices: logs 8 and 18. -/
def Obligations.AssertionOfReset : Prop :=
  (∀ s : State, s.resetPin = false → calmBus s →
     let t : State :=
       { s with
         resetPin := true
         path := { s.path with port := s.path.port.map (fun u => { u with live := u.user == .system }) }
         loader := { s.loader with readsDone := 128 }
         blocks := { s.blocks with rpw := [], frz := { s.blocks.frz with writeList := [] } } }
     exec .resetAssert s = .next t ∧ firstInternal t = none ∧ alertPin t = .high) ∧
  ∀ (c : Instr) (s : State) (a : Access), accessOf s c = some a → s.resetPin = true → portsIdle s →
    exec c s = .next (forwarded a s) ∧ patienceAfter s = s.path.patience ∧ storesOnly a s (forwarded a s)

/-- An access whose bus is held waits for the bus, and an access that arrives during an internal access waits for its
turn, with nothing else changed (R1, R14, section 1.1). The line of waiting masters is the model's choice: log 1. -/
def Obligations.AccessesWait : Prop :=
  ∀ (c : Instr) (s : State) (a : Access), accessOf s c = some a →
    (busHeld s = true → (s.path.port ≠ none ∨ s.path.access = none) →
      exec c s = .next { s with path := { s.path with bus := s.path.bus ++ [a] } }) ∧
    (∀ u, s.path.port = some u → u.user ≠ .system → s.path.access = none → s.path.bus = [] →
      protectedRead s a = none → exec c s = .next { s with path := { s.path with access := some a } })

/-- The window of an address (R2); with the table of a block that validation finds good, no address lies in two windows
and none of the setup block lies in one (R29). -/
def Obligations.WindowsOfAddresses : Prop :=
  (∀ (p : Path) (n : Nat),
    (inSetup p n → windowOf p n = .setup ((n - setupBaseByte p.setupSel) / 4)) ∧
    (¬ inSetup p n → p.table.valid = false → windowOf p n = .none) ∧
    (¬ inSetup p n → p.table.valid = true → windowsAt p.table n = [] → windowOf p n = .none) ∧
    ∀ w, ¬ inSetup p n → p.table.valid = true → windowsAt p.table n = [w] → windowOf p n = w) ∧
  ∀ (sel : BitVec 4) (sh : Shadow) (n : Nat), validate (setupBaseByte sel) sh = none →
    (windowsAt (tableOf (shadowWord sh)) n).length ≤ 1 ∧
    (within (setupBaseByte sel) 512 n = true → windowsAt (tableOf (shadowWord sh)) n = [])

/-- PLAIN_WRITE, and every other write command that no policy takes where it comes: forwarded unchanged, and RAM
takes the bytes it names and no other (R4, R5, R6, R7): outside the windows, to the stream windows outside RUNNING,
to the report and freeze areas while protection is off, and a byte or halfword write to the control word. That the
bytes land at the grant is the model's reading: log 5. -/
def Obligations.WritesForwarded : Prop :=
  ∀ (c : Instr) (s : State) (a : Access) (d : Word), accessOf s c = some a → a.dir = .write d → onTurn s →
    s.resetPin = false →
    (windowOfAccess s a = .none ∨
      (windowOfAccess s a ∈ [Window.tooth, .knock .A, .knock .B, .marker] ∧ s.loader.op ≠ .running) ∨
      (s.path.protection = false ∧ ∃ w, windowOfAccess s a = .report w ∨ windowOfAccess s a = .freeze w) ∨
      (windowOfAccess s a = .setup 1 ∧ a.lanes ≠ .word)) →
    exec c s = .next (forwarded a s) ∧ storesOnly a s (forwarded a s)

/-- FORWARDED_ACCESS_DONE (R4, R14): the system access ends, a read with the bytes RAM drives in the lanes it
addresses, and the next internal claim, if any, is granted. That the model keeps the last completion is its choice:
log 17. -/
def Obligations.ForwardedAccessEnds : Prop :=
  ∀ (s : State) (a : Access) (live : Bool), s.path.port = some ⟨.system, a, live⟩ → s.path.access = none →
    s.path.bus = [] →
    let data : Word := match a.dir with
      | .read => ramWord s.ram a.addr &&& laneMask a.lanes
      | .write d => d
    (firstInternal s = none →
      exec .forwardedAccessDone s = .next
        { s with path := { s.path with port := none, done := some ⟨a, .forwarded, data⟩ } }) ∧
    (∀ c, firstInternal s = some c →
      ∃ t x, exec .forwardedAccessDone s = .next t ∧ t.path.port = some ⟨c, x, true⟩ ∧ t.path.patience = 0 ∧
        t.path.access = none ∧ sameBlocks s.blocks t.blocks ∧ endedOnly a .forwarded data s t) ∧
    (a.dir = .read → ∀ k ∈ enabledLanes a.lanes, laneByte data k = ramByte s.ram (4 * a.addr.toNat + k))

/-- What the arbiter grants when it decides, and what the patience count becomes (R14 to R17). -/
def Obligations.ArbiterDecides : Prop :=
  ∀ s : State, s.path.port = none →
    let t := arbitrate s
    let user : Option Claimant := t.path.port.map PortUse.user
    (s.path.access = none → firstInternal s = none → t = s) ∧
    (∀ c, s.path.access = none → firstInternal s = some c → user = some c ∧ t.path.patience = 0) ∧
    (∀ a c, s.path.access = some a → firstInternal s = some c → bound s.path.table ≤ s.path.patience →
      user = some c ∧ t.path.patience = 0 ∧ t.path.access = some a) ∧
    (∀ a, s.path.access = some a → (firstInternal s = none ∨ s.path.patience < bound s.path.table) →
      (a.dir = .read ∨ ∃ d, a.dir = .write d ∧ (writeFate s a d).granted = true) →
      t.path.port = some ⟨.system, a, true⟩ ∧ t.path.access = none ∧ t.path.patience = patienceAfter s) ∧
    (∀ a d, s.path.access = some a → (firstInternal s = none ∨ s.path.patience < bound s.path.table) →
      a.dir = .write d → (writeFate s a d).granted = false →
      t.path.access = none ∧ t.path.done = some ⟨a, (writeFate s a d).ending, d⟩ ∧ user ≠ some .system ∧
        (firstInternal s ≠ none → user ≠ none) ∧ (user = none → t.path.patience = s.path.patience) ∧
        (user ≠ none → t.path.patience = 0)) ∧
    (s.resetPin = false →
      (s.blocks.rpw ≠ [] → firstInternal s = some .report) ∧
      (s.blocks.rpw = [] → loaderClaims s.loader = true → firstInternal s = some .loader) ∧
      (s.blocks.rpw = [] → loaderClaims s.loader = false → s.blocks.frz.writeList ≠ [] →
        firstInternal s = some .freeze) ∧
      (s.blocks.rpw = [] → loaderClaims s.loader = false → s.blocks.frz.writeList = [] → firstInternal s = none)) ∧
    bound s.path.table = if s.path.table.valid then s.path.table.arbBound else 1

/-- The patience count stays at most 15, and so does the bound of a VALID table (R16, R28); the tooth FIFO never holds
more than 8 records (R43). -/
def Obligations.PatienceAndFifoBounded : Prop :=
  (∀ s t : State, patienceBounded s → step s = .next t → patienceBounded t) ∧
  ∀ s t : State, fifoBounded s → step s = .next t → fifoBounded t

/-- Every invariant stated below holds at reset. -/
def Obligations.InvariantsAtReset : Prop :=
  let s := State.reset
  ramCanonical s ∧ fifoBounded s ∧ patienceBounded s ∧ protectionAgrees s ∧ headerShows s ∧ countsAgree s ∧
    backgroundsGood s ∧ alertDecided s ∧ suspensionFollows s ∧ pendingOnce s ∧
    readsBelong s ∧ shadowGuarded s

/-! ### Reads of the report area -/

/-- WORD0_READ (R12): under protection the read is answered at its arrival with word 0 of the internal copy, in the lanes
it addresses, and the snapshot captures the record whole; nothing else changes. SNAPSHOT_READ (R13): a read of words 1 to
7 is answered from a snapshot of the same record, and is forwarded where the snapshot is INVALID or holds another; every
read outside the protected header and rows is forwarded (R4, R8). That a read command carries any address is the model's
choice: log 11. -/
def Obligations.ProtectedReads : Prop :=
  (∀ (s : State) (w : WordAddr) (l : Lanes) (k : Nat), busFree s → s.resetPin = false → s.path.protection = true →
     k ≤ 8 → windowOfAccess s ⟨w, l, .read⟩ = .report (8 * k) →
     let tag : RecordTag := if k = 0 then .header else .row (Fin.ofNat 8 (k - 1))
     let words := if k = 0 then headerWords s.blocks.rate.header
       else rowWords (s.blocks.rate.rows.get (Fin.ofNat 8 (k - 1)))
     exec (.word0Read w l) s = .next
       { s with path := { s.path with
           snapshot := ⟨true, tag, words⟩
           done := some ⟨⟨w, l, .read⟩, .answered, words.get 0 &&& laneMask l⟩ } }) ∧
  ∀ (s : State) (w : WordAddr) (l : Lanes), s.resetPin = false →
    (∀ (k : Nat) (j : Fin 8), s.path.protection = true → k ≤ 8 → j ≠ 0 →
      windowOfAccess s ⟨w, l, .read⟩ = .report (8 * k + j.val) →
      let tag : RecordTag := if k = 0 then .header else .row (Fin.ofNat 8 (k - 1))
      (busFree s → s.path.snapshot.valid = true → s.path.snapshot.tag = tag →
        exec (.snapshotRead w l) s = .next (endedBy ⟨w, l, .read⟩ .answered
          (s.path.snapshot.words.get j &&& laneMask l) s)) ∧
      (onTurn s → (s.path.snapshot.valid = false ∨ s.path.snapshot.tag ≠ tag) →
        exec (.snapshotRead w l) s = .next (forwarded ⟨w, l, .read⟩ s))) ∧
    (onTurn s →
      (s.path.protection = false ∨ ∀ n, windowOfAccess s ⟨w, l, .read⟩ = .report n → 72 ≤ n) →
      exec (.snapshotRead w l) s = .next (forwarded ⟨w, l, .read⟩ s) ∧
      exec (.word0Read w l) s = .next (forwarded ⟨w, l, .read⟩ s) ∧ (forwarded ⟨w, l, .read⟩ s).ram = s.ram)

/-! ### The report writer -/

/-- A request joins the tail of the list unless one of its kind for its row is pending, which then stands for it; EVENT
and OWNERSHIP-EMPTY requests are never coalesced (R18, R20). So of each kind that coalesces at most one is pending. -/
def Obligations.RequestsCoalesce : Prop :=
  (∀ (init : Bool) (k : RequestKind) (l : List Request),
     (coalesces k = true → pendingCount k l ≠ 0 →
       (addRequest init k l).map (fun r => (r.kind, r.granted)) = l.map (fun r => (r.kind, r.granted)) ∧
       (init = false → addRequest init k l = l)) ∧
     ((coalesces k = false ∨ pendingCount k l = 0) → addRequest init k l = l ++ [⟨k, 0, init⟩]) ∧
     (coalesces k = false ↔ (∃ s w, k = .event s w) ∨ (∃ s, k = .slotEmpty s) ∨ k = .frameEmpty)) ∧
  ∀ s t : State, pendingOnce s → step s = .next t → pendingOnce t

/-- REPORT_WRITE_DONE with words of the request left (R18, R19): the report writer is granted the next word, whose place
and content are those of its kind. -/
def Obligations.ReportWordWritten : Prop :=
  (∀ (s : State) (a : Access) (r : Request) (rest : List Request), s.resetPin = false →
    s.path.port = some ⟨.report, a, true⟩ → s.blocks.rpw = r :: rest → r.granted < requestWords r.kind →
    s.path.access = none → s.path.bus = [] →
    let x := wordWrite (requestWord s r.granted r.kind)
    ∃ t, exec .reportWriteDone s = .next t ∧ t.resetPin = s.resetPin ∧ t.pending = s.pending ∧
      t.path = { s.path with port := some ⟨.report, x, true⟩, patience := 0 } ∧
      t.blocks = { s.blocks with rpw := { r with granted := r.granted + 1 } :: rest } ∧
      t.loader = (if r.kind = .loadStatus then
        { s.loader with shadow := s.loader.shadow.setIfInBounds 2 (loadStatusWord s.loader) } else s.loader) ∧
      storesOnly x s t) ∧
  ∀ (s : State) (i : Fin 8),
    requestWord s i.val .header = (reportWordAddr s.path.table i.val, (headerWords s.blocks.rate.header).get i) ∧
    (∀ c : Fin 8, requestWord s i.val (.row c) =
      (reportWordAddr s.path.table (8 + 8 * c.val + i.val), (rowWords (s.blocks.rate.rows.get c)).get i)) ∧
    (∀ n words, requestWord s i.val (.event n words) =
      (reportWordAddr s.path.table (72 + 8 * n + if i.val = 7 then 0 else i.val + 1), words.get i)) ∧
    (∀ n, requestWord s 0 (.slotEmpty n) = (reportWordAddr s.path.table (72 + 8 * n), 0)) ∧
    requestWord s 0 .frameEmpty = (freezeWordAddr s.path.table 0, 0) ∧
    requestWord s 0 .controlNone = (setupWordAddr s.path.setupSel 1, 0) ∧
    requestWord s 0 .loadStatus = (setupWordAddr s.path.setupSel 2, loadStatusWord s.loader)

/-- REPORT_WRITE_DONE of a request's last word (R19): the request leaves the list. With the last initialisation request
RUNNING is entered and protection goes on (R34); where the list and the freeze writer are empty STOPPING ends (R36). -/
def Obligations.RequestLeavesList : Prop :=
  ∀ (s : State) (a : Access) (r : Request) (rest : List Request), s.resetPin = false →
    s.path.port = some ⟨.report, a, true⟩ → s.blocks.rpw = r :: rest → requestWords r.kind ≤ r.granted →
    (∀ n words, r.kind ≠ .event n words) → s.path.access = none → s.path.bus = [] →
    let ready := s.loader.op = .loading ∧ s.loader.phase = .initialising ∧ r.initial = true ∧
      ∀ q ∈ rest, q.initial = false
    let drained := s.loader.op = .stopping ∧ rest = [] ∧ s.blocks.frz.writeList = []
    ∃ t, exec .reportWriteDone s = .next t ∧ t.resetPin = false ∧ t.pending = s.pending ∧
      t.path = { s.path with
        protection := t.path.protection, port := t.path.port, patience := t.path.patience } ∧
      t.loader = { s.loader with op := t.loader.op, shadow := t.loader.shadow } ∧
      (∀ i, i ≠ 2 → shadowWord t.loader.shadow i = shadowWord s.loader.shadow i) ∧ onlyPortWrites s t ∧
      t.blocks.tap = s.blocks.tap ∧ t.blocks.crank = s.blocks.crank ∧ t.blocks.seg = s.blocks.seg ∧
      t.blocks.knock = s.blocks.knock ∧ t.blocks.frz = s.blocks.frz ∧
      t.blocks.evq = { s.blocks.evq with alert := t.blocks.evq.alert } ∧ rowsKept s.blocks t.blocks ∧
      (ready → t.loader.op = .running ∧ t.path.protection = true ∧ t.blocks.rate.header.op = .running ∧
        requested t .loadStatus) ∧
      (drained → t.loader.op = .stopped ∧ t.path.protection = s.path.protection ∧
        t.blocks.rate.header.op = .stopped ∧ requested t .loadStatus) ∧
      (¬ ready → ¬ drained → t.loader.op = s.loader.op ∧ t.path.protection = s.path.protection ∧
        t.blocks.rpw.map Request.kind = rest.map Request.kind ∧ sameBlocks s.blocks t.blocks)

/-- REPORT_WRITE_DONE of a slot's ownership word (R19, R159): the slot becomes READY with its kind kept, the alert state
is decided again (R162), and in STOPPING an empty list then ends it (R36). -/
def Obligations.EventRecordReady : Prop :=
  ∀ (s : State) (a : Access) (r : Request) (rest : List Request) (n : Nat) (words : Vector Word 8) (k : EventKind),
    s.resetPin = false → s.path.port = some ⟨.report, a, true⟩ → s.blocks.rpw = r :: rest →
    r.kind = .event n words → 8 ≤ r.granted → s.path.access = none → s.path.bus = [] →
    slotIn s n = some (.filling k) →
    let drained := s.loader.op = .stopping ∧ rest = [] ∧ s.blocks.frz.writeList = []
    ∃ t, exec .reportWriteDone s = .next t ∧ t.resetPin = false ∧ t.pending = s.pending ∧
      slotIn t n = some (.ready k) ∧ (∀ m, m ≠ n → slotIn t m = slotIn s m) ∧
      t.blocks.evq = { s.blocks.evq with slots := t.blocks.evq.slots, alert := t.blocks.evq.alert } ∧
      (inCharge s.loader.op = true → maskNames s.blocks.evq.alertMask k = true → t.blocks.evq.alert = true) ∧
      (inCharge s.loader.op = false → t.blocks.evq.alert = false) ∧
      t.blocks.tap = s.blocks.tap ∧ t.blocks.crank = s.blocks.crank ∧ t.blocks.seg = s.blocks.seg ∧
      t.blocks.knock = s.blocks.knock ∧ t.blocks.frz = s.blocks.frz ∧ rowsKept s.blocks t.blocks ∧
      t.path = { s.path with port := t.path.port, patience := t.path.patience } ∧
      t.loader = { s.loader with op := t.loader.op, shadow := t.loader.shadow } ∧
      (∀ i, i ≠ 2 → shadowWord t.loader.shadow i = shadowWord s.loader.shadow i) ∧ onlyPortWrites s t ∧
      (drained → t.loader.op = .stopped) ∧ (¬ drained → t.loader.op = s.loader.op)

/-! ### Commands and the load -/

/-- START in UNCONFIGURED or STOPPED (R25, R26): the write is forwarded, the load begins in READING, the table and the
snapshot become INVALID, protection goes off, ALERT goes inactive (R162), and the blocks keep their state. -/
def Obligations.StartBeginsLoad : Prop :=
  ∀ s : State, onTurn s → s.resetPin = false → (s.loader.op = .unconfigured ∨ s.loader.op = .stopped) →
    let a := setupAccess s 1 .word 1
    ∃ t, exec .start s = .next t ∧ t.resetPin = false ∧ t.pending = s.pending ∧ storesOnly a s t ∧
      t.loader = { s.loader with
        op := .loading, phase := .reading, readsDone := 0, result := .none, offset := 0 } ∧
      t.path = { (forwarded a s).path with
        table := { s.path.table with valid := false }, protection := false
        snapshot := { s.path.snapshot with valid := false } } ∧
      t.blocks.rpw = addRequest false .loadStatus (addRequest false .controlNone s.blocks.rpw) ∧
      t.blocks.tap = s.blocks.tap ∧ t.blocks.crank = s.blocks.crank ∧ t.blocks.seg = s.blocks.seg ∧
      t.blocks.knock = s.blocks.knock ∧ t.blocks.frz = s.blocks.frz ∧
      t.blocks.evq = { s.blocks.evq with alert := false } ∧ rowsKept s.blocks t.blocks ∧
      t.blocks.rate.header = { s.blocks.rate.header with op := .loading, seq := t.blocks.rate.header.seq }

/-- A word write to the control word is decided against the operating state at its grant (R25): what is taken, refused,
unknown or ignored. NONE and an unknown value are shown as commands too. That the two requests stand ahead of RATE's
HEADER request at a STOP is the model's choice: log 14. -/
def Obligations.CommandTable : Prop :=
  (∀ (s : State) (waiting : Bool) (v : Word), s.resetPin = false →
    let a := setupAccess s 1 .word v
    let g := grantSystem waiting a s
    let t := turn waiting a s
    let requests := addRequest false .loadStatus (addRequest false .controlNone s.blocks.rpw)
    let refused (code : ResultCode) : State :=
      { g with
        loader := { s.loader with result := code, offset := 0 }, blocks := { s.blocks with rpw := requests } }
    (v = 0 → t = g) ∧ (2 < v.toNat → t = refused .unknownCommand) ∧
    (v = 1 → s.loader.op = .loading ∨ s.loader.op = .running ∨ s.loader.op = .stopping → t = refused .refused) ∧
    (v = 2 → s.loader.op ≠ .running → t = refused .refused) ∧
    (v = 1 → s.loader.op = .unconfigured ∨ s.loader.op = .stopped →
      t.loader.op = .loading ∧ t.loader.phase = .reading ∧ t.loader.result = .none ∧ t.loader.offset = 0 ∧
      t.blocks.rpw = requests) ∧
    (v = 2 → s.loader.op = .running →
      t.loader.op = .stopping ∧ t.loader.result = .ok ∧ t.loader.offset = 0 ∧
      ∃ later, t.blocks.rpw = requests ++ later)) ∧
  ∀ s : State, onTurn s → s.resetPin = false →
    exec .noneCommand s = .next (forwarded (setupAccess s 1 .word 0) s) ∧
    (∀ v : Word, 2 < v.toNat →
      exec (.unknownCommand v) s = .next (commandRefused (setupAccess s 1 .word v) .unknownCommand s)) ∧
    (s.loader.op = .loading ∨ s.loader.op = .running ∨ s.loader.op = .stopping →
      exec .start s = .next (commandRefused (setupAccess s 1 .word 1) .refused s)) ∧
    (s.loader.op ≠ .running → exec .stop s = .next (commandRefused (setupAccess s 1 .word 2) .refused s))

/-- STOP in RUNNING (R35): TAP drops its FIFO and note, CRANK stops with its cycle number kept, the open segment, the
open window and a collection are dropped, and the rows, the slots and a frame in write-out stay. That CRANK's position
and each item R78 does not name stand is the model's reading: log 16. -/
def Obligations.StopDrains : Prop :=
  ∀ s : State, onTurn s → s.resetPin = false → s.loader.op = .running →
    let a := setupAccess s 1 .word 2
    ∃ t, exec .stop s = .next t ∧ t.resetPin = false ∧ t.pending = s.pending ∧ storesOnly a s t ∧
      t.path = (forwarded a s).path ∧ t.loader = { s.loader with op := .stopping, result := .ok, offset := 0 } ∧
      t.blocks.tap = { s.blocks.tap with fifo := [], note := .none } ∧
      t.blocks.crank = { s.blocks.crank with
        sync := .stopped, tPrev := none, pPrev := none, glitch := 0, verify := 0, confirmed := 0, unphased := 0
        noCam := false, spanEdges := 0, spanError := false, camRun := 0, stall := .halted } ∧
      t.blocks.seg = { s.blocks.seg with openSeg := none } ∧
      t.blocks.knock = { s.blocks.knock with openWin := none } ∧
      t.blocks.evq = { s.blocks.evq with alert := t.blocks.evq.alert } ∧
      (t.blocks.evq.alert = true ↔ ∃ k, SlotState.ready k ∈ s.blocks.evq.slots ∧
        maskNames s.blocks.evq.alertMask k = true) ∧
      (s.blocks.frz.state = .collecting → t.blocks.frz =
        { s.blocks.frz with
          state := .idle, trigger := none, pre := 0, post := 0, truncated := false, buffer := [] }) ∧
      (s.blocks.frz.state ≠ .collecting → t.blocks.frz = s.blocks.frz) ∧ rowsKept s.blocks t.blocks ∧
      t.blocks.rate.header.op = .stopping ∧ t.blocks.rate.header.sync = .stopped ∧
      requested t .controlNone ∧ requested t .loadStatus

/-- LOADER_READ_DONE. With reads left and no request waiting (R14, R26): the shadow takes the word read, the control word
held at 0, and LOADER is granted its next read. At the 128th read (R27, R33): validation fails, which leaves the blocks
and makes the state UNCONFIGURED, or succeeds, which loads the window table, gives every block its START values and hands
the report writer the initialisation requests in their order, coalesced with the requests still in the list (R20, R21).
The START values of items without a meaning (EMPTY history records, no last opened record) are the model's choice: log 7;
so is it that a request of that moment coalesces before the arbiter grants one of the list: log 24. -/
def Obligations.LoaderReads : Prop :=
  ∀ (s : State) (a : Access), s.resetPin = false → s.path.port = some ⟨.loader, a, true⟩ → s.path.access = none →
    s.path.bus = [] → s.loader.op = .loading → s.loader.phase = .reading →
    let sh := s.loader.shadow.setIfInBounds 127 (ramWord s.ram a.addr)
    let verdict := validate (setupBaseByte s.path.setupSel) sh
    let requests : List RequestKind :=
      .header :: (List.range 8).map (fun c => .row (Fin.ofNat 8 c)) ++
        (List.range (fQueueCapacity (shadowWord sh))).map .slotEmpty ++ [.frameEmpty]
    (s.loader.readsDone + 1 < 128 → s.blocks.rpw = [] →
      exec .loaderReadDone s = .next
        { s with
          path := { s.path with
            port := some ⟨.loader, ⟨setupWordAddr s.path.setupSel (s.loader.readsDone + 1), .word, .read⟩, true⟩
            patience := 0 }
          loader := { s.loader with
            readsDone := s.loader.readsDone + 1
            shadow := if s.loader.readsDone = 1 then s.loader.shadow
              else s.loader.shadow.setIfInBounds s.loader.readsDone (ramWord s.ram a.addr) } }) ∧
    (s.loader.readsDone = 127 → ∀ code off, verdict = some (code, off) →
      ∃ t, exec .loaderReadDone s = .next t ∧ t.resetPin = false ∧ t.pending = s.pending ∧
        t.loader = { s.loader with
          op := .unconfigured, result := code, offset := off, readsDone := 128, shadow := t.loader.shadow } ∧
        (∀ i, i ≠ 2 → shadowWord t.loader.shadow i = shadowWord sh i) ∧
        t.path = { s.path with port := t.path.port, patience := t.path.patience } ∧ requested t .loadStatus ∧
        t.blocks.tap = s.blocks.tap ∧ t.blocks.crank = s.blocks.crank ∧ t.blocks.seg = s.blocks.seg ∧
        t.blocks.knock = s.blocks.knock ∧ t.blocks.frz = s.blocks.frz ∧
        t.blocks.evq = { s.blocks.evq with alert := false } ∧ rowsKept s.blocks t.blocks ∧ onlyPortWrites s t) ∧
    (s.loader.readsDone = 127 → verdict = none →
      ∃ t, exec .loaderReadDone s = .next t ∧ t.resetPin = false ∧ t.pending = s.pending ∧
        t.loader = { s.loader with
          phase := .initialising, result := .ok, offset := 0, readsDone := 128, shadow := t.loader.shadow } ∧
        (∀ i, i ≠ 2 → shadowWord t.loader.shadow i = shadowWord sh i) ∧
        (s.blocks.rpw = [] → t.loader.shadow = sh) ∧
        t.path = { s.path with
          table := tableOf (shadowWord sh), port := t.path.port, patience := t.path.patience } ∧
        t.blocks.rpw.map Request.kind = (addRequest false .loadStatus
          (requests.foldl (fun l k => addRequest true k l) s.blocks.rpw)).map Request.kind ∧
        (s.blocks.rpw = [] → t.blocks.rpw.map Request.kind = requests ++ [.loadStatus]) ∧
        t.blocks.tap = Tap.reset ∧ t.blocks.crank = Crank.reset ∧ t.blocks.seg = Seg.reset ∧
        t.blocks.knock = Knock.reset ∧ t.blocks.rate = rateStart (shadowWord sh) ∧
        t.blocks.evq.slots = List.replicate (fQueueCapacity (shadowWord sh)) .free ∧
        t.blocks.evq.producer = 0 ∧ t.blocks.evq.seq = 0 ∧ t.blocks.evq.dropped = 0 ∧ t.blocks.evq.alert = false ∧
        t.blocks.evq.polarity = (if fAlertPolarity (shadowWord sh) = 0 then .low else .high) ∧
        t.blocks.evq.alertMask = fAlertMask (shadowWord sh) ∧
        t.blocks.frz = { Frz.reset with
          mode := freezeModeOf (fFreezeMode (shadowWord sh))
          state := if fFreezeMode (shadowWord sh) = 0 then .idle else .armed } ∧
        onlyPortWrites s t)

/-- The order of the tests of validation, and the failing offset (R27). Which words a check takes in follows log 12,
the model's reading. -/
def Obligations.ValidationOrder : Prop :=
  ∀ (base : Nat) (sh : Shadow),
    (shadowWord sh 0 ≠ 0x56430620 → validate base sh = some (.badMarker, 0)) ∧
    (shadowWord sh 0 = 0x56430620 → blockSum sh ≠ 0 → validate base sh = some (.badChecksum, 3)) ∧
    (shadowWord sh 0 = 0x56430620 → blockSum sh = 0 →
      (validate base sh = none ↔ ∀ g ∈ groups base, ∀ c ∈ g.2, checkHolds c sh = true) ∧
      ∀ code off, validate base sh = some (code, off) →
        ∃ before cs after, groups base = before ++ (code, cs) :: after ∧
          (∀ g ∈ before, ∀ c ∈ g.2, checkHolds c sh = true) ∧
          (∃ c ∈ cs, checkHolds c sh = false ∧ off ∈ c.words) ∧
          ∀ c ∈ cs, checkHolds c sh = false → ∀ w ∈ c.words, off ≤ w) ∧
    (groups base).map Prod.fst = [.badGeometry, .badWindows, .badMisfire, .badKnock, .badQueue, .badFreeze]

/-- What the field groups admit of a block that validation finds good: the ranges and the checks between fields (R28 to
R32). That no two windows, nor a window and the setup block, share an address is said by WindowsOfAddresses. -/
def Obligations.ValidatedFields : Prop :=
  ∀ (base : Nat) (sh : Shadow), validate base sh = none →
    let r := shadowWord sh
    (2 ≤ fNcyl r ∧ fNcyl r ≤ 8 ∧ 12 ≤ fTeethN r ∧ fTeethN r ≤ 72 ∧ 1 ≤ fMissingM r ∧ fMissingM r ≤ 3 ∧
      fMissingM r + 8 ≤ fTeethN r ∧ 2 * fTeethN r % fNcyl r = 0 ∧ fTdcRef r < 2 * fTeethN r ∧
      fSegOffset r < segmentLength r ∧ 10 ≤ fTickNs r ∧ fTickNs r ≤ 1000 ∧ fCamLo r ≤ fCamHi r ∧
      fCamHi r < fTeethN r ∧ fCamEdge r ≤ 1 ∧ 1 ≤ fConfirmRevs r ∧ fConfirmRevs r ≤ 4 ∧ 20 ≤ fGapMin r ∧
      fGapMin r < fGapMax r ∧ fGapMax r ≤ 80 ∧ 2 ≤ fGlitchMin r ∧ fGlitchMin r ≤ 15 ∧ 1 ≤ fGlitchLimit r ∧
      fGlitchLimit r ≤ 7 ∧ 2 ≤ fPhaseTimeoutRevs r ∧ fPhaseTimeoutRevs r ≤ 8 ∧ 10 ≤ fStallTimeout r ∧
      fStallTimeout r ≤ 20000 ∧ 1 ≤ fArbBound r ∧ fArbBound r ≤ 15 ∧ fAlertPolarity r ≤ 1) ∧
    (∀ c, 1 ≤ c → c ≤ fNcyl r → ∃ k, k < fNcyl r ∧ fFiringOrder r k = c) ∧
    (∀ k, k < fNcyl r → missingPosition r (segmentBoundary r k) = false ∧ missingPosition r (windowOpen r k) = false ∧
      missingPosition r (windowClose r k) = false) ∧
    (16 ≤ fToothSize r ∧ fToothSize r ≤ 4096 ∧ 16 ≤ fKnockASize r ∧ fKnockASize r ≤ 8192 ∧ fKnockASize r % 2 = 0 ∧
      (fKnockBSize r ≠ 0 → 16 ≤ fKnockBSize r ∧ fKnockBSize r ≤ 8192 ∧ fKnockBSize r % 2 = 0) ∧
      136 ≤ fReportSize r ∧ fReportSize r ≤ 65536 ∧ 25 ≤ fFreezeSize r ∧ fFreezeSize r ≤ 65536) ∧
    (fToothBase r % 4 = 0 ∧ fKnockABase r % 4 = 0 ∧ (fKnockBSize r ≠ 0 → fKnockBBase r % 4 = 0) ∧
      fMarkerBase r % 4 = 0 ∧ fReportBase r % 4 = 0 ∧ fFreezeBase r % 4 = 0) ∧
    (fToothBase r + 4 * fToothSize r ≤ 2 ^ 24 ∧ fKnockABase r + 2 * fKnockASize r ≤ 2 ^ 24 ∧
      (fKnockBSize r ≠ 0 → fKnockBBase r + 2 * fKnockBSize r ≤ 2 ^ 24) ∧ fMarkerBase r + 4 ≤ 2 ^ 24 ∧
      fReportBase r + 4 * fReportSize r ≤ 2 ^ 24 ∧ fFreezeBase r + 4 * fFreezeSize r ≤ 2 ^ 24) ∧
    (∀ i, i < 16 → ∀ h, h < 2 → 1 ≤ bitField (r (32 + i)) (16 * h) 16 ∧ bitField (r (32 + i)) (16 * h) 16 ≤ 32767) ∧
    (∀ i, 1 ≤ i → i ≤ 7 → 1 ≤ fRpmEdge r i ∧ fRpmEdge r i ≤ 20000) ∧
    (∀ i, 1 ≤ i → i ≤ 6 → fRpmEdge r i < fRpmEdge r (i + 1)) ∧
    (∀ i, i < 3 → 8 ≤ fSurfScale r i ∧ fSurfScale r i ≤ 64) ∧
    (1 ≤ fTransientLimit r ∧ fTransientLimit r ≤ 4095 ∧ fHoldoffCycles r ≤ 15 ∧ fShadowEnable r ≤ 1 ∧
      16 ≤ fRateWindow r ∧ fRateWindow r ≤ 1024 ∧ 1 ≤ fSuspectLimit r ∧ fSuspectLimit r ≤ fFaultLimit r ∧
      fFaultLimit r ≤ 1000) ∧
    (fKwStart r < segmentLength r ∧ 1 ≤ fKwWidth r ∧ fKwWidth r + fKwStart r ≤ segmentLength r ∧
      fSensAFirst r < fNcyl r ∧ fSensALast r < fNcyl r ∧
      (fKnockBSize r ≠ 0 → fSensBFirst r < fNcyl r ∧ fSensBLast r < fNcyl r) ∧ 4 ≤ fKnockMinSamples r ∧
      16 ≤ fKnockThr r ∧ fKnockThr r < fHeavyThr r ∧ fHeavyThr r ≤ 4095 ∧ 1 ≤ fImpactCeiling r ∧
      fImpactCeiling r ≤ 32767 ∧ 1 ≤ fBgShift r ∧ fBgShift r ≤ 8 ∧ 2 ≤ fBiasShift r ∧ fBiasShift r ≤ 10 ∧
      1 ≤ fLightRate r ∧ fLightRate r ≤ fHeavyRate r ∧ fHeavyRate r ≤ 1000) ∧
    (8 ≤ fQueueCapacity r ∧ fQueueCapacity r ≤ 64 ∧ 72 + 8 * fQueueCapacity r ≤ fReportSize r ∧ fFrzPre r ≤ 15 ∧
      fFrzPost r ≤ 8 ∧ fFreezeMode r ≤ 2 ∧ 8 + 17 * (fFrzPre r + 1 + fFrzPost r) ≤ fFreezeSize r)

/-! ### Setup writes -/

/-- SETUP_WRITE in UNCONFIGURED, READING and STOPPED (R22, R37): forwarded, and the shadow word takes the bytes that the
write enables and keeps its others; no block is told. -/
def Obligations.SetupWriteOpen : Prop :=
  (∀ (s : State) (off : BitVec 7) (l : Lanes) (d : Word), onTurn s → s.resetPin = false → off ≠ 1 → off ≠ 2 →
    (s.loader.op = .unconfigured ∨ s.loader.op = .stopped ∨
      (s.loader.op = .loading ∧ s.loader.phase = .reading)) →
    let a := setupAccess s off.toNat l d
    exec (.setupWrite off l d) s = .next
      { forwarded a s with loader := { s.loader with
          shadow := s.loader.shadow.setIfInBounds off.toNat
            (mergeLanes (shadowWord s.loader.shadow off.toNat) d l) } } ∧
    storesOnly a s (forwarded a s)) ∧
  ∀ (old new : Word) (l : Lanes) (k : Nat), k < 4 →
    laneByte (mergeLanes old new l) k = if k ∈ enabledLanes l then laneByte new k else laneByte old k

/-- A GEOMETRY word, or a merged word that a check of its fields refuses, in INITIALISING, RUNNING and STOPPING (R38,
R39): the write is dropped and SETUP_REFUSED is set; the event is raised in RUNNING alone, and on the flag's change. -/
def Obligations.SetupWriteRefused : Prop :=
  ∀ (s : State) (off : BitVec 7) (l : Lanes) (d : Word), onTurn s → s.resetPin = false → off ≠ 1 → off ≠ 2 →
    (s.loader.op = .running ∨ s.loader.op = .stopping ∨
      (s.loader.op = .loading ∧ s.loader.phase = .initialising)) →
    (geometryWord off.toNat = true ∨
      tunableAccepted (setupBaseByte s.path.setupSel) off.toNat
        (s.loader.shadow.setIfInBounds off.toNat (mergeLanes (shadowWord s.loader.shadow off.toNat) d l)) = false) →
    ∃ t, exec (.setupWrite off l d) s = .next t ∧
      endedOnly (setupAccess s off.toNat l d) .dropped d s t ∧ flagIn t .setupRefused = true ∧
      (∀ f, f ≠ .setupRefused → f ≠ .queueDropped → flagIn t f = flagIn s f) ∧
      t.blocks.crank = s.blocks.crank ∧ t.blocks.seg = s.blocks.seg ∧ t.blocks.knock = s.blocks.knock ∧
      rowsKept s.blocks t.blocks ∧
      (flagIn s .setupRefused = true → sameBlocks s.blocks t.blocks) ∧
      (s.loader.op ≠ .running → t.blocks.evq = s.blocks.evq ∧ t.blocks.frz = s.blocks.frz ∧
        flagIn t .queueDropped = flagIn s .queueDropped) ∧
      (s.loader.op = .running → flagIn s .setupRefused = false → maskNames (fEventMask s.setup) .setupRefused = true →
        slotIn s s.blocks.evq.producer = some .free →
        slotIn t s.blocks.evq.producer = some (.filling .setupRefused) ∧
        ∃ words, requested t (.event s.blocks.evq.producer words) ∧
          bitField (words.get 0) 16 16 = (if geometryWord off.toNat then 1 else 2) ∧
          words.get 3 = BitVec.ofNat 32 off.toNat)

/-- A TUNABLE word whose merged value every check of its fields accepts, in INITIALISING, RUNNING and STOPPING
(R39): forwarded and taken; only the mask word reaches EVQ (R164) and only the freeze mode word reaches FRZ (R178).
That a write to the freeze mode word acts whichever of its bytes it enables is the model's reading: log 15. -/
def Obligations.TunableWriteAccepted : Prop :=
  ∀ (s : State) (off : BitVec 7) (l : Lanes) (d : Word), onTurn s → s.resetPin = false → off ≠ 1 → off ≠ 2 →
    (s.loader.op = .running ∨ s.loader.op = .stopping ∨
      (s.loader.op = .loading ∧ s.loader.phase = .initialising)) →
    let a := setupAccess s off.toNat l d
    let sh := s.loader.shadow.setIfInBounds off.toNat (mergeLanes (shadowWord s.loader.shadow off.toNat) d l)
    let s' : State := { forwarded a s with loader := { s.loader with shadow := sh } }
    geometryWord off.toNat = false → tunableAccepted (setupBaseByte s.path.setupSel) off.toNat sh = true →
    (off ≠ 62 → off ≠ 64 → exec (.setupWrite off l d) s = .next s') ∧
    (off = 62 → exec (.setupWrite off l d) s = .next
      { s' with blocks := { s.blocks with evq := { s.blocks.evq with
          alertMask := fAlertMask (shadowWord sh)
          alert := inCharge s.loader.op && s.blocks.evq.slots.any (slotAlerts (fAlertMask (shadowWord sh))) } } }) ∧
    (off = 64 → s.blocks.rate.header.freeze = s.blocks.frz.state → ∃ t, exec (.setupWrite off l d) s = .next t ∧
      t = { s' with blocks := { s.blocks with frz := t.blocks.frz, rate := t.blocks.rate, rpw := t.blocks.rpw } } ∧
      t.blocks.frz.mode = freezeModeOf (fFreezeMode (shadowWord sh)) ∧
      (let off_ := freezeModeOf (fFreezeMode (shadowWord sh)) = .off
       t.blocks.frz.state = match s.blocks.frz.state with
        | .idle => if off_ then .idle else .armed
        | .armed => if off_ then .idle else .armed
        | .collecting => if off_ then .idle else .collecting
        | .writing => .writing
        | .held => .held) ∧
      (s.blocks.frz.state ≠ .collecting ∨ t.blocks.frz.state = .collecting → t.blocks.frz =
        { s.blocks.frz with mode := t.blocks.frz.mode, state := t.blocks.frz.state }) ∧
      (s.blocks.frz.state = .collecting → t.blocks.frz.state = .idle → t.blocks.frz =
        { s.blocks.frz with
          mode := .off, state := .idle, trigger := none, pre := 0, post := 0, truncated := false, buffer := [] }) ∧
      headerStep s.path.table.valid (fun h => { h with freeze := t.blocks.frz.state }) s.blocks t.blocks)

/-- In INITIALISING, RUNNING and STOPPING the setup shadow satisfies every validation constraint (R34, R39). -/
def Obligations.ShadowGuarded : Prop :=
  ∀ s t : State, readsBelong s → shadowGuarded s → step s = .next t → shadowGuarded t

/-- A LOADER read in progress that LOADER waits for belongs to a load that is READING (R14, R26); with it, protection is
on in RUNNING, STOPPING and STOPPED, and off in UNCONFIGURED and LOADING (R7). -/
def Obligations.LoadReadsAndProtection : Prop :=
  (∀ s t : State, readsBelong s → step s = .next t → readsBelong t) ∧
  ∀ s t : State, readsBelong s → protectionAgrees s → step s = .next t → protectionAgrees t

/-! ### Memory -/

/-- A command changes no byte of RAM but those that the access in progress after it writes (R3, R4, R14), and every
step keeps RAM in canonical form. That bytes land at the grant is the model's reading: log 5. -/
def Obligations.RamChangesAtGrants : Prop :=
  (∀ (c : Instr) (s t : State), exec c s = .next t → onlyPortWrites s t) ∧
  ∀ s t : State, ramCanonical s → step s = .next t → ramCanonical t

/-! ### Streams, markers and flags -/

/-- TOOTH_WRITE in RUNNING (R41 to R44, R51): the write is forwarded; position, size, content and room are judged in this
order; a good word's record joins the FIFO with the pending note, and a write without a fault changes nothing else. -/
def Obligations.ToothWriteTaken : Prop :=
  ∀ (s : State) (w : WordAddr) (l : Lanes) (d : Word), onTurn s → s.resetPin = false → s.loader.op = .running →
    windowOfAccess s ⟨w, l, .write d⟩ = .tooth →
    let a : Access := ⟨w, l, .write d⟩
    let slot := (byteAddr a - s.path.table.toothBase) / 4
    let tap := s.blocks.tap
    let skip := tap.tooth.aligned = true ∧ slot ≠ tap.tooth.expected
    let note : LossNote := if skip ∧ tap.note = .none then .skip else tap.note
    let next : RingIndex := ⟨true, (slot + 1) % s.path.table.toothSize⟩
    let bad := l = .word ∧ toothKind d = none
    let full := l = .word ∧ toothKind d ≠ none ∧ 8 ≤ tap.fifo.length
    ∃ t, exec (.toothWrite w l d) s = .next t ∧ throughPort a s t ∧ t.blocks.tap.tooth = next ∧
      t.blocks.tap.knock = tap.knock ∧ t.blocks.tap.cut = tap.cut ∧ t.blocks.tap.load = tap.load ∧
      t.blocks.tap.surface = tap.surface ∧ t.blocks.crank = s.blocks.crank ∧ t.blocks.seg = s.blocks.seg ∧
      t.blocks.knock = s.blocks.knock ∧ rowsKept s.blocks t.blocks ∧
      (∀ k, l = .word → toothKind d = some k → tap.fifo.length < 8 →
        t.blocks.tap.fifo = tap.fifo ++ [⟨toothStamp d, k, note⟩] ∧ t.blocks.tap.note = .none ∧
        (¬ skip → t.blocks = { s.blocks with tap :=
          { tap with tooth := next, fifo := tap.fifo ++ [⟨toothStamp d, k, note⟩], note := .none } })) ∧
      (full → t.blocks.tap.fifo = tap.fifo ∧ t.blocks.tap.note = (if note = .none then .overrun else note)) ∧
      (bad ∨ l ≠ .word → t.blocks.tap.fifo = tap.fifo ∧ t.blocks.tap.note = note) ∧
      (flagIn t .toothSkip = true ↔ flagIn s .toothSkip = true ∨ skip) ∧
      (flagIn t .size = true ↔ flagIn s .size = true ∨ l ≠ .word) ∧
      (flagIn t .format = true ↔ flagIn s .format = true ∨ bad) ∧
      (flagIn t .overrun = true ↔ flagIn s .overrun = true ∨ full) ∧
      ∀ f, f ∈ [Flag.knockSkipA, .knockSkipB, .marker, .setupRefused, .protect] → flagIn t f = flagIn s f

/-- KNOCK_WRITE in RUNNING (R45, R46, R47): the ring's index follows the write, a skip sets the sensor's flag and suspends
it before the samples are handed over, a byte write has fault SIZE and no sample, and samples go to KNOCK in order. -/
def Obligations.KnockWriteTaken : Prop :=
  ∀ (s : State) (w : WordAddr) (l : Lanes) (d : Word) (x : Sensor), onTurn s → s.resetPin = false →
    s.loader.op = .running → windowOfAccess s ⟨w, l, .write d⟩ = .knock x →
    let a : Access := ⟨w, l, .write d⟩
    let h := (byteAddr a - s.path.table.knockBase.get x) / 2
    let width := if l = .word then 2 else 1
    let ring := s.blocks.tap.knock.get x
    let skip := ring.aligned = true ∧ h ≠ ring.expected
    let next : RingIndex := ⟨true, (h + width) % s.path.table.knockSize.get x⟩
    let k0 := if skip ∧ flagIn s (skipFlag x) = false then suspend x s.blocks.knock else s.blocks.knock
    let k := match l with
      | .word => takeSample s.setup x (signedHalf d true) (takeSample s.setup x (signedHalf d false) k0)
      | .half high => takeSample s.setup x (signedHalf d high) k0
      | .byte _ => k0
    ∃ t, exec (.knockWrite w l d) s = .next t ∧ throughPort a s t ∧ t.blocks.tap.knock.get x = next ∧
      (∀ y, y ≠ x → t.blocks.tap.knock.get y = s.blocks.tap.knock.get y) ∧
      t.blocks.tap.tooth = s.blocks.tap.tooth ∧ t.blocks.tap.fifo = s.blocks.tap.fifo ∧
      t.blocks.tap.note = s.blocks.tap.note ∧ t.blocks.tap.cut = s.blocks.tap.cut ∧
      t.blocks.tap.load = s.blocks.tap.load ∧ t.blocks.tap.surface = s.blocks.tap.surface ∧
      t.blocks.crank = s.blocks.crank ∧ t.blocks.seg = s.blocks.seg ∧ t.blocks.knock = k ∧
      rowsKept s.blocks t.blocks ∧
      (¬ skip → (∀ b, l ≠ .byte b) → t.blocks = { s.blocks with
        tap := { s.blocks.tap with knock := s.blocks.tap.knock.set x next }, knock := k }) ∧
      (flagIn t (skipFlag x) = true ↔ flagIn s (skipFlag x) = true ∨ skip) ∧
      (flagIn t .size = true ↔ flagIn s .size = true ∨ ∃ b, l = .byte b) ∧
      ∀ f, f ≠ skipFlag x → f ≠ .size → f ≠ .queueDropped → flagIn t f = flagIn s f

/-- What one sample does (R113, R114): the bias moves by the difference shifted right, rounding down; the open window's
part integrates the distance from the new bias unless the sensor is suspended; the other sensor keeps its values. -/
def Obligations.SampleTaken : Prop :=
  ∀ (r : Reader) (x : Sensor) (v : Int) (k : Knock),
    let bias := k.bias.get x + Int.fdiv (v - k.bias.get x) (2 ^ fBiasShift r : Nat)
    let after := takeSample r x v k
    after.bias.get x = bias ∧ after.suspended = k.suspended ∧ after.background = k.background ∧
    (∀ y, y ≠ x → after.bias.get y = k.bias.get y) ∧
    (k.suspended.get x = true ∨ k.openWin = none → after.openWin = k.openWin) ∧
    ∀ win, k.openWin = some win → k.suspended.get x = false →
      ∃ win', after.openWin = some win' ∧ win'.position = win.position ∧ win'.cylinder = win.cylinder ∧
        win'.cut = win.cut ∧ (∀ y, y ≠ x → win'.parts.get y = win.parts.get y) ∧
        (win.parts.get x = none → win'.parts.get x = none) ∧
        ∀ p, win.parts.get x = some p → win'.parts.get x = some
          { accumulator := min (2 ^ 32 - 1) (p.accumulator + (v - bias).natAbs)
            count := if p.count < 65535 then p.count + 1 else p.count, tainted := p.tainted }

/-- IGN_CUT, LOAD and SURFACE of a value in range (R48, R49): the value replaces its part of the marker context, and RATE
is told where it differs. -/
def Obligations.ContextMarkers : Prop :=
  ∀ (s : State) (v : BitVec 16), onTurn s → s.resetPin = false → s.loader.op = .running →
    windowOf s.path (4 * (markerAddr s).toNat) = .marker → s.blocks.rate.header.cut = s.blocks.tap.cut →
    s.blocks.rate.header.load = s.blocks.tap.load → s.blocks.rate.header.surface = s.blocks.tap.surface →
    (v.toNat < 2 ^ fNcyl s.setup → ∃ t, exec (.ignCut v) s = .next t ∧
      throughPort (markerAccess s .ignCut v) s t ∧
      t.blocks = { s.blocks with
        tap := { s.blocks.tap with cut := v.setWidth 8 }, rate := t.blocks.rate, rpw := t.blocks.rpw } ∧
      headerStep s.path.table.valid (fun h => { h with cut := v.setWidth 8 }) s.blocks t.blocks) ∧
    (v.toNat ≤ 3 → ∃ t, exec (.load v) s = .next t ∧
      throughPort (markerAccess s .load v) s t ∧
      t.blocks = { s.blocks with
        tap := { s.blocks.tap with load := v.setWidth 2 }, rate := t.blocks.rate, rpw := t.blocks.rpw } ∧
      headerStep s.path.table.valid (fun h => { h with load := v.setWidth 2 }) s.blocks t.blocks) ∧
    (v.toNat ≤ 3 → ∃ t, exec (.surface v) s = .next t ∧
      throughPort (markerAccess s .surface v) s t ∧
      t.blocks = { s.blocks with
        tap := { s.blocks.tap with surface := v.setWidth 2 }, rate := t.blocks.rate, rpw := t.blocks.rpw } ∧
      headerStep s.path.table.valid (fun h => { h with surface := v.setWidth 2 }) s.blocks t.blocks)

/-- SYNC_RESET (R50, R75): in STOPPED it has no effect; in HUNT and VERIFY the hunt restarts with no event; in
CRANK_SYNC and PHASED sync is lost, which drops the open segment and window and settles the ring. The FIFO, the note, the
cycle number, the position and the stall timer stay. FREEZE (R50, R170 to R172): ignored in IDLE; missed in COLLECTING, WRITING
and HELD, and in ARMED where sync is not PHASED or the ring has no record of the current cycle; else a collection
starts with the FINAL records it finds. That a SYNC_RESET in HUNT resets what R72 resets is the model's reading: log
16. -/
def Obligations.ActingMarkers : Prop :=
  (∀ s : State, onTurn s → s.resetPin = false → s.loader.op = .running →
     windowOf s.path (4 * (markerAddr s).toNat) = .marker →
     let a := markerAccess s .syncReset 0
     let lost := { s.blocks.crank with
       sync := .hunt, tPrev := none, pPrev := none, glitch := 0, verify := 0, confirmed := 0, unphased := 0
       noCam := false, spanEdges := 0, spanError := false, camRun := 0 }
     (s.blocks.crank.sync = .stopped → exec .syncReset s = .next (forwarded a s)) ∧
     (s.blocks.crank.sync ≠ .stopped → ∃ t, exec .syncReset s = .next t ∧ throughPort a s t ∧
       t.blocks.crank = lost ∧ t.blocks.rate.header.sync = .hunt ∧ rowsKept s.blocks t.blocks ∧
       t.blocks.tap = { s.blocks.tap with flags := t.blocks.tap.flags } ∧
       (∀ f, f ≠ .queueDropped → flagIn t f = flagIn s f) ∧
       (s.blocks.crank.sync = .hunt ∨ s.blocks.crank.sync = .verify →
         t.blocks.seg = s.blocks.seg ∧ t.blocks.knock = s.blocks.knock ∧ t.blocks.evq = s.blocks.evq ∧
         t.blocks.frz = s.blocks.frz ∧ t.blocks.tap = s.blocks.tap) ∧
       (s.blocks.crank.sync = .crankSync ∨ s.blocks.crank.sync = .phased →
         t.blocks.seg = { s.blocks.seg with openSeg := none, ring := t.blocks.seg.ring } ∧
         ringSettled s.blocks.seg t.blocks.seg ∧
         t.blocks.knock = { s.blocks.knock with openWin := none } ∧ t.blocks.frz.state ≠ .collecting ∧
         (maskNames (fEventMask s.setup) .syncLost = true → slotIn s s.blocks.evq.producer = some .free →
           slotIn t s.blocks.evq.producer = some (.filling .syncLost)) ∧
         (maskNames (fEventMask s.setup) .syncLost = false → t.blocks.evq = s.blocks.evq)))) ∧
  ∀ s : State, onTurn s → s.resetPin = false → s.loader.op = .running →
    windowOf s.path (4 * (markerAddr s).toNat) = .marker →
    let a := markerAccess s .freeze 0
    let missed := { forwarded a s with blocks := { s.blocks with frz :=
      { s.blocks.frz with missed := min 255 (s.blocks.frz.missed + 1) } } }
    (s.blocks.frz.state = .idle → exec .freeze s = .next (forwarded a s)) ∧
    (s.blocks.frz.state = .collecting ∨ s.blocks.frz.state = .writing ∨ s.blocks.frz.state = .held →
      exec .freeze s = .next missed) ∧
    (s.blocks.frz.state = .armed → ¬ triggerUsable s.blocks → exec .freeze s = .next missed) ∧
    (s.blocks.frz.state = .armed → triggerUsable s.blocks → ∃ t, exec .freeze s = .next t ∧ throughPort a s t ∧
      t.blocks = { s.blocks with frz := t.blocks.frz, rate := t.blocks.rate, rpw := t.blocks.rpw } ∧
      rowsKept s.blocks t.blocks ∧ collectionBegun s.env .manual none s.blocks t.blocks)

/-- MARKER_FAULT (R48, R51): a byte or halfword write has fault SIZE, a word of unknown kind or bad value fault MARKER;
the write is forwarded and the marker context stays. -/
def Obligations.MarkerFaults : Prop :=
  ∀ (s : State) (l : Lanes) (d : Word), onTurn s → s.resetPin = false → s.loader.op = .running →
    let a := writeAccess (markerAddr s) l d
    windowOfAccess s a = .marker →
    (l ≠ .word ∨ markerKind d = none ∨
      ∃ k, markerKind d = some k ∧ markerInRange (fNcyl s.setup) k (bitField d 0 16) = false) →
    let fault : Flag := if l = .word then .marker else .size
    ∃ t, exec (.markerFault l d) s = .next t ∧ throughPort a s t ∧ flagIn t fault = true ∧
      (∀ f, f ≠ fault → f ≠ .queueDropped → flagIn t f = flagIn s f) ∧
      t.blocks.tap = { s.blocks.tap with flags := t.blocks.tap.flags } ∧ t.blocks.crank = s.blocks.crank ∧
      t.blocks.seg = s.blocks.seg ∧ t.blocks.knock = s.blocks.knock ∧ rowsKept s.blocks t.blocks ∧
      (flagIn s fault = true → t.blocks = s.blocks) ∧
      (flagIn s fault = false → maskNames (fEventMask s.setup) .streamFault = true →
        slotIn s s.blocks.evq.producer = some .free →
        slotIn t s.blocks.evq.producer = some (.filling .streamFault) ∧
        ∃ words, requested t (.event s.blocks.evq.producer words) ∧
          bitField (words.get 0) 16 16 = (if l = .word then 7 else 1) ∧
          words.get 3 = (if l = .word then d else BitVec.ofNat 32 (byteAddr a - s.path.table.markerBase)) ∧
          words.get 4 = (if l = .word then 0 else BitVec.ofNat 32 (sizeBytes l)))

/-- FLAG_CLEAR under protection (R11, R53): consumed; each flag whose place in the mask of the written lanes holds 1 is
cleared and each other kept, a cleared KNOCK_SKIP ends its sensor's suspension, and memory does not take the write. -/
def Obligations.FlagClearConsumed : Prop :=
  ∀ (s : State) (l : Lanes) (d : Word), onTurn s → s.resetPin = false → s.path.protection = true →
    let a := writeAccess (reportWordAddr s.path.table 4) l d
    windowOfAccess s a = .report 4 →
    let mask := d &&& laneMask l
    ∃ t, exec (.flagClear l d) s = .next t ∧ endedOnly a .consumed d s t ∧
      t.blocks.tap = { s.blocks.tap with flags := s.blocks.tap.flags &&& ~~~(mask.setWidth 10) } ∧
      (∀ x, t.blocks.knock.suspended.get x =
        (s.blocks.knock.suspended.get x && !(mask.getLsbD (flagPlace (skipFlag x)) && flagIn s (skipFlag x)))) ∧
      t.blocks.knock = { s.blocks.knock with suspended := t.blocks.knock.suspended } ∧
      t.blocks.crank = s.blocks.crank ∧ t.blocks.seg = s.blocks.seg ∧ t.blocks.evq = s.blocks.evq ∧
      t.blocks.frz = s.blocks.frz ∧ rowsKept s.blocks t.blocks ∧
      (s.blocks.tap.flags &&& mask.setWidth 10 = 0 → sameBlocks s.blocks t.blocks)

/-! ### Protected words, slots and the frame -/

/-- The dropped writes. LOAD_STATUS_WRITE (R5): dropped in every operating state, with no flag and no event.
PROTECTED_WRITE_DROP (R8, R10): under protection a write to a header word other than the flag-clear word, a row, a
slot's body, a spare word, or a word of the frame other than its ownership word is dropped, and PROTECT is set. That
the model keeps the last completion is its choice: log 17. -/
def Obligations.WritesDropped : Prop :=
  (∀ (s : State) (l : Lanes) (d : Word), onTurn s → s.resetPin = false →
     let a := setupAccess s 2 l d
     ∃ t, exec (.loadStatusWrite l d) s = .next t ∧ endedOnly a .dropped d s t ∧ sameBlocks s.blocks t.blocks ∧
       t.blocks.rpw.map Request.kind = s.blocks.rpw.map Request.kind ∧
       (firstInternal s = none → t = endedBy a .dropped d s)) ∧
  ∀ (s : State) (w : WordAddr) (l : Lanes) (d : Word), onTurn s → s.resetPin = false → s.path.protection = true →
    let a := writeAccess w l d
    ((∃ n, windowOfAccess s a = .report n ∧ n ≠ 4 ∧
        (n < 72 ∨ (n - 72) % 8 ≠ 0 ∨ 72 + 8 * s.path.table.queueCapacity ≤ n)) ∨
      ∃ n, windowOfAccess s a = .freeze n ∧ n ≠ 0) →
    ∃ t, exec (.protectedWriteDrop w l d) s = .next t ∧ endedOnly a .dropped d s t ∧
      flagIn t .protect = true ∧ (∀ f, f ≠ .protect → flagIn t f = flagIn s f) ∧
      t.blocks.tap = { s.blocks.tap with flags := t.blocks.tap.flags } ∧ t.blocks.crank = s.blocks.crank ∧
      t.blocks.seg = s.blocks.seg ∧ t.blocks.knock = s.blocks.knock ∧ t.blocks.evq = s.blocks.evq ∧
      t.blocks.frz = s.blocks.frz ∧ rowsKept s.blocks t.blocks ∧
      (flagIn s .protect = true → sameBlocks s.blocks t.blocks)

/-- SLOT_RELEASE under protection (R9, R160, R162): a word write of EMPTY to a READY slot is forwarded and the slot
becomes FREE with the alert decided again; to a FREE slot it is forwarded with no effect; to a FILLING slot, and with any
other value or size, it is dropped and PROTECT is set. -/
def Obligations.SlotReleased : Prop :=
  ∀ (s : State) (i : BitVec 6) (l : Lanes) (d : Word), onTurn s → s.resetPin = false → s.path.protection = true →
    i.toNat < s.path.table.queueCapacity →
    let a := writeAccess (reportWordAddr s.path.table (72 + 8 * i.toNat)) l d
    windowOfAccess s a = .report (72 + 8 * i.toNat) →
    (∀ k, l = .word → d = 0 → slotIn s i.toNat = some (.ready k) →
      exec (.slotRelease i l d) s = .next
        { forwarded a s with blocks := { s.blocks with evq := { s.blocks.evq with
            slots := s.blocks.evq.slots.set i.toNat .free
            alert := inCharge s.loader.op &&
              (s.blocks.evq.slots.set i.toNat .free).any (slotAlerts s.blocks.evq.alertMask) } } } ∧
      storesOnly a s (forwarded a s)) ∧
    (l = .word → d = 0 → slotIn s i.toNat = some .free → exec (.slotRelease i l d) s = .next (forwarded a s)) ∧
    ((l ≠ .word ∨ d ≠ 0 ∨ ∃ k, slotIn s i.toNat = some (.filling k)) →
      ∃ t, exec (.slotRelease i l d) s = .next t ∧ endedOnly a .dropped d s t ∧ flagIn t .protect = true ∧
        (∀ f, f ≠ .protect → flagIn t f = flagIn s f) ∧ t.blocks.evq = s.blocks.evq ∧
        t.blocks.frz = s.blocks.frz ∧ t.blocks.crank = s.blocks.crank ∧ t.blocks.seg = s.blocks.seg ∧
        t.blocks.knock = s.blocks.knock ∧ rowsKept s.blocks t.blocks)

/-- FRAME_RELEASE under protection (R10, R177): a word write of EMPTY to a HELD frame is forwarded, the frame is cleared,
and the freeze state after it follows the mode in force and the operating state; any other write is dropped with PROTECT
set. -/
def Obligations.FrameReleased : Prop :=
  ∀ (s : State) (l : Lanes) (d : Word), onTurn s → s.resetPin = false → s.path.protection = true →
    let a := writeAccess (freezeWordAddr s.path.table 0) l d
    windowOfAccess s a = .freeze 0 →
    (l = .word → d = 0 → s.blocks.frz.state = .held → s.blocks.rate.header.freeze = .held →
      let after : FreezeState :=
        if s.blocks.frz.mode = .rearm ∧ s.loader.op = .running then .armed else .idle
      ∃ t, exec (.frameRelease l d) s = .next t ∧ throughPort a s t ∧
        t.blocks = { s.blocks with
          frz := { s.blocks.frz with
            state := after, trigger := none, pre := 0, post := 0, truncated := false, buffer := [] }
          rate := t.blocks.rate, rpw := t.blocks.rpw } ∧
        headerStep s.path.table.valid (fun h => { h with freeze := after }) s.blocks t.blocks) ∧
    ((l ≠ .word ∨ d ≠ 0 ∨ s.blocks.frz.state ≠ .held) →
      ∃ t, exec (.frameRelease l d) s = .next t ∧ endedOnly a .dropped d s t ∧ flagIn t .protect = true ∧
        (∀ f, f ≠ .protect → flagIn t f = flagIn s f) ∧ t.blocks.evq = s.blocks.evq ∧
        t.blocks.frz = s.blocks.frz ∧ t.blocks.crank = s.blocks.crank ∧ t.blocks.seg = s.blocks.seg ∧
        t.blocks.knock = s.blocks.knock ∧ rowsKept s.blocks t.blocks)

/-- FREEZE_WRITE_DONE (R175, R176): with words left the next one is granted, where no request and no read of LOADER goes
first; after the last the frame is HELD, RATE is told, and FREEZE_READY is raised in RUNNING. -/
def Obligations.FreezeWordWritten : Prop :=
  ∀ (s : State) (a : Access) (w : FrameWord) (rest : List FrameWord), s.resetPin = false →
    s.path.port = some ⟨.freeze, a, true⟩ → s.path.access = none → s.path.bus = [] →
    s.blocks.frz.writeList = w :: rest →
    (∀ v tail, rest = v :: tail → s.blocks.rpw = [] → loaderClaims s.loader = false →
      let x := wordWrite (freezeWordAddr s.path.table v.index, v.value)
      ∃ t, exec .freezeWriteDone s = .next t ∧ t.resetPin = false ∧ t.pending = s.pending ∧ t.loader = s.loader ∧
        t.path = { s.path with port := some ⟨.freeze, x, true⟩, patience := 0 } ∧
        t.blocks = { s.blocks with frz := { s.blocks.frz with writeList := rest } } ∧ storesOnly x s t) ∧
    (rest = [] → s.loader.op = .running →
      ∃ t, exec .freezeWriteDone s = .next t ∧ outsideKept s t ∧ t.blocks.frz.state = .held ∧
        t.blocks.frz = { s.blocks.frz with state := .held, writeList := [], missed := t.blocks.frz.missed } ∧
        t.blocks.rate.header.freeze = .held ∧ rowsKept s.blocks t.blocks ∧ t.blocks.crank = s.blocks.crank ∧
        t.blocks.seg = s.blocks.seg ∧ t.blocks.knock = s.blocks.knock ∧
        (maskNames (fFreezeTriggerMask s.setup) .freezeReady = false →
          t.blocks.frz.missed = s.blocks.frz.missed) ∧
        (maskNames (fFreezeTriggerMask s.setup) .freezeReady = true →
          t.blocks.frz.missed = min 255 (s.blocks.frz.missed + 1)) ∧
        (maskNames (fEventMask s.setup) .freezeReady = true → slotIn s s.blocks.evq.producer = some .free →
          slotIn t s.blocks.evq.producer = some (.filling .freezeReady) ∧
          ∃ words, requested t (.event s.blocks.evq.producer words) ∧
            words.get 3 = s.blocks.frz.trigger.elim 0 Trigger.cycle ∧
            words.get 4 = BitVec.ofNat 32 (s.blocks.frz.pre + 1 + s.blocks.frz.post)) ∧
        (maskNames (fEventMask s.setup) .freezeReady = false → t.blocks.evq = s.blocks.evq ∧
          t.blocks.tap = s.blocks.tap)) ∧
    (rest = [] → s.loader.op = .stopping →
      ∃ t, exec .freezeWriteDone s = .next t ∧ t.resetPin = false ∧ t.pending = s.pending ∧
        t.blocks.frz = { s.blocks.frz with state := .held, writeList := [] } ∧ t.blocks.rate.header.freeze = .held ∧
        t.blocks.tap = s.blocks.tap ∧ t.blocks.crank = s.blocks.crank ∧ t.blocks.seg = s.blocks.seg ∧
        t.blocks.knock = s.blocks.knock ∧ rowsKept s.blocks t.blocks ∧ onlyPortWrites s t ∧
        (t.loader.op = .stopping ∨ t.loader.op = .stopped) ∧
        (s.path.table.valid = true → s.blocks.rate.header.freeze = .writing →
          t.loader.op = .stopping ∧ requested t .header))

/-! ### Crank decoding -/

/-- The class of a period below 2^23 (R59, R60), and what CRANK holds after TOOTH_RECORD_TAKE of a CRANK record,
state by state up to CRANK_SYNC, and in every state for a loss note, a wide period and a GLITCH (R58 to R64, R72). A
record leaves the head of the FIFO, and a tooth restarts the stall timer. SEG and KNOCK change at a loss from CRANK_SYNC
or PHASED alone, which settles the ring. That CRANK's values without a meaning in a
state keep what they hold is the model's reading: log 16. -/
def Obligations.TeethBeforePhasing : Prop :=
  (∀ (r : Reader) (p : Nat),
     (∀ q, classOfPeriod r 0 q = .glitch) ∧ (0 < p → classOfPeriod r p none = .normal) ∧
     ∀ q, 0 < p → 0 < q →
       (p * 16 / q < fGlitchMin r → classOfPeriod r p (some q) = .glitch) ∧
       (fGlitchMin r ≤ p * 16 / q → p * 16 / q < fGapMin r → classOfPeriod r p (some q) = .normal) ∧
       (fGlitchMin r ≤ p * 16 / q → fGapMin r ≤ p * 16 / q → p * 16 / q ≤ fGapMax r →
         classOfPeriod r p (some q) = .gap) ∧
       (fGlitchMin r ≤ p * 16 / q → fGapMin r ≤ p * 16 / q → fGapMax r < p * 16 / q →
         classOfPeriod r p (some q) = .erratic)) ∧
  ∀ (s : State) (r : ToothRecord) (rest : List ToothRecord), quietPorts s → s.resetPin = false →
    s.loader.op = .running → s.blocks.tap.fifo = r :: rest → r.kind = .crank →
    let t0 := r.stamp
    let c := { s.blocks.crank with stall := StallTimer.running 0 }
    let su := s.setup
    let last := fTeethN su - fMissingM su - 1
    let lost (tp : Option Stamp) : Crank :=
      { c with
        sync := .hunt, tPrev := tp, pPrev := none, glitch := 0, verify := 0, confirmed := 0, unphased := 0
        noCam := false, spanEdges := 0, spanError := false, camRun := 0 }
    let hunt : Crank := { c with sync := .hunt, tPrev := some t0, pPrev := none, glitch := 0 }
    ∃ t, exec .toothRecordTake s = .next t ∧ outsideKept s t ∧
      t.blocks.tap = { s.blocks.tap with fifo := rest, flags := t.blocks.tap.flags } ∧
      (c.sync ≠ .phased ∨ r.note ≠ .none → rowsKept s.blocks t.blocks ∧
        t.blocks.rate.header.cycle = s.blocks.rate.header.cycle) ∧
      (c.sync = .stopped ∨ c.sync = .hunt ∨ c.sync = .verify → t.blocks.seg = s.blocks.seg ∧
        t.blocks.knock = s.blocks.knock ∧ t.blocks.evq = s.blocks.evq ∧ t.blocks.frz = s.blocks.frz) ∧
      (c.sync = .crankSync → t.blocks.crank.sync = .crankSync →
        t.blocks.seg = s.blocks.seg ∧ t.blocks.knock = s.blocks.knock) ∧
      (c.sync = .crankSync ∨ c.sync = .phased → t.blocks.crank.sync = .hunt →
        t.blocks.seg = { s.blocks.seg with openSeg := none, ring := t.blocks.seg.ring } ∧
        ringSettled s.blocks.seg t.blocks.seg ∧ t.blocks.knock = { s.blocks.knock with openWin := none } ∧
        t.blocks.frz.state ≠ .collecting) ∧
      (c.sync = .stopped → t.blocks.crank = hunt) ∧
      (c.sync ≠ .stopped → r.note ≠ .none → t.blocks.crank = { lost none with tPrev := some t0 }) ∧
      (c.sync ≠ .stopped → r.note = .none → c.tPrev = none →
        t.blocks.crank = { c with tPrev := some t0, pPrev := none }) ∧
      (∀ u, c.sync ≠ .stopped → r.note = .none → c.tPrev = some u → 2 ^ 23 ≤ (t0 - u).toNat →
        (c.sync = .hunt → t.blocks.crank = { c with tPrev := some t0, pPrev := none }) ∧
        (c.sync = .verify → t.blocks.crank = hunt) ∧
        (c.sync = .crankSync ∨ c.sync = .phased → t.blocks.crank = lost (some t0))) ∧
      ∀ u, c.sync ≠ .stopped → r.note = .none → c.tPrev = some u → (t0 - u).toNat < 2 ^ 23 →
        let p := (t0 - u).toNat
        let k := classOfPeriod su p c.pPrev
        let normal : Crank := { c with tPrev := some t0, pPrev := some p }
        let gap : Crank := { c with tPrev := some t0, pPrev := some (max 1 (p / (fMissingM su + 1))), glitch := 0 }
        (k = .glitch → c.glitch + 1 ≤ fGlitchLimit su → t.blocks.crank = { c with glitch := c.glitch + 1 }) ∧
        (k = .glitch → fGlitchLimit su < c.glitch + 1 → t.blocks.crank = lost (some t0)) ∧
        (c.sync = .hunt →
          (k = .normal → t.blocks.crank = normal) ∧ (k = .erratic → t.blocks.crank = hunt) ∧
          (k = .gap → t.blocks.crank = { gap with sync := .verify, position := 0, verify := 0, confirmed := 0 })) ∧
        (c.sync = .verify →
          (k = .normal → c.verify < last →
            t.blocks.crank = { normal with verify := c.verify + 1, position := c.verify + 1 }) ∧
          (k = .normal → last ≤ c.verify → t.blocks.crank = hunt) ∧ (k = .erratic → t.blocks.crank = hunt) ∧
          (k = .gap → c.verify ≠ last → t.blocks.crank = hunt) ∧
          (k = .gap → c.verify = last → c.confirmed + 1 < fConfirmRevs su →
            t.blocks.crank = { gap with confirmed := c.confirmed + 1, verify := 0, position := 0 }) ∧
          (k = .gap → c.verify = last → fConfirmRevs su ≤ c.confirmed + 1 →
            t.blocks.crank = { gap with
              confirmed := c.confirmed + 1, verify := 0, position := 0, sync := .crankSync, unphased := 0
              noCam := false } ∧ t.blocks.rate.header.sync = .crankSync)) ∧
        (c.sync = .crankSync →
          (k = .normal → c.position < last → t.blocks.crank = { normal with position := c.position + 1 }) ∧
          (k = .normal → last ≤ c.position → t.blocks.crank = lost (some t0)) ∧
          (k = .erratic → t.blocks.crank = lost (some t0)) ∧
          (k = .gap → c.position ≠ last → t.blocks.crank = lost (some t0)) ∧
          (k = .gap → c.position = last → t.blocks.crank = { gap with
            position := 0, unphased := if c.unphased < 255 then c.unphased + 1 else c.unphased
            noCam := c.noCam || decide (fPhaseTimeoutRevs su ≤
              if c.unphased < 255 then c.unphased + 1 else c.unphased) }))

/-- TOOTH_RECORD_TAKE of a CRANK record in PHASED (R68 to R71, R73): an accepted tooth moves the engine position, the
cycle number rises at B_0 alone, and every block is left as the handing on of the new position (ToothHandsOn) leaves it,
with CAM_FAULT raised before it where the span ends without an edge; a tooth against the wheel loses sync, drops the open
segment and window and settles the ring. Values without a meaning in a state keep what they hold: log 16, the model's
reading. -/
def Obligations.PhasedTeeth : Prop :=
  ∀ (s : State) (r : ToothRecord) (rest : List ToothRecord) (u : Stamp), quietPorts s → s.resetPin = false →
    s.loader.op = .running → s.blocks.tap.fifo = r :: rest → r.kind = .crank → r.note = .none →
    s.blocks.crank.sync = .phased → s.blocks.crank.tPrev = some u → (r.stamp - u).toNat < 2 ^ 23 →
    let c := { s.blocks.crank with stall := StallTimer.running 0 }
    let su := s.setup
    let N := fTeethN su
    let m := fMissingM su
    let p := (r.stamp - u).toNat
    let k := classOfPeriod su p c.pPrev
    let due := c.position = N - m - 1 ∨ c.position = N + (N - m - 1)
    let gapTooth : Crank := { c with tPrev := some r.stamp, pPrev := some (max 1 (p / (m + 1))), glitch := 0 }
    let taken (c' : Crank) : Blocks := { s.blocks with tap := { s.blocks.tap with fifo := rest }, crank := c' }
    let handed (q : Nat) (b : Blocks) (t : State) : Prop := sameBlocks (handOn s.env q r.stamp b) t.blocks
    let noEdge : Event := ⟨.camFault, none, .camFault .missing, 0, BitVec.ofNat 32 c.camRun, r.stamp⟩
    let faulted := raise s.env noEdge (taken { gapTooth with position := 0 })
    let cycleAt (e : Nat) : BitVec 32 := if 0 < fNcyl su ∧ segmentBoundary su 0 = e then c.cycle + 1 else c.cycle
    ∃ t, exec .toothRecordTake s = .next t ∧ outsideKept s t ∧
      t.blocks.tap = { s.blocks.tap with fifo := rest, flags := t.blocks.tap.flags } ∧
      (k = .normal → ¬ due → t.blocks.crank =
        { c with
          tPrev := some r.stamp, pPrev := some p, position := c.position + 1, cycle := cycleAt (c.position + 1) } ∧
        handed (c.position + 1)
          (taken { c with tPrev := some r.stamp, pPrev := some p, position := c.position + 1 }) t) ∧
      (k = .gap → due → (c.position + m + 1) % (2 * N) ≠ 0 → t.blocks.crank =
        { gapTooth with
          position := (c.position + m + 1) % (2 * N), cycle := cycleAt ((c.position + m + 1) % (2 * N)) } ∧
        handed ((c.position + m + 1) % (2 * N))
          (taken { gapTooth with position := (c.position + m + 1) % (2 * N) }) t) ∧
      (k = .gap → due → (c.position + m + 1) % (2 * N) = 0 → c.spanEdges ≠ 0 → c.spanError = false →
        t.blocks.crank = { gapTooth with position := 0, camRun := 0, spanEdges := 0, cycle := cycleAt 0 } ∧
        handed 0 (taken { gapTooth with position := 0, camRun := 0, spanEdges := 0 }) t) ∧
      (k = .gap → due → (c.position + m + 1) % (2 * N) = 0 → c.spanEdges = 0 ∨ c.spanError = true →
        (c.camRun < 2 →
          let next : Crank := { gapTooth with
            position := 0, camRun := c.camRun + 1, spanEdges := 0, spanError := false }
          t.blocks.crank = { next with cycle := cycleAt 0 } ∧
          (c.spanError = true → handed 0 (taken next) t) ∧
          (c.spanError = false → handed 0 { faulted with crank := next } t)) ∧
        (2 ≤ c.camRun → t.blocks.crank =
          { gapTooth with
            position := 0, camRun := 0, spanEdges := 0, spanError := false, unphased := 0, noCam := false
            sync := .crankSync } ∧
          t.blocks.seg = { s.blocks.seg with openSeg := none, ring := t.blocks.seg.ring } ∧
          ringSettled s.blocks.seg t.blocks.seg ∧ t.blocks.knock = { s.blocks.knock with openWin := none } ∧
          rowsKept s.blocks t.blocks ∧
          t.blocks.rate.header.sync = .crankSync)) ∧
      (k = .glitch → c.glitch + 1 ≤ fGlitchLimit su → t.blocks.crank = { c with glitch := c.glitch + 1 } ∧
        t.blocks.seg = s.blocks.seg ∧ t.blocks.knock = s.blocks.knock ∧ rowsKept s.blocks t.blocks) ∧
      ((k = .normal ∧ due) ∨ (k = .gap ∧ ¬ due) ∨ k = .erratic ∨
          (k = .glitch ∧ fGlitchLimit su < c.glitch + 1) → t.blocks.crank =
        { c with
          sync := .hunt, tPrev := some r.stamp, pPrev := none, glitch := 0, verify := 0, confirmed := 0
          unphased := 0, noCam := false, spanEdges := 0, spanError := false, camRun := 0 } ∧
        t.blocks.seg = { s.blocks.seg with openSeg := none, ring := t.blocks.seg.ring } ∧
        ringSettled s.blocks.seg t.blocks.seg ∧
        t.blocks.knock = { s.blocks.knock with openWin := none } ∧ rowsKept s.blocks t.blocks ∧
        t.blocks.rate.header.sync = .hunt ∧ t.blocks.frz.state ≠ .collecting)

/-- What an accepted tooth in PHASED hands on, and in which order (R69), for every combination of a boundary, a close and
an open at its position: the end of a segment, the close of a window, the cycle start at B_0, the start of a segment, the
open of a window. At a cycle start the cycle number rises, then SEG is told, then RATE. -/
def Obligations.ToothHandsOn : Prop :=
  (∀ (e : Env) (p : Nat) (t : Stamp) (b : Blocks),
    let r := e.reader
    let matches_ (f : Reader → Nat → Nat) : Bool := (List.range (fNcyl r)).any (fun k => f r k == p)
    let first (f : Reader → Nat → Nat) (k : Nat) : Prop := k < fNcyl r ∧ f r k = p ∧ ∀ i, i < k → f r i ≠ p
    let ended := if matches_ segmentBoundary then segEnd e t b else b
    let closed := if matches_ windowClose then knockClose e t ended else ended
    let counted := if 0 < fNcyl r ∧ segmentBoundary r 0 = p then cycleStart e t closed else closed
    (matches_ segmentBoundary = false → matches_ windowOpen = false → handOn e p t b = counted) ∧
    (∀ j, matches_ segmentBoundary = false → first windowOpen j → handOn e p t b = knockOpen e j counted) ∧
    (∀ k, first segmentBoundary k → matches_ windowOpen = false → handOn e p t b = segStart e k t counted) ∧
    ∀ k j, first segmentBoundary k → first windowOpen j →
      handOn e p t b = knockOpen e j (segStart e k t counted)) ∧
  ∀ (e : Env) (t : Stamp) (b : Blocks),
    cycleStart e t b =
      rateCycleStart e t (segCycleStart { b with crank := { b.crank with cycle := b.crank.cycle + 1 } })

/-- What a cycle start does in SEG (R104): a record opens for the cycle number. What a segment start does (R83): a
segment opens, its cut flag read now, its start record the OPEN one. What a window open does (R111, R112): a window opens
with a part for each sensor that covers its firing position. -/
def Obligations.NoticesOpen : Prop :=
  (∀ b : Blocks,
    let i : Fin 24 := b.seg.last.elim 0 (fun j => j + 1)
    let b' := segCycleStart b
    b' = { b with seg := { b.seg with ring := b'.seg.ring, last := some i, resync := false } } ∧
    b'.seg.ring.get i = { state := .opened, cycle := b.crank.cycle, resync := b.seg.resync,
                          positions := Vector.replicate 8 ⟨0, .none, 0, 0, .none⟩ } ∧
    ∀ j, j ≠ i → b'.seg.ring.get j = b.seg.ring.get j) ∧
  (∀ (e : Env) (k : Nat) (t : Stamp) (b : Blocks),
    let isOpen (i : Fin 24) : Prop := (b.seg.ring.get i).state = .opened
    let b' := segStart e k t b
    ∃ record : Option (Fin 24),
      b' = { b with seg := { b.seg with
        openSeg := some (OpenSegment.mk k t (b.tap.cut.getLsbD (fFiringOrder e.reader k - 1)) record)
        starts := b'.seg.starts } } ∧
      (∀ j : Fin 8, b'.seg.starts.get j = if j.val = k then record else b.seg.starts.get j) ∧
      ((∀ i, ¬ isOpen i) → record = none) ∧
      ∀ i, isOpen i → (∀ j, j ≠ i → ¬ isOpen j) → record = some i) ∧
  ∀ (e : Env) (j : Nat) (b : Blocks),
    let r := e.reader
    let inside (first last : Nat) : Prop :=
      (first ≤ last ∧ first ≤ j ∧ j ≤ last) ∨ (last < first ∧ (first ≤ j ∨ j ≤ last))
    let onA := inside (fSensAFirst r) (fSensALast r)
    let onB := e.table.knockSize.b ≠ 0 ∧ inside (fSensBFirst r) (fSensBLast r)
    ∃ pa pb : Option SensorPart,
      knockOpen e j b = { b with knock := { b.knock with
        openWin := some (KnockWindow.mk j (fFiringOrder r j) (b.tap.cut.getLsbD (fFiringOrder r j - 1)) ⟨pa, pb⟩) } } ∧
      (onA → pa = some ⟨0, 0, b.knock.suspended.a⟩) ∧ (¬ onA → pa = none) ∧
      (onB → pb = some ⟨0, 0, b.knock.suspended.b⟩) ∧ (¬ onB → pb = none)

/-- TOOTH_RECORD_TAKE of a cam record (R58, R65, R66, R70): ignored unless it is a phasing edge in the window; in
CRANK_SYNC such an edge phases the crank; in PHASED it is counted in revolution 0 and a fault in revolution 1. A loss note
is a loss of sync first (R58, R72). That CRANK's items which R66 and R72 do not name stand is the model's reading: log 16. -/
def Obligations.CamEdges : Prop :=
  ∀ (s : State) (r : ToothRecord) (rest : List ToothRecord), quietPorts s → s.resetPin = false →
    s.loader.op = .running → s.blocks.tap.fifo = r :: rest → r.kind ≠ .crank →
    let c := s.blocks.crank
    let su := s.setup
    let p := c.position % fTeethN su
    let edge := r.kind = (if fCamEdge su = 0 then .camRise else .camFall) ∧ fCamLo su ≤ p ∧ p ≤ fCamHi su
    let n := if c.spanEdges < 255 then c.spanEdges + 1 else c.spanEdges
    (c.sync = .stopped ∨ (r.note = .none ∧ (¬ edge ∨ c.sync = .hunt ∨ c.sync = .verify)) →
      exec .toothRecordTake s = .next
        { s with blocks := { s.blocks with tap := { s.blocks.tap with fifo := rest } } }) ∧
    ∃ t, exec .toothRecordTake s = .next t ∧ outsideKept s t ∧ rowsKept s.blocks t.blocks ∧
      t.blocks.tap = { s.blocks.tap with fifo := rest, flags := t.blocks.tap.flags } ∧
      (c.sync ≠ .stopped → r.note ≠ .none → t.blocks.crank =
        { c with
          sync := .hunt, tPrev := none, pPrev := none, glitch := 0, verify := 0, confirmed := 0, unphased := 0
          noCam := false, spanEdges := 0, spanError := false, camRun := 0 } ∧
        (c.sync = .crankSync ∨ c.sync = .phased →
          t.blocks.seg = { s.blocks.seg with openSeg := none, ring := t.blocks.seg.ring } ∧
          ringSettled s.blocks.seg t.blocks.seg ∧ t.blocks.knock = { s.blocks.knock with openWin := none }) ∧
        (c.sync = .hunt ∨ c.sync = .verify → t.blocks.seg = s.blocks.seg ∧ t.blocks.knock = s.blocks.knock)) ∧
      (r.note = .none → t.blocks.knock = s.blocks.knock) ∧
      (r.note = .none → edge → c.sync = .crankSync →
        t.blocks.crank = { c with sync := .phased, spanEdges := 1, spanError := false, camRun := 0 } ∧
        t.blocks.seg = { s.blocks.seg with
          list := [], warmup := 0, holdoff := 0, starts := Vector.replicate 8 none, resync := true } ∧
        t.blocks.rate.header.sync = .phased ∧
        (maskNames (fEventMask su) .syncGained = true → slotIn s s.blocks.evq.producer = some .free →
          slotIn t s.blocks.evq.producer = some (.filling .syncGained))) ∧
      (r.note = .none → edge → c.sync = .phased → c.position < fTeethN su → t.blocks.seg = s.blocks.seg ∧
        t.blocks.crank = { c with spanEdges := n, spanError := c.spanError || decide (2 ≤ n) }) ∧
      (r.note = .none → edge → c.sync = .phased → fTeethN su ≤ c.position → t.blocks.seg = s.blocks.seg ∧
        t.blocks.crank = { c with spanError := true } ∧
        (maskNames (fEventMask su) .camFault = true → slotIn s s.blocks.evq.producer = some .free →
          slotIn t s.blocks.evq.producer = some (.filling .camFault)))

/-- STALL_EXPIRY (R76): CRANK stops and the timer halts, the cycle number kept; from CRANK_SYNC and PHASED the open segment
and window are dropped, the ring is settled (R100) and STALL is raised, from HUNT and VERIFY nothing is. That the position
stands is the model's reading, log 16; that any RUNNING timer expires, whatever its elapsed time, its choice, log 2. -/
def Obligations.StallExpires : Prop :=
  ∀ (s : State) (n : Nat), quietPorts s → s.resetPin = false → s.blocks.crank.stall = .running n →
    let synced := s.blocks.crank.sync = .crankSync ∨ s.blocks.crank.sync = .phased
    ∃ t, exec .stallExpiry s = .next t ∧ outsideKept s t ∧ rowsKept s.blocks t.blocks ∧
      t.blocks.crank = { s.blocks.crank with
        sync := .stopped, tPrev := none, pPrev := none, glitch := 0, verify := 0, confirmed := 0, unphased := 0
        noCam := false, spanEdges := 0, spanError := false, camRun := 0, stall := .halted } ∧
      t.blocks.rate.header.sync = .stopped ∧
      t.blocks.tap = { s.blocks.tap with flags := t.blocks.tap.flags } ∧
      (¬ synced → t.blocks.tap = s.blocks.tap ∧ t.blocks.seg = s.blocks.seg ∧ t.blocks.knock = s.blocks.knock ∧
        t.blocks.evq = s.blocks.evq ∧ t.blocks.frz = s.blocks.frz) ∧
      (synced → t.blocks.seg = { s.blocks.seg with openSeg := none, ring := t.blocks.seg.ring } ∧
        ringSettled s.blocks.seg t.blocks.seg ∧ t.blocks.knock = { s.blocks.knock with openWin := none } ∧ t.blocks.frz.state ≠ .collecting ∧
        (s.loader.op = .running → maskNames (fEventMask s.setup) .stall = true →
          slotIn s s.blocks.evq.producer = some .free →
          slotIn t s.blocks.evq.producer = some (.filling .stall) ∧
          ∃ words, requested t (.event s.blocks.evq.producer words) ∧
            words.get 3 = BitVec.ofNat 32 s.blocks.crank.position ∧
            words.get 4 = BitVec.ofNat 32 (fStallTimeout s.setup)))

/-! ### Segments, knock windows, ratings, events -/

/-- The end of an open segment (R84 to R90, R95, R97): its measures, its class by the precedence of R90, the counters, the
list, the cylinder's row and the header's rpm. -/
def Obligations.SegmentCompletes : Prop :=
  ∀ (e : Env) (t : Stamp) (b : Blocks) (o : OpenSegment), b.seg.openSeg = some o →
    let r := e.reader
    let ncyl := fNcyl r
    let T := if (t - o.start).toNat = 0 then 2 ^ 24 - 1 else (t - o.start).toNat
    let rpm := min 65535 (120000000000 / (ncyl * T * fTickNs r))
    let prev : Option SegEntry := b.seg.list.getLast?
    let back : Option SegEntry := if ncyl ≤ b.seg.list.length then b.seg.list[b.seg.list.length - ncyl]? else none
    let metric : Option Int := match prev, back with
      | some x, some y => some (max (-32768) (min 32767
          ((((T : Int) - x.time - ((T : Int) - y.time).tdiv ncyl) * 4096).tdiv T)))
      | _, _ => none
    let A : Option Nat := back.map (fun y => ((T : Int) - y.time).natAbs * 4096 / T)
    let band := ((List.range' 1 7).filter (fun i => fRpmEdge r i ≤ rpm)).length
    let level := b.tap.surface.toNat
    let thr := min 32767 (fThrMap r band b.tap.load.toNat * fSurfScale r level / 8)
    let wasCut (x : Option SegEntry) := ∃ y, x = some y ∧ y.segClass = .cut
    let shadowed := fShadowEnable r = 1 ∧ (wasCut prev ∨ wasCut back)
    let exceeds := ∃ a, A = some a ∧ fTransientLimit r < a
    let cls : SegClass := (segEnd e t b).seg.list.getLast?.elim .none SegEntry.segClass
    let cyl := fFiringOrder r o.position
    let row := rowOf b.rate cyl
    let row' := rowOf (segEnd e t b).rate cyl
    (o.cut = true → cls = .cut) ∧
    (o.cut = false → b.seg.warmup < ncyl → cls = .warmup) ∧
    (o.cut = false → ncyl ≤ b.seg.warmup → level = 3 → cls = .rough) ∧
    (o.cut = false → ncyl ≤ b.seg.warmup → level < 3 → shadowed → cls = .shadow) ∧
    (o.cut = false → ncyl ≤ b.seg.warmup → level < 3 → ¬ shadowed → (exceeds ∨ 0 < b.seg.holdoff) →
      cls = .transient) ∧
    (o.cut = false → ncyl ≤ b.seg.warmup → level < 3 → ¬ shadowed → ¬ exceeds → b.seg.holdoff = 0 →
      (∀ v, metric = some v → (thr : Int) ≤ v → cls = .misfire) ∧
        ((∀ v, metric = some v → v < (thr : Int)) → cls = .fired)) ∧
    (segEnd e t b).seg.openSeg = none ∧ (segEnd e t b).seg.rpm = rpm ∧
    (segEnd e t b).seg.warmup = min ncyl (b.seg.warmup + 1) ∧
    (exceeds → cls ∈ [SegClass.rough, .transient, .misfire, .fired] →
      (segEnd e t b).seg.holdoff = fHoldoffCycles r * ncyl) ∧
    (¬ exceeds ∨ cls ∈ [SegClass.cut, .warmup, .shadow] → (segEnd e t b).seg.holdoff = b.seg.holdoff - 1) ∧
    (segEnd e t b).seg.list =
      (if b.seg.list.length < 2 * ncyl then b.seg.list else b.seg.list.drop 1) ++ [⟨T, cls⟩] ∧
    (segEnd e t b).rate.header.rpm = rpm ∧
    row'.lastMetric = metric ∧ row'.lastSegClass = cls ∧ row'.seq = row.seq + 1 ∧
    row'.evaluated = row.evaluated + (if cls ∈ [SegClass.fired, .misfire] ∧ row.evaluated < 65535 then 1 else 0) ∧
    row'.misfires = row.misfires + (if cls = .misfire ∧ row.evaluated < 65535 then 1 else 0) ∧
    row'.totalMisfires = row.totalMisfires +
      (if cls = .misfire ∧ row.totalMisfires < 4294967295 then 1 else 0) ∧
    (segEnd e t b).knock = b.knock ∧ (segEnd e t b).crank = b.crank ∧
    (e.op = .running → cls = .misfire → maskNames (fEventMask r) .misfire = true →
      b.evq.slots[b.evq.producer]? = some .free →
      (segEnd e t b).evq.slots[b.evq.producer]? = some (.filling .misfire)) ∧
    (cls ≠ .misfire → (segEnd e t b).evq = b.evq)

/-- The history ring at the end of a segment (R105, R106): its start record takes T, the class and M, or 0 where M is
absent, at its firing position; firing position ncyl-1 closes the record, and the record CLOSED before it becomes FINAL,
of which FRZ is told before a MISFIRE event reaches it. The ring at a loss notice (R100, R106): every OPEN or CLOSED
record becomes FINAL, the older first, and FRZ is told of each. -/
def Obligations.RingFiledAndSettled : Prop :=
  (∀ (e : Env) (t : Stamp) (b : Blocks) (o : OpenSegment), b.seg.openSeg = some o →
    let b' := segEnd e t b
    let T := if (t - o.start).toNat = 0 then 2 ^ 24 - 1 else (t - o.start).toNat
    let cls : SegClass := b'.seg.list.getLast?.elim .none SegEntry.segClass
    let cyl := fFiringOrder e.reader o.position
    let metric := (rowOf b'.rate cyl).lastMetric
    let closes := o.position + 1 = fNcyl e.reader
    let isClosed (i : Fin 24) : Prop := (b.seg.ring.get i).state = .closed
    let event := cls = .misfire ∧ e.op = .running
    let misfire : Event := ⟨.misfire, some cyl, .none, 0, 0, 0⟩
    let toldThenOffered (b1 : Blocks) : Prop :=
      (¬ event → b'.frz = b1.frz) ∧ (event → b'.frz = (offerEvent e misfire { b1 with seg := b'.seg }).frz)
    (o.record = none → b'.seg.ring = b.seg.ring ∧ toldThenOffered b) ∧
    ∀ i, o.record = some i →
      let old := b.seg.ring.get i
      let new := b'.seg.ring.get i
      new.cycle = old.cycle ∧ new.resync = old.resync ∧
      (∀ k : Fin 8, k.val = o.position → new.positions.get k =
        { old.positions.get k with time := T, segClass := cls, metric := metric.getD 0 }) ∧
      (∀ k : Fin 8, k.val ≠ o.position → new.positions.get k = old.positions.get k) ∧
      (¬ closes → new.state = old.state ∧ (∀ j, j ≠ i → b'.seg.ring.get j = b.seg.ring.get j) ∧
        toldThenOffered b) ∧
      (closes → new.state = .closed ∧
        (∀ j, j ≠ i → isClosed j → b'.seg.ring.get j = { b.seg.ring.get j with state := .final }) ∧
        (∀ j, j ≠ i → ¬ isClosed j → b'.seg.ring.get j = b.seg.ring.get j) ∧
        ((∀ j, j ≠ i → ¬ isClosed j) → toldThenOffered b) ∧
        ∀ j, j ≠ i → isClosed j → (∀ l, l ≠ i → l ≠ j → ¬ isClosed l) →
          toldThenOffered (finalNotice e { b.seg.ring.get j with state := .final } b))) ∧
  ∀ (e : Env) (b : Blocks),
    let b' := segLoss e b
    let settles (i : Fin 24) : Prop := (b.seg.ring.get i).state = .opened ∨ (b.seg.ring.get i).state = .closed
    let told (i : Fin 24) (x : Blocks) : Blocks := finalNotice e { b.seg.ring.get i with state := .final } x
    let dropped := { b with seg := b'.seg }
    b'.seg = { b.seg with openSeg := none, ring := b'.seg.ring } ∧ ringSettled b.seg b'.seg ∧
    ((∀ i, ¬ settles i) → b' = dropped) ∧
    (∀ i, settles i → (∀ j, j ≠ i → ¬ settles j) → b' = told i dropped) ∧
    ∀ i j, i ≠ j → settles i → settles j → b.seg.last = some j → (∀ l, l ≠ i → l ≠ j → ¬ settles l) →
      b' = told j (told i dropped)

/-- The class, ratio and background of a sensor part (R118 to R122), and the final class of a window (R123). -/
def Obligations.KnockPartsAndVerdict : Prop :=
  (∀ (r : Reader) (cut : Bool) (bg : Option Nat) (p : SensorPart),
    let I := p.accumulator / p.count
    let res := classPart r cut bg p
    let judged := p.tainted = false ∧ cut = false ∧ fKnockMinSamples r ≤ p.count
    (p.tainted = true → res.knockClass = .invalid ∧ res.ratio = none ∧ res.background = bg) ∧
    (p.tainted = false → cut = true → res.knockClass = .cut ∧ res.ratio = none ∧ res.background = bg) ∧
    (p.tainted = false → cut = false → p.count < fKnockMinSamples r →
      res.knockClass = .short ∧ res.ratio = none ∧ res.background = bg) ∧
    (judged → res.intensity = I) ∧
    (judged → fImpactCeiling r ≤ I → res.knockClass = .impact ∧ res.ratio = none ∧ res.background = bg) ∧
    (judged → I < fImpactCeiling r → bg = none →
      res.knockClass = .learn ∧ res.ratio = none ∧ res.background = some (if I = 0 then 1 else I)) ∧
    ∀ v, judged → I < fImpactCeiling r → bg = some v →
      let R := min 65535 (I * 16 / v)
      let moved : Int := v + Int.fdiv ((I : Int) - v) (2 ^ fBgShift r : Nat)
      res.ratio = some R ∧
      (fHeavyThr r ≤ R → res.knockClass = .heavy ∧ res.background = bg) ∧
      (R < fHeavyThr r → fKnockThr r ≤ R → res.knockClass = .knock ∧ res.background = bg) ∧
      (R < fHeavyThr r → R < fKnockThr r → res.knockClass = .quiet ∧
        res.background = some (if moved < 1 then 1 else moved.toNat))) ∧
  ∀ a b : PartResult,
    combine none none = ⟨.notCovered, none, .a, 0⟩ ∧
    combine (some a) none = ⟨a.knockClass, a.ratio, .a, a.intensity⟩ ∧
    combine none (some b) = ⟨b.knockClass, b.ratio, .b, b.intensity⟩ ∧
    (a.knockClass = .impact → b.knockClass = .impact →
      combine (some a) (some b) = ⟨.impact, none, .both, max a.intensity b.intensity⟩) ∧
    (a.knockClass = .impact → b.knockClass ≠ .impact → a.ratio = none →
      combine (some a) (some b) = ⟨.impact, none, .a, a.intensity⟩) ∧
    (a.knockClass ≠ .impact → b.knockClass = .impact → b.ratio = none →
      combine (some a) (some b) = ⟨.impact, none, .b, b.intensity⟩) ∧
    (a.knockClass ≠ .impact → b.knockClass ≠ .impact →
      (∀ x y, a.ratio = some x → b.ratio = some y → x < y →
        combine (some a) (some b) = ⟨b.knockClass, some y, .b, b.intensity⟩) ∧
      (∀ x y, a.ratio = some x → b.ratio = some y → y ≤ x →
        combine (some a) (some b) = ⟨a.knockClass, some x, .a, a.intensity⟩) ∧
      (∀ x, a.ratio = some x → b.ratio = none →
        combine (some a) (some b) = ⟨a.knockClass, some x, .a, a.intensity⟩) ∧
      (∀ y, a.ratio = none → b.ratio = some y →
        combine (some a) (some b) = ⟨b.knockClass, some y, .b, b.intensity⟩) ∧
      (a.ratio = none → b.ratio = none →
        (a.knockClass, b.knockClass) ∈ [(KnockClass.invalid, KnockClass.cut), (.invalid, .short), (.invalid, .learn),
          (.cut, .short), (.cut, .learn), (.short, .learn)] →
        combine (some a) (some b) = ⟨b.knockClass, none, .b, b.intensity⟩) ∧
      (a.ratio = none → b.ratio = none →
        (b.knockClass, a.knockClass) ∈ [(KnockClass.invalid, KnockClass.invalid), (.invalid, .cut), (.invalid, .short),
          (.invalid, .learn), (.cut, .cut), (.cut, .short), (.cut, .learn), (.short, .short), (.short, .learn),
          (.learn, .learn)] →
        combine (some a) (some b) = ⟨a.knockClass, none, .a, a.intensity⟩))

/-- The close of an open knock window (R107, R117, R120, R122, R124 to R126, R138): the backgrounds, the record that takes
the result at its firing position, the cylinder's row, the window absent after it, and the event its class calls for. -/
def Obligations.KnockWindowCloses : Prop :=
  ∀ (e : Env) (t : Stamp) (b : Blocks) (w : KnockWindow), b.knock.openWin = some w →
    let r := e.reader
    let i : Fin 8 := Fin.ofNat 8 (w.cylinder - 1)
    let pa := w.parts.a.map (classPart r w.cut (b.knock.background.a.get i))
    let pb := w.parts.b.map (classPart r w.cut (b.knock.background.b.get i))
    let v := combine pa pb
    let b' := knockClose e t b
    let row := b.rate.rows.get i
    let row' := b'.rate.rows.get i
    b'.knock.openWin = none ∧ b'.knock.bias = b.knock.bias ∧ b'.knock.suspended = b.knock.suspended ∧
    b'.knock.background.a.get i = pa.elim (b.knock.background.a.get i) PartResult.background ∧
    b'.knock.background.b.get i = pb.elim (b.knock.background.b.get i) PartResult.background ∧
    (∀ j, j ≠ i → b'.knock.background.a.get j = b.knock.background.a.get j ∧
      b'.knock.background.b.get j = b.knock.background.b.get j ∧ b'.rate.rows.get j = b.rate.rows.get j) ∧
    row'.lastRatio = v.ratio ∧ row'.lastKnockClass = v.knockClass ∧ row'.seq = row.seq + 1 ∧
    row'.background = ⟨b'.knock.background.a.get i,
      if e.table.knockSize.b = 0 then none else b'.knock.background.b.get i⟩ ∧
    row'.knockEvaluated = row.knockEvaluated +
      (if v.knockClass ∈ [KnockClass.quiet, .knock, .heavy] ∧ row.knockEvaluated < 65535 then 1 else 0) ∧
    row'.knockCount = row.knockCount + (if v.knockClass = .knock ∧ row.knockEvaluated < 65535 then 1 else 0) ∧
    row'.heavyCount = row.heavyCount + (if v.knockClass = .heavy ∧ row.knockEvaluated < 65535 then 1 else 0) ∧
    row'.impactCount = row.impactCount + (if v.knockClass = .impact ∧ row.impactCount < 65535 then 1 else 0) ∧
    b'.crank = b.crank ∧ b'.seg = { b.seg with ring := b'.seg.ring } ∧
    (∀ k : Fin 8, k.val = w.position → b.seg.starts.get k = none → b'.seg = b.seg) ∧
    (∀ (k : Fin 8) (n : Fin 24), k.val = w.position → b.seg.starts.get k = some n →
      let old := b.seg.ring.get n
      let new := b'.seg.ring.get n
      new = { old with positions := new.positions } ∧
      new.positions.get k =
        { old.positions.get k with knockClass := v.knockClass, ratio := v.ratio.getD 0 } ∧
      (∀ l, l ≠ k → new.positions.get l = old.positions.get l) ∧
      ∀ m, m ≠ n → b'.seg.ring.get m = b.seg.ring.get m) ∧
    (e.op = .running → v.knockClass ∈ [KnockClass.knock, .heavy] → maskNames (fEventMask r) .knock = true →
      b.evq.slots[b.evq.producer]? = some .free → b'.evq.slots[b.evq.producer]? = some (.filling .knock)) ∧
    (e.op = .running → v.knockClass = .impact → maskNames (fEventMask r) .impact = true →
      b.evq.slots[b.evq.producer]? = some .free → b'.evq.slots[b.evq.producer]? = some (.filling .impact)) ∧
    (v.knockClass ∉ [KnockClass.knock, .heavy, .impact] → b'.evq = b.evq)

/-- The levels, the rates and the moves of the two states at the close of a rating window (R139 to R142). -/
def Obligations.RatingLevelsAndStates : Prop :=
  ∀ (r : Reader) (wcur : Nat) (row : Row),
    let after := closeRow r wcur row
    let rate := row.misfires * 1000 / row.evaluated
    let heavy := row.heavyCount * 1000 / row.knockEvaluated
    let knock := (row.knockCount + row.heavyCount) * 1000 / row.knockEvaluated
    let states := (after.misfireState, after.faultRun, after.cleanRun)
    let st := row.misfireState
    (row.evaluated < wcur / 2 → after.misfireLevel = .none ∧ after.misfireRate = none) ∧
    (wcur / 2 ≤ row.evaluated → after.misfireRate = some rate ∧ after.misfireLevel =
      if rate < fSuspectLimit r then .low else if rate < fFaultLimit r then .mid else .high) ∧
    (row.knockEvaluated < wcur / 2 →
      after.knockLevel = .none ∧ after.knockRate = none ∧ after.heavyRate = none) ∧
    (wcur / 2 ≤ row.knockEvaluated → after.knockRate = some knock ∧ after.heavyRate = some heavy ∧
      after.knockLevel = if fHeavyRate r ≤ heavy then .heavy else if fLightRate r ≤ knock then .light else .normal) ∧
    (after.misfireLevel = .none → states = (st, row.faultRun, row.cleanRun)) ∧
    (st = .clean → after.misfireLevel = .high → states = (.suspect, true, row.cleanRun)) ∧
    (st = .clean → after.misfireLevel = .mid → states = (.suspect, false, row.cleanRun)) ∧
    (st = .clean → after.misfireLevel = .low → states = (.clean, row.faultRun, row.cleanRun)) ∧
    (st = .suspect → after.misfireLevel = .high → row.faultRun = true → states = (.misfiring, false, false)) ∧
    (st = .suspect → after.misfireLevel = .high → row.faultRun = false → states = (.suspect, true, row.cleanRun)) ∧
    (st = .suspect → after.misfireLevel = .mid → states = (.suspect, false, row.cleanRun)) ∧
    (st = .suspect → after.misfireLevel = .low → states = (.clean, false, row.cleanRun)) ∧
    (st = .misfiring → after.misfireLevel = .high ∨ after.misfireLevel = .mid →
      states = (.misfiring, row.faultRun, false)) ∧
    (st = .misfiring → after.misfireLevel = .low → row.cleanRun = false →
      states = (.misfiring, row.faultRun, true)) ∧
    (st = .misfiring → after.misfireLevel = .low → row.cleanRun = true → states = (.clean, row.faultRun, false)) ∧
    (after.knockState = match after.knockLevel with
      | .none => row.knockState
      | .normal => .normal
      | .light => .light
      | .heavy => .heavy)

/-- The close of a rating window (R136, R143, R144): below W_cur a cycle start counts; at W_cur each cylinder's counts
become 0 and its totals, last values and backgrounds stay, the new window has one cycle and the `rate_window` in force.
The cylinders close one after the other, and each raises MISFIRE_STATE and then KNOCK_STATE where that state changed. -/
def Obligations.RatingWindowCloses : Prop :=
  (∀ (e : Env) (t : Stamp) (b : Blocks),
    let b' := rateCycleStart e t b
    let told := tellHeader e (fun h => { h with cycle := b.crank.cycle }) b
    let all := (List.range' 1 (fNcyl e.reader)).foldl (fun x c => closeCylinder e t c x) told
    b'.rate.header.cycle = b.crank.cycle ∧ b'.crank = b.crank ∧ b'.seg = b.seg ∧ b'.knock = b.knock ∧
    (b.rate.cycles < b.rate.wcur → b'.rate.cycles = b.rate.cycles + 1 ∧ b'.rate.wcur = b.rate.wcur ∧
      b'.rate.rows = b.rate.rows ∧ b'.evq = b.evq) ∧
    (b.rate.wcur ≤ b.rate.cycles → b'.rate.cycles = 1 ∧ b'.rate.wcur = fRateWindow e.reader ∧
      b' = { all with rate := { all.rate with wcur := fRateWindow e.reader, cycles := 1 } }) ∧
    (b.rate.wcur ≤ b.rate.cycles → fNcyl e.reader ≤ 8 → ∀ i : Fin 8,
      let row := b.rate.rows.get i
      let row' := b'.rate.rows.get i
      (fNcyl e.reader ≤ i.val → row' = row) ∧
      (i.val < fNcyl e.reader →
        row' = { closeRow e.reader b.rate.wcur row with seq := row.seq + 1 } ∧ row'.evaluated = 0 ∧
        row'.misfires = 0 ∧ row'.knockEvaluated = 0 ∧ row'.knockCount = 0 ∧ row'.heavyCount = 0 ∧
        row'.impactCount = 0 ∧ row'.totalMisfires = row.totalMisfires ∧ row'.lastMetric = row.lastMetric ∧
        row'.lastRatio = row.lastRatio ∧ row'.lastSegClass = row.lastSegClass ∧
        row'.lastKnockClass = row.lastKnockClass ∧ row'.background = row.background))) ∧
  ∀ (e : Env) (t : Stamp) (c : Nat) (b : Blocks),
    let r := e.reader
    let old := rowOf b.rate c
    let new := closeRow r b.rate.wcur old
    let misfire : Event := ⟨.misfireState, some c, .misfireState old.misfireState new.misfireState,
      BitVec.ofNat 32 (new.misfireRate.getD 0),
      BitVec.ofNat 32 (if new.misfireLevel = .high then fFaultLimit r else fSuspectLimit r), t⟩
    let knock : Event := ⟨.knockState, some c, .knockState old.knockState new.knockState,
      BitVec.ofNat 32 ((if new.knockState = .heavy then new.heavyRate else new.knockRate).getD 0),
      BitVec.ofNat 32 (if new.knockState = .heavy then fHeavyRate r else fLightRate r), t⟩
    let updated := updateRow e c (closeRow r b.rate.wcur) b
    let first := if new.misfireState = old.misfireState then updated else raise e misfire updated
    closeCylinder e t c b = (if new.knockState = old.knockState then first else raise e knock first) ∧
      updated.evq = b.evq

/-- An event (R152 to R157): outside RUNNING it is not raised; masked it leaves EVQ; at a FREE slot it is placed with the
sequence number and the dropped count, which then becomes 0; at an occupied slot it is dropped and counted. -/
def Obligations.EventPlacedOrDropped : Prop :=
  ∀ (e : Env) (ev : Event) (b : Blocks),
    let q := b.evq
    let b' := raise e ev b
    let passes := e.op = .running ∧ maskNames (fEventMask e.reader) ev.kind = true
    (e.op ≠ .running → b' = b) ∧
    (maskNames (fEventMask e.reader) ev.kind = false → b'.evq = q ∧ b'.tap = b.tap) ∧
    (passes → q.slots[q.producer]? = some .free →
      b'.evq = { q with
        slots := q.slots.set q.producer (.filling ev.kind), seq := q.seq + 1, dropped := 0
        producer := (q.producer + 1) % e.table.queueCapacity } ∧
      b'.tap = b.tap ∧ b'.rate.header.producer = (q.producer + 1) % e.table.queueCapacity ∧
      ∃ words : Vector Word 8, (∃ rq ∈ b'.rpw, rq.kind = .event q.producer words ∧ rq.granted = 0) ∧
        words.get 0 = place (eventIndex ev.kind) 0 8 ||| place (ev.cylinder.getD 0) 8 8 |||
          place (detailCode ev.detail) 16 16 ∧
        words.get 1 = b.crank.cycle ∧
        words.get 2 = place b.seg.rpm 0 16 ||| place b.tap.surface.toNat 16 2 ||| place b.tap.load.toNat 18 2 |||
          place (syncCode b.crank.sync) 20 3 ||| place b.tap.cut.toNat 24 8 ∧
        words.get 3 = ev.value ∧ words.get 4 = ev.limit ∧ words.get 5 = place ev.stamp.toNat 0 24 ∧
        words.get 6 = 0 ∧ words.get 7 = place 0xA5 0 8 ||| place q.dropped 8 8 ||| place q.seq.toNat 16 16) ∧
    (passes → q.slots[q.producer]? ≠ some .free →
      b'.evq = { q with dropped := min 255 (q.dropped + 1) } ∧ flagSet b'.tap .queueDropped = true ∧
      ∀ f, f ≠ .queueDropped → flagSet b'.tap f = flagSet b.tap f) ∧
    b'.crank = b.crank ∧ b'.seg = b.seg ∧ b'.knock = b.knock ∧ rowsKept b b'

/-- A raised event offered to FRZ (R152, R170 to R172): taken as a trigger where the trigger mask names its kind, whether
EVQ masked, placed or dropped it; ignored in IDLE, missed where no collection can start, else a collection starts with the
FINAL records it finds. The pre count is the number of consecutive cycles the ring holds before the trigger's, at most
`frz_pre`, and the frame's records stand in cycle order. -/
def Obligations.RaisedEventTriggers : Prop :=
  (∀ (e : Env) (ev : Event) (b : Blocks),
    let b' := raise e ev b
    let named := e.op = .running ∧ maskNames (fFreezeTriggerMask e.reader) ev.kind = true
    let held := b.frz.state = .collecting ∨ b.frz.state = .writing ∨ b.frz.state = .held
    (¬ named ∨ b.frz.state = .idle → b'.frz = b.frz) ∧
    (named → held ∨ (b.frz.state = .armed ∧ ¬ triggerUsable b) →
      b'.frz = { b.frz with missed := min 255 (b.frz.missed + 1) }) ∧
    (named → b.frz.state = .armed → triggerUsable b → collectionBegun e (.event ev.kind) ev.cylinder b b')) ∧
  ∀ (ring : Vector CycleRecord 24) (c : BitVec 32) (limit : Nat),
    let n := cyclesBefore ring c limit
    n ≤ limit ∧ (∀ d, 1 ≤ d → d ≤ n → ringHolds ring (c - BitVec.ofNat 32 d)) ∧
    (n < limit → ¬ ringHolds ring (c - BitVec.ofNat 32 (n + 1))) ∧
    finalRecords ring c limit =
      (List.range (limit + 1)).flatMap (fun d => (finalRecord ring (c - BitVec.ofNat 32 (limit - d))).toList) ∧
    (∀ r, finalRecord ring c = some r → (∃ i : Fin 24, ring.get i = r) ∧ r.state = .final ∧ r.cycle = c) ∧
    ∀ i : Fin 24, (ring.get i).state = .final → (ring.get i).cycle = c →
      (∀ j, j ≠ i → (ring.get j).state = .empty ∨ (ring.get j).cycle ≠ c) → finalRecord ring c = some (ring.get i)

/-- FRZ at a FINAL notice (R173): in COLLECTING a record of the frame's span joins the buffer, a cycle after the trigger
counts as a post cycle, and the span's last record begins write-out. FRZ at a loss notice (R174): a collection is
truncated and written out. At a loss CRANK tells SEG, KNOCK and FRZ in this order (R72). -/
def Obligations.CollectionEnds : Prop :=
  (∀ (e : Env) (r : CycleRecord) (b : Blocks),
    let b' := finalNotice e r b
    (b.frz.state ≠ .collecting → b' = b) ∧
    ∀ trig, b.frz.state = .collecting → b.frz.trigger = some trig →
      let place := (r.cycle - (trig.cycle - BitVec.ofNat 32 b.frz.pre)).toNat
      let last := b.frz.pre + e.table.frzPost
      let copied := { b.frz with
        buffer := b.frz.buffer ++ [r], post := if b.frz.pre < place then b.frz.post + 1 else b.frz.post }
      (last < place → b' = b) ∧ (place < last → b' = { b with frz := copied }) ∧
      (place = last → writeOutBegun e.table.valid copied b b')) ∧
  (∀ (e : Env) (b : Blocks),
    (b.frz.state ≠ .collecting → frzLoss e b = b) ∧
    (b.frz.state = .collecting →
      writeOutBegun e.table.valid { b.frz with truncated := true } b (frzLoss e b))) ∧
  ∀ (e : Env) (b : Blocks),
    let g := segLoss e b
    lossNotices e b = frzLoss e { g with knock := { g.knock with openWin := none } }

/-- The words of a frame in the order in which the freeze writer writes them (R175), and their content (R192, R194,
R195): header words 1 to 7, the 17 words of each cycle record of the buffer, and the frame ownership word last. -/
def Obligations.FrameWordsInOrder : Prop :=
  ∀ f : Frz,
    let words := frameWords f
    let count := 7 + 17 * f.buffer.length
    let at_ (i : Nat) (w : Word) : Prop := words[i - 1]? = some ⟨i, w⟩
    words.length = count + 1 ∧ words[count]? = some ⟨0, 0xA5⟩ ∧
    (f.trigger = none → at_ 1 (place (bit f.truncated) 16 1) ∧ at_ 2 0) ∧
    (∀ trig, f.trigger = some trig →
      at_ 1 (place (match trig.kind with | .event k => eventIndex k | .manual => 0xFF) 0 8 |||
        place (trig.cylinder.getD 0) 8 8 ||| place (bit f.truncated) 16 1) ∧ at_ 2 trig.cycle) ∧
    at_ 3 (place f.pre 0 8 ||| place f.post 8 8 ||| place f.missed 16 8) ∧
    at_ 4 0 ∧ at_ 5 0 ∧ at_ 6 0 ∧ at_ 7 0 ∧
    ∀ i r, f.buffer[i]? = some r →
      at_ (8 + 17 * i) r.cycle ∧
      ∀ k : Fin 8,
        let p := r.positions.get k
        at_ (9 + 17 * i + 2 * k.val) (place p.time 0 24 ||| place (segClassCode p.segClass) 24 3 |||
          place (knockClassCode p.knockClass) 27 4 ||| place (if r.resync = true ∧ k = 0 then 1 else 0) 31 1) ∧
        at_ (10 + 17 * i + 2 * k.val) (place (twos16 p.metric) 0 16 ||| place p.ratio 16 16)

/-! ### Invariants of the blocks -/

/-- Sensor x is suspended exactly while KNOCK_SKIP_x is set (R47, R116), the counts of every row agree (R138), and every
background that has been seeded is at least 1 (R122). -/
def Obligations.SuspensionCountsBackgrounds : Prop :=
  (∀ s t : State, suspensionFollows s → step s = .next t → suspensionFollows t) ∧
  (∀ s t : State, countsAgree s → step s = .next t → countsAgree t) ∧
  ∀ s t : State, backgroundsGood s → step s = .next t → backgroundsGood t

/-- The internal copy of the header shows what each field's owner holds (R133, R135). -/
def Obligations.HeaderShowsOwners : Prop :=
  ∀ s t : State, readsBelong s → headerShows s → step s = .next t → headerShows t

/-- The level of the ALERT pin (R163), and the alert state, which every step keeps as R162 gives it. -/
def Obligations.AlertFollowsSlots : Prop :=
  (∀ s : State,
     (s.resetPin = true → alertPin s = .high) ∧
     (s.resetPin = false →
       (s.blocks.evq.polarity = .low → alertPin s = if s.blocks.evq.alert then .low else .high) ∧
       (s.blocks.evq.polarity = .high → alertPin s = if s.blocks.evq.alert then .high else .low))) ∧
  ∀ s t : State, alertDecided s → step s = .next t → alertDecided t
end

