-- ==== Sys2Proof/Laws/State.lean ====
section
/-! SUPPORT. One lemma per field per named update: what a state or the blocks hold after it. -/

namespace Sys2Proof.Machine

/-! ### Updates of the blocks -/

@[simp] theorem request_tap (k : RequestKind) (b : Blocks) : (request k b).tap = b.tap := rfl
@[simp] theorem request_crank (k : RequestKind) (b : Blocks) : (request k b).crank = b.crank := rfl
@[simp] theorem request_seg (k : RequestKind) (b : Blocks) : (request k b).seg = b.seg := rfl
@[simp] theorem request_knock (k : RequestKind) (b : Blocks) : (request k b).knock = b.knock := rfl
@[simp] theorem request_rate (k : RequestKind) (b : Blocks) : (request k b).rate = b.rate := rfl
@[simp] theorem request_evq (k : RequestKind) (b : Blocks) : (request k b).evq = b.evq := rfl
@[simp] theorem request_frz (k : RequestKind) (b : Blocks) : (request k b).frz = b.frz := rfl
@[simp] theorem requestInitial_tap (k : RequestKind) (b : Blocks) : (requestInitial k b).tap = b.tap := rfl
@[simp] theorem requestInitial_crank (k : RequestKind) (b : Blocks) : (requestInitial k b).crank = b.crank := rfl
@[simp] theorem requestInitial_seg (k : RequestKind) (b : Blocks) : (requestInitial k b).seg = b.seg := rfl
@[simp] theorem requestInitial_knock (k : RequestKind) (b : Blocks) : (requestInitial k b).knock = b.knock := rfl
@[simp] theorem requestInitial_rate (k : RequestKind) (b : Blocks) : (requestInitial k b).rate = b.rate := rfl
@[simp] theorem requestInitial_evq (k : RequestKind) (b : Blocks) : (requestInitial k b).evq = b.evq := rfl
@[simp] theorem requestInitial_frz (k : RequestKind) (b : Blocks) : (requestInitial k b).frz = b.frz := rfl
@[simp] theorem decideAlert_tap (op : OpState) (b : Blocks) : (decideAlert op b).tap = b.tap := rfl
@[simp] theorem decideAlert_crank (op : OpState) (b : Blocks) : (decideAlert op b).crank = b.crank := rfl
@[simp] theorem decideAlert_seg (op : OpState) (b : Blocks) : (decideAlert op b).seg = b.seg := rfl
@[simp] theorem decideAlert_knock (op : OpState) (b : Blocks) : (decideAlert op b).knock = b.knock := rfl
@[simp] theorem decideAlert_rate (op : OpState) (b : Blocks) : (decideAlert op b).rate = b.rate := rfl
@[simp] theorem decideAlert_frz (op : OpState) (b : Blocks) : (decideAlert op b).frz = b.frz := rfl
@[simp] theorem decideAlert_rpw (op : OpState) (b : Blocks) : (decideAlert op b).rpw = b.rpw := rfl
@[simp] theorem missTrigger_tap (b : Blocks) : (missTrigger b).tap = b.tap := rfl
@[simp] theorem missTrigger_crank (b : Blocks) : (missTrigger b).crank = b.crank := rfl
@[simp] theorem missTrigger_seg (b : Blocks) : (missTrigger b).seg = b.seg := rfl
@[simp] theorem missTrigger_knock (b : Blocks) : (missTrigger b).knock = b.knock := rfl
@[simp] theorem missTrigger_rate (b : Blocks) : (missTrigger b).rate = b.rate := rfl
@[simp] theorem missTrigger_evq (b : Blocks) : (missTrigger b).evq = b.evq := rfl
@[simp] theorem missTrigger_rpw (b : Blocks) : (missTrigger b).rpw = b.rpw := rfl
@[simp] theorem setCrank_tap (c : Crank) (b : Blocks) : (setCrank c b).tap = b.tap := rfl
@[simp] theorem setCrank_seg (c : Crank) (b : Blocks) : (setCrank c b).seg = b.seg := rfl
@[simp] theorem setCrank_knock (c : Crank) (b : Blocks) : (setCrank c b).knock = b.knock := rfl
@[simp] theorem setCrank_rate (c : Crank) (b : Blocks) : (setCrank c b).rate = b.rate := rfl
@[simp] theorem setCrank_evq (c : Crank) (b : Blocks) : (setCrank c b).evq = b.evq := rfl
@[simp] theorem setCrank_frz (c : Crank) (b : Blocks) : (setCrank c b).frz = b.frz := rfl
@[simp] theorem setCrank_rpw (c : Crank) (b : Blocks) : (setCrank c b).rpw = b.rpw := rfl
@[simp] theorem setFifo_crank (l : List ToothRecord) (b : Blocks) : (setFifo l b).crank = b.crank := rfl
@[simp] theorem setFifo_seg (l : List ToothRecord) (b : Blocks) : (setFifo l b).seg = b.seg := rfl
@[simp] theorem setFifo_knock (l : List ToothRecord) (b : Blocks) : (setFifo l b).knock = b.knock := rfl
@[simp] theorem setFifo_rate (l : List ToothRecord) (b : Blocks) : (setFifo l b).rate = b.rate := rfl
@[simp] theorem setFifo_evq (l : List ToothRecord) (b : Blocks) : (setFifo l b).evq = b.evq := rfl
@[simp] theorem setFifo_frz (l : List ToothRecord) (b : Blocks) : (setFifo l b).frz = b.frz := rfl
@[simp] theorem setFifo_rpw (l : List ToothRecord) (b : Blocks) : (setFifo l b).rpw = b.rpw := rfl
@[simp] theorem dropSegment_tap (b : Blocks) : (dropSegment b).tap = b.tap := rfl
@[simp] theorem dropSegment_crank (b : Blocks) : (dropSegment b).crank = b.crank := rfl
@[simp] theorem dropSegment_knock (b : Blocks) : (dropSegment b).knock = b.knock := rfl
@[simp] theorem dropSegment_rate (b : Blocks) : (dropSegment b).rate = b.rate := rfl
@[simp] theorem dropSegment_evq (b : Blocks) : (dropSegment b).evq = b.evq := rfl
@[simp] theorem dropSegment_frz (b : Blocks) : (dropSegment b).frz = b.frz := rfl
@[simp] theorem dropSegment_rpw (b : Blocks) : (dropSegment b).rpw = b.rpw := rfl
@[simp] theorem dropWindow_tap (b : Blocks) : (dropWindow b).tap = b.tap := rfl
@[simp] theorem dropWindow_crank (b : Blocks) : (dropWindow b).crank = b.crank := rfl
@[simp] theorem dropWindow_seg (b : Blocks) : (dropWindow b).seg = b.seg := rfl
@[simp] theorem dropWindow_rate (b : Blocks) : (dropWindow b).rate = b.rate := rfl
@[simp] theorem dropWindow_evq (b : Blocks) : (dropWindow b).evq = b.evq := rfl
@[simp] theorem dropWindow_frz (b : Blocks) : (dropWindow b).frz = b.frz := rfl
@[simp] theorem dropWindow_rpw (b : Blocks) : (dropWindow b).rpw = b.rpw := rfl
@[simp] theorem restartStall_tap (b : Blocks) : (restartStall b).tap = b.tap := rfl
@[simp] theorem restartStall_seg (b : Blocks) : (restartStall b).seg = b.seg := rfl
@[simp] theorem restartStall_knock (b : Blocks) : (restartStall b).knock = b.knock := rfl
@[simp] theorem restartStall_rate (b : Blocks) : (restartStall b).rate = b.rate := rfl
@[simp] theorem restartStall_evq (b : Blocks) : (restartStall b).evq = b.evq := rfl
@[simp] theorem restartStall_frz (b : Blocks) : (restartStall b).frz = b.frz := rfl
@[simp] theorem restartStall_rpw (b : Blocks) : (restartStall b).rpw = b.rpw := rfl
@[simp] theorem noteFault_crank (f : LossNote) (b : Blocks) : (noteFault f b).crank = b.crank := rfl
@[simp] theorem noteFault_seg (f : LossNote) (b : Blocks) : (noteFault f b).seg = b.seg := rfl
@[simp] theorem noteFault_knock (f : LossNote) (b : Blocks) : (noteFault f b).knock = b.knock := rfl
@[simp] theorem noteFault_rate (f : LossNote) (b : Blocks) : (noteFault f b).rate = b.rate := rfl
@[simp] theorem noteFault_evq (f : LossNote) (b : Blocks) : (noteFault f b).evq = b.evq := rfl
@[simp] theorem noteFault_frz (f : LossNote) (b : Blocks) : (noteFault f b).frz = b.frz := rfl
@[simp] theorem noteFault_rpw (f : LossNote) (b : Blocks) : (noteFault f b).rpw = b.rpw := rfl
@[simp] theorem alignTooth_crank (e : Env) (n : Nat) (b : Blocks) : (alignTooth e n b).crank = b.crank := rfl
@[simp] theorem alignTooth_seg (e : Env) (n : Nat) (b : Blocks) : (alignTooth e n b).seg = b.seg := rfl
@[simp] theorem alignTooth_knock (e : Env) (n : Nat) (b : Blocks) : (alignTooth e n b).knock = b.knock := rfl
@[simp] theorem alignTooth_rate (e : Env) (n : Nat) (b : Blocks) : (alignTooth e n b).rate = b.rate := rfl
@[simp] theorem alignTooth_evq (e : Env) (n : Nat) (b : Blocks) : (alignTooth e n b).evq = b.evq := rfl
@[simp] theorem alignTooth_frz (e : Env) (n : Nat) (b : Blocks) : (alignTooth e n b).frz = b.frz := rfl
@[simp] theorem alignTooth_rpw (e : Env) (n : Nat) (b : Blocks) : (alignTooth e n b).rpw = b.rpw := rfl
@[simp] theorem alignKnock_crank (e : Env) (x : Sensor) (h w : Nat) (b : Blocks) :
   (alignKnock e x h w b).crank = b.crank := rfl
@[simp] theorem alignKnock_seg (e : Env) (x : Sensor) (h w : Nat) (b : Blocks) :
   (alignKnock e x h w b).seg = b.seg := rfl
@[simp] theorem alignKnock_knock (e : Env) (x : Sensor) (h w : Nat) (b : Blocks) :
   (alignKnock e x h w b).knock = b.knock := rfl
@[simp] theorem alignKnock_rate (e : Env) (x : Sensor) (h w : Nat) (b : Blocks) :
   (alignKnock e x h w b).rate = b.rate := rfl
@[simp] theorem alignKnock_evq (e : Env) (x : Sensor) (h w : Nat) (b : Blocks) :
   (alignKnock e x h w b).evq = b.evq := rfl
@[simp] theorem alignKnock_frz (e : Env) (x : Sensor) (h w : Nat) (b : Blocks) :
   (alignKnock e x h w b).frz = b.frz := rfl
@[simp] theorem alignKnock_rpw (e : Env) (x : Sensor) (h w : Nat) (b : Blocks) :
   (alignKnock e x h w b).rpw = b.rpw := rfl
@[simp] theorem joinFifo_crank (k : ToothKind) (t : Stamp) (b : Blocks) : (joinFifo k t b).crank = b.crank := rfl
@[simp] theorem joinFifo_seg (k : ToothKind) (t : Stamp) (b : Blocks) : (joinFifo k t b).seg = b.seg := rfl
@[simp] theorem joinFifo_knock (k : ToothKind) (t : Stamp) (b : Blocks) : (joinFifo k t b).knock = b.knock := rfl
@[simp] theorem joinFifo_rate (k : ToothKind) (t : Stamp) (b : Blocks) : (joinFifo k t b).rate = b.rate := rfl
@[simp] theorem joinFifo_evq (k : ToothKind) (t : Stamp) (b : Blocks) : (joinFifo k t b).evq = b.evq := rfl
@[simp] theorem joinFifo_frz (k : ToothKind) (t : Stamp) (b : Blocks) : (joinFifo k t b).frz = b.frz := rfl
@[simp] theorem joinFifo_rpw (k : ToothKind) (t : Stamp) (b : Blocks) : (joinFifo k t b).rpw = b.rpw := rfl
@[simp] theorem handSample_tap (e : Env) (x : Sensor) (v : Int) (b : Blocks) : (handSample e x v b).tap = b.tap := rfl
@[simp] theorem handSample_crank (e : Env) (x : Sensor) (v : Int) (b : Blocks) :
   (handSample e x v b).crank = b.crank := rfl
@[simp] theorem handSample_seg (e : Env) (x : Sensor) (v : Int) (b : Blocks) : (handSample e x v b).seg = b.seg := rfl
@[simp] theorem handSample_rate (e : Env) (x : Sensor) (v : Int) (b : Blocks) :
   (handSample e x v b).rate = b.rate := rfl
@[simp] theorem handSample_evq (e : Env) (x : Sensor) (v : Int) (b : Blocks) : (handSample e x v b).evq = b.evq := rfl
@[simp] theorem handSample_frz (e : Env) (x : Sensor) (v : Int) (b : Blocks) : (handSample e x v b).frz = b.frz := rfl
@[simp] theorem handSample_rpw (e : Env) (x : Sensor) (v : Int) (b : Blocks) : (handSample e x v b).rpw = b.rpw := rfl
@[simp] theorem tapStop_crank (b : Blocks) : (tapStop b).crank = b.crank := rfl
@[simp] theorem tapStop_seg (b : Blocks) : (tapStop b).seg = b.seg := rfl
@[simp] theorem tapStop_knock (b : Blocks) : (tapStop b).knock = b.knock := rfl
@[simp] theorem tapStop_rate (b : Blocks) : (tapStop b).rate = b.rate := rfl
@[simp] theorem tapStop_evq (b : Blocks) : (tapStop b).evq = b.evq := rfl
@[simp] theorem tapStop_frz (b : Blocks) : (tapStop b).frz = b.frz := rfl
@[simp] theorem tapStop_rpw (b : Blocks) : (tapStop b).rpw = b.rpw := rfl
@[simp] theorem segCycleStart_tap (b : Blocks) : (segCycleStart b).tap = b.tap := rfl
@[simp] theorem segCycleStart_crank (b : Blocks) : (segCycleStart b).crank = b.crank := rfl
@[simp] theorem segCycleStart_knock (b : Blocks) : (segCycleStart b).knock = b.knock := rfl
@[simp] theorem segCycleStart_rate (b : Blocks) : (segCycleStart b).rate = b.rate := rfl
@[simp] theorem segCycleStart_evq (b : Blocks) : (segCycleStart b).evq = b.evq := rfl
@[simp] theorem segCycleStart_frz (b : Blocks) : (segCycleStart b).frz = b.frz := rfl
@[simp] theorem segCycleStart_rpw (b : Blocks) : (segCycleStart b).rpw = b.rpw := rfl
@[simp] theorem segStart_tap (e : Env) (k : Nat) (t : Stamp) (b : Blocks) : (segStart e k t b).tap = b.tap := rfl
@[simp] theorem segStart_crank (e : Env) (k : Nat) (t : Stamp) (b : Blocks) :
   (segStart e k t b).crank = b.crank := rfl
@[simp] theorem segStart_knock (e : Env) (k : Nat) (t : Stamp) (b : Blocks) :
   (segStart e k t b).knock = b.knock := rfl
@[simp] theorem segStart_rate (e : Env) (k : Nat) (t : Stamp) (b : Blocks) : (segStart e k t b).rate = b.rate := rfl
@[simp] theorem segStart_evq (e : Env) (k : Nat) (t : Stamp) (b : Blocks) : (segStart e k t b).evq = b.evq := rfl
@[simp] theorem segStart_frz (e : Env) (k : Nat) (t : Stamp) (b : Blocks) : (segStart e k t b).frz = b.frz := rfl
@[simp] theorem segStart_rpw (e : Env) (k : Nat) (t : Stamp) (b : Blocks) : (segStart e k t b).rpw = b.rpw := rfl
@[simp] theorem knockOpen_tap (e : Env) (j : Nat) (b : Blocks) : (knockOpen e j b).tap = b.tap := rfl
@[simp] theorem knockOpen_crank (e : Env) (j : Nat) (b : Blocks) : (knockOpen e j b).crank = b.crank := rfl
@[simp] theorem knockOpen_seg (e : Env) (j : Nat) (b : Blocks) : (knockOpen e j b).seg = b.seg := rfl
@[simp] theorem knockOpen_rate (e : Env) (j : Nat) (b : Blocks) : (knockOpen e j b).rate = b.rate := rfl
@[simp] theorem knockOpen_evq (e : Env) (j : Nat) (b : Blocks) : (knockOpen e j b).evq = b.evq := rfl
@[simp] theorem knockOpen_frz (e : Env) (j : Nat) (b : Blocks) : (knockOpen e j b).frz = b.frz := rfl
@[simp] theorem knockOpen_rpw (e : Env) (j : Nat) (b : Blocks) : (knockOpen e j b).rpw = b.rpw := rfl
@[simp] theorem startBlocks_rpw (r : Reader) (b : Blocks) : (startBlocks r b).rpw = b.rpw := rfl
@[simp] theorem discardWrites_tap (b : Blocks) : (discardWrites b).tap = b.tap := rfl
@[simp] theorem discardWrites_crank (b : Blocks) : (discardWrites b).crank = b.crank := rfl
@[simp] theorem discardWrites_seg (b : Blocks) : (discardWrites b).seg = b.seg := rfl
@[simp] theorem discardWrites_knock (b : Blocks) : (discardWrites b).knock = b.knock := rfl
@[simp] theorem discardWrites_rate (b : Blocks) : (discardWrites b).rate = b.rate := rfl
@[simp] theorem discardWrites_evq (b : Blocks) : (discardWrites b).evq = b.evq := rfl
@[simp] theorem setCrank_crank (c : Crank) (b : Blocks) : (setCrank c b).crank = c := rfl
@[simp] theorem setFifo_fifo (l : List ToothRecord) (b : Blocks) : (setFifo l b).tap.fifo = l := rfl
@[simp] theorem setFifo_flags (l : List ToothRecord) (b : Blocks) : (setFifo l b).tap.flags = b.tap.flags := rfl
@[simp] theorem dropSegment_openSeg (b : Blocks) : (dropSegment b).seg.openSeg = none := rfl
@[simp] theorem dropSegment_list (b : Blocks) : (dropSegment b).seg.list = b.seg.list := rfl
@[simp] theorem dropSegment_warmup (b : Blocks) : (dropSegment b).seg.warmup = b.seg.warmup := rfl
@[simp] theorem dropSegment_holdoff (b : Blocks) : (dropSegment b).seg.holdoff = b.seg.holdoff := rfl
@[simp] theorem dropSegment_rpm (b : Blocks) : (dropSegment b).seg.rpm = b.seg.rpm := rfl
@[simp] theorem dropSegment_resync (b : Blocks) : (dropSegment b).seg.resync = b.seg.resync := rfl
@[simp] theorem dropSegment_starts (b : Blocks) : (dropSegment b).seg.starts = b.seg.starts := rfl
@[simp] theorem dropSegment_ring (b : Blocks) : (dropSegment b).seg.ring = b.seg.ring := rfl
@[simp] theorem dropSegment_last (b : Blocks) : (dropSegment b).seg.last = b.seg.last := rfl
@[simp] theorem dropWindow_openWin (b : Blocks) : (dropWindow b).knock.openWin = none := rfl
@[simp] theorem dropWindow_bias (b : Blocks) : (dropWindow b).knock.bias = b.knock.bias := rfl
@[simp] theorem dropWindow_suspended (b : Blocks) : (dropWindow b).knock.suspended = b.knock.suspended := rfl
@[simp] theorem dropWindow_background (b : Blocks) : (dropWindow b).knock.background = b.knock.background := rfl
@[simp] theorem decideAlert_slots (op : OpState) (b : Blocks) : (decideAlert op b).evq.slots = b.evq.slots := rfl
@[simp] theorem decideAlert_producer (op : OpState) (b : Blocks) :
   (decideAlert op b).evq.producer = b.evq.producer := rfl
@[simp] theorem decideAlert_seq (op : OpState) (b : Blocks) : (decideAlert op b).evq.seq = b.evq.seq := rfl
@[simp] theorem decideAlert_dropped (op : OpState) (b : Blocks) :
   (decideAlert op b).evq.dropped = b.evq.dropped := rfl
@[simp] theorem decideAlert_polarity (op : OpState) (b : Blocks) :
   (decideAlert op b).evq.polarity = b.evq.polarity := rfl
@[simp] theorem decideAlert_alertMask (op : OpState) (b : Blocks) :
   (decideAlert op b).evq.alertMask = b.evq.alertMask := rfl
@[simp] theorem decideAlert_alert (op : OpState) (b : Blocks) : (decideAlert op b).evq.alert = alertOf op b.evq := rfl
@[simp] theorem missTrigger_state (b : Blocks) : (missTrigger b).frz.state = b.frz.state := rfl
@[simp] theorem missTrigger_trigger (b : Blocks) : (missTrigger b).frz.trigger = b.frz.trigger := rfl
@[simp] theorem missTrigger_pre (b : Blocks) : (missTrigger b).frz.pre = b.frz.pre := rfl
@[simp] theorem missTrigger_post (b : Blocks) : (missTrigger b).frz.post = b.frz.post := rfl
@[simp] theorem missTrigger_truncated (b : Blocks) : (missTrigger b).frz.truncated = b.frz.truncated := rfl
@[simp] theorem missTrigger_buffer (b : Blocks) : (missTrigger b).frz.buffer = b.frz.buffer := rfl
@[simp] theorem missTrigger_writeList (b : Blocks) : (missTrigger b).frz.writeList = b.frz.writeList := rfl
@[simp] theorem missTrigger_mode (b : Blocks) : (missTrigger b).frz.mode = b.frz.mode := rfl
@[simp] theorem noteFault_tap_tooth (f : LossNote) (b : Blocks) : (noteFault f b).tap.tooth = b.tap.tooth := rfl
@[simp] theorem noteFault_tap_knock (f : LossNote) (b : Blocks) : (noteFault f b).tap.knock = b.tap.knock := rfl
@[simp] theorem noteFault_tap_fifo (f : LossNote) (b : Blocks) : (noteFault f b).tap.fifo = b.tap.fifo := rfl
@[simp] theorem noteFault_tap_cut (f : LossNote) (b : Blocks) : (noteFault f b).tap.cut = b.tap.cut := rfl
@[simp] theorem noteFault_tap_load (f : LossNote) (b : Blocks) : (noteFault f b).tap.load = b.tap.load := rfl
@[simp] theorem noteFault_tap_surface (f : LossNote) (b : Blocks) : (noteFault f b).tap.surface = b.tap.surface := rfl
@[simp] theorem noteFault_tap_flags (f : LossNote) (b : Blocks) : (noteFault f b).tap.flags = b.tap.flags := rfl
@[simp] theorem alignTooth_tap_knock (e : Env) (n : Nat) (b : Blocks) :
   (alignTooth e n b).tap.knock = b.tap.knock := rfl
@[simp] theorem alignTooth_tap_fifo (e : Env) (n : Nat) (b : Blocks) : (alignTooth e n b).tap.fifo = b.tap.fifo := rfl
@[simp] theorem alignTooth_tap_note (e : Env) (n : Nat) (b : Blocks) : (alignTooth e n b).tap.note = b.tap.note := rfl
@[simp] theorem alignTooth_tap_cut (e : Env) (n : Nat) (b : Blocks) : (alignTooth e n b).tap.cut = b.tap.cut := rfl
@[simp] theorem alignTooth_tap_load (e : Env) (n : Nat) (b : Blocks) : (alignTooth e n b).tap.load = b.tap.load := rfl
@[simp] theorem alignTooth_tap_surface (e : Env) (n : Nat) (b : Blocks) :
   (alignTooth e n b).tap.surface = b.tap.surface := rfl
@[simp] theorem alignTooth_tap_flags (e : Env) (n : Nat) (b : Blocks) :
   (alignTooth e n b).tap.flags = b.tap.flags := rfl
@[simp] theorem alignKnock_tap_tooth (e : Env) (x : Sensor) (h w : Nat) (b : Blocks) :
   (alignKnock e x h w b).tap.tooth = b.tap.tooth := rfl
@[simp] theorem alignKnock_tap_fifo (e : Env) (x : Sensor) (h w : Nat) (b : Blocks) :
   (alignKnock e x h w b).tap.fifo = b.tap.fifo := rfl
@[simp] theorem alignKnock_tap_note (e : Env) (x : Sensor) (h w : Nat) (b : Blocks) :
   (alignKnock e x h w b).tap.note = b.tap.note := rfl
@[simp] theorem alignKnock_tap_cut (e : Env) (x : Sensor) (h w : Nat) (b : Blocks) :
   (alignKnock e x h w b).tap.cut = b.tap.cut := rfl
@[simp] theorem alignKnock_tap_load (e : Env) (x : Sensor) (h w : Nat) (b : Blocks) :
   (alignKnock e x h w b).tap.load = b.tap.load := rfl
@[simp] theorem alignKnock_tap_surface (e : Env) (x : Sensor) (h w : Nat) (b : Blocks) :
   (alignKnock e x h w b).tap.surface = b.tap.surface := rfl
@[simp] theorem alignKnock_tap_flags (e : Env) (x : Sensor) (h w : Nat) (b : Blocks) :
   (alignKnock e x h w b).tap.flags = b.tap.flags := rfl
@[simp] theorem joinFifo_tap_tooth (k : ToothKind) (t : Stamp) (b : Blocks) :
   (joinFifo k t b).tap.tooth = b.tap.tooth := rfl
@[simp] theorem joinFifo_tap_knock (k : ToothKind) (t : Stamp) (b : Blocks) :
   (joinFifo k t b).tap.knock = b.tap.knock := rfl
@[simp] theorem joinFifo_tap_cut (k : ToothKind) (t : Stamp) (b : Blocks) :
   (joinFifo k t b).tap.cut = b.tap.cut := rfl
@[simp] theorem joinFifo_tap_load (k : ToothKind) (t : Stamp) (b : Blocks) :
   (joinFifo k t b).tap.load = b.tap.load := rfl
@[simp] theorem joinFifo_tap_surface (k : ToothKind) (t : Stamp) (b : Blocks) :
   (joinFifo k t b).tap.surface = b.tap.surface := rfl
@[simp] theorem joinFifo_tap_flags (k : ToothKind) (t : Stamp) (b : Blocks) :
   (joinFifo k t b).tap.flags = b.tap.flags := rfl
@[simp] theorem tapStop_tap_tooth (b : Blocks) : (tapStop b).tap.tooth = b.tap.tooth := rfl
@[simp] theorem tapStop_tap_knock (b : Blocks) : (tapStop b).tap.knock = b.tap.knock := rfl
@[simp] theorem tapStop_tap_cut (b : Blocks) : (tapStop b).tap.cut = b.tap.cut := rfl
@[simp] theorem tapStop_tap_load (b : Blocks) : (tapStop b).tap.load = b.tap.load := rfl
@[simp] theorem tapStop_tap_surface (b : Blocks) : (tapStop b).tap.surface = b.tap.surface := rfl
@[simp] theorem tapStop_tap_flags (b : Blocks) : (tapStop b).tap.flags = b.tap.flags := rfl
@[simp] theorem setFifo_tap_tooth (l : List ToothRecord) (b : Blocks) : (setFifo l b).tap.tooth = b.tap.tooth := rfl
@[simp] theorem setFifo_tap_knock (l : List ToothRecord) (b : Blocks) : (setFifo l b).tap.knock = b.tap.knock := rfl
@[simp] theorem setFifo_tap_note (l : List ToothRecord) (b : Blocks) : (setFifo l b).tap.note = b.tap.note := rfl
@[simp] theorem setFifo_tap_cut (l : List ToothRecord) (b : Blocks) : (setFifo l b).tap.cut = b.tap.cut := rfl
@[simp] theorem setFifo_tap_load (l : List ToothRecord) (b : Blocks) : (setFifo l b).tap.load = b.tap.load := rfl
@[simp] theorem setFifo_tap_surface (l : List ToothRecord) (b : Blocks) :
   (setFifo l b).tap.surface = b.tap.surface := rfl
@[simp] theorem segStart_list (e : Env) (k : Nat) (t : Stamp) (b : Blocks) :
   (segStart e k t b).seg.list = b.seg.list := rfl
@[simp] theorem segStart_warmup (e : Env) (k : Nat) (t : Stamp) (b : Blocks) :
   (segStart e k t b).seg.warmup = b.seg.warmup := rfl
@[simp] theorem segStart_holdoff (e : Env) (k : Nat) (t : Stamp) (b : Blocks) :
   (segStart e k t b).seg.holdoff = b.seg.holdoff := rfl
@[simp] theorem segStart_rpm (e : Env) (k : Nat) (t : Stamp) (b : Blocks) :
   (segStart e k t b).seg.rpm = b.seg.rpm := rfl
@[simp] theorem segStart_resync (e : Env) (k : Nat) (t : Stamp) (b : Blocks) :
   (segStart e k t b).seg.resync = b.seg.resync := rfl
@[simp] theorem segStart_ring (e : Env) (k : Nat) (t : Stamp) (b : Blocks) :
   (segStart e k t b).seg.ring = b.seg.ring := rfl
@[simp] theorem segStart_last (e : Env) (k : Nat) (t : Stamp) (b : Blocks) :
   (segStart e k t b).seg.last = b.seg.last := rfl
@[simp] theorem segCycleStart_list (b : Blocks) : (segCycleStart b).seg.list = b.seg.list := rfl
@[simp] theorem segCycleStart_warmup (b : Blocks) : (segCycleStart b).seg.warmup = b.seg.warmup := rfl
@[simp] theorem segCycleStart_holdoff (b : Blocks) : (segCycleStart b).seg.holdoff = b.seg.holdoff := rfl
@[simp] theorem segCycleStart_rpm (b : Blocks) : (segCycleStart b).seg.rpm = b.seg.rpm := rfl
@[simp] theorem segCycleStart_openSeg (b : Blocks) : (segCycleStart b).seg.openSeg = b.seg.openSeg := rfl
@[simp] theorem segCycleStart_starts (b : Blocks) : (segCycleStart b).seg.starts = b.seg.starts := rfl
@[simp] theorem segPhased_openSeg (g : Seg) : (segPhased g).openSeg = g.openSeg := rfl
@[simp] theorem segPhased_ring (g : Seg) : (segPhased g).ring = g.ring := rfl
@[simp] theorem segPhased_last (g : Seg) : (segPhased g).last = g.last := rfl
@[simp] theorem segPhased_rpm (g : Seg) : (segPhased g).rpm = g.rpm := rfl
@[simp] theorem setRecord_openSeg (i : Fin 24) (r : CycleRecord) (g : Seg) :
   (setRecord i r g).openSeg = g.openSeg := rfl
@[simp] theorem setRecord_list (i : Fin 24) (r : CycleRecord) (g : Seg) : (setRecord i r g).list = g.list := rfl
@[simp] theorem setRecord_warmup (i : Fin 24) (r : CycleRecord) (g : Seg) : (setRecord i r g).warmup = g.warmup := rfl
@[simp] theorem setRecord_holdoff (i : Fin 24) (r : CycleRecord) (g : Seg) :
   (setRecord i r g).holdoff = g.holdoff := rfl
@[simp] theorem setRecord_rpm (i : Fin 24) (r : CycleRecord) (g : Seg) : (setRecord i r g).rpm = g.rpm := rfl
@[simp] theorem setRecord_resync (i : Fin 24) (r : CycleRecord) (g : Seg) : (setRecord i r g).resync = g.resync := rfl
@[simp] theorem setRecord_starts (i : Fin 24) (r : CycleRecord) (g : Seg) : (setRecord i r g).starts = g.starts := rfl
@[simp] theorem setRecord_last (i : Fin 24) (r : CycleRecord) (g : Seg) : (setRecord i r g).last = g.last := rfl
@[simp] theorem fileInto_openSeg (i : Fin 24) (k : Nat) (f : PositionResult → PositionResult) (g : Seg) :
   (fileInto i k f g).openSeg = g.openSeg := rfl
@[simp] theorem fileInto_list (i : Fin 24) (k : Nat) (f : PositionResult → PositionResult) (g : Seg) :
   (fileInto i k f g).list = g.list := rfl
@[simp] theorem fileInto_warmup (i : Fin 24) (k : Nat) (f : PositionResult → PositionResult) (g : Seg) :
   (fileInto i k f g).warmup = g.warmup := rfl
@[simp] theorem fileInto_holdoff (i : Fin 24) (k : Nat) (f : PositionResult → PositionResult) (g : Seg) :
   (fileInto i k f g).holdoff = g.holdoff := rfl
@[simp] theorem fileInto_rpm (i : Fin 24) (k : Nat) (f : PositionResult → PositionResult) (g : Seg) :
   (fileInto i k f g).rpm = g.rpm := rfl
@[simp] theorem fileInto_resync (i : Fin 24) (k : Nat) (f : PositionResult → PositionResult) (g : Seg) :
   (fileInto i k f g).resync = g.resync := rfl
@[simp] theorem fileInto_starts (i : Fin 24) (k : Nat) (f : PositionResult → PositionResult) (g : Seg) :
   (fileInto i k f g).starts = g.starts := rfl
@[simp] theorem fileInto_last (i : Fin 24) (k : Nat) (f : PositionResult → PositionResult) (g : Seg) :
   (fileInto i k f g).last = g.last := rfl
@[simp] theorem knockOpen_bias (e : Env) (j : Nat) (b : Blocks) : (knockOpen e j b).knock.bias = b.knock.bias := rfl
@[simp] theorem knockOpen_suspended (e : Env) (j : Nat) (b : Blocks) :
   (knockOpen e j b).knock.suspended = b.knock.suspended := rfl
@[simp] theorem knockOpen_background (e : Env) (j : Nat) (b : Blocks) :
   (knockOpen e j b).knock.background = b.knock.background := rfl
@[simp] theorem suspend_bias (x : Sensor) (k : Knock) : (suspend x k).bias = k.bias := rfl
@[simp] theorem suspend_background (x : Sensor) (k : Knock) : (suspend x k).background = k.background := rfl
@[simp] theorem resume_bias (x : Sensor) (k : Knock) : (resume x k).bias = k.bias := rfl
@[simp] theorem resume_background (x : Sensor) (k : Knock) : (resume x k).background = k.background := rfl
@[simp] theorem crankLost_cycle (st : SyncState) (o : Option Stamp) (c : Crank) :
   (crankLost st o c).cycle = c.cycle := rfl
@[simp] theorem crankLost_stall (st : SyncState) (o : Option Stamp) (c : Crank) :
   (crankLost st o c).stall = c.stall := rfl
@[simp] theorem crankLost_position (st : SyncState) (o : Option Stamp) (c : Crank) :
   (crankLost st o c).position = c.position := rfl
@[simp] theorem crankLost_sync (st : SyncState) (o : Option Stamp) (c : Crank) : (crankLost st o c).sync = st := rfl
@[simp] theorem crankStalled_cycle (c : Crank) : (crankStalled c).cycle = c.cycle := rfl
@[simp] theorem crankStalled_sync (c : Crank) : (crankStalled c).sync = .stopped := rfl
@[simp] theorem crankStopped_cycle (c : Crank) : (crankStopped c).cycle = c.cycle := rfl
@[simp] theorem acceptNormal_cycle (t : Stamp) (p : Nat) (c : Crank) : (acceptNormal t p c).cycle = c.cycle := rfl
@[simp] theorem acceptGap_cycle (r : Reader) (t : Stamp) (p : Nat) (c : Crank) :
   (acceptGap r t p c).cycle = c.cycle := rfl
@[simp] theorem firstTooth_cycle (t : Stamp) (c : Crank) : (firstTooth t c).cycle = c.cycle := rfl
@[simp] theorem huntFrom_cycle (t : Stamp) (c : Crank) : (huntFrom t c).cycle = c.cycle := rfl
@[simp] theorem crankPhased_cycle (c : Crank) : (crankPhased c).cycle = c.cycle := rfl
@[simp] theorem crankUnphased_cycle (r : Reader) (c : Crank) : (crankUnphased r c).cycle = c.cycle := rfl
@[simp] theorem acceptNormal_sync (t : Stamp) (p : Nat) (c : Crank) : (acceptNormal t p c).sync = c.sync := rfl
@[simp] theorem acceptGap_sync (r : Reader) (t : Stamp) (p : Nat) (c : Crank) :
   (acceptGap r t p c).sync = c.sync := rfl
@[simp] theorem firstTooth_sync (t : Stamp) (c : Crank) : (firstTooth t c).sync = c.sync := rfl
@[simp] theorem huntFrom_sync (t : Stamp) (c : Crank) : (huntFrom t c).sync = .hunt := rfl
@[simp] theorem crankPhased_sync (c : Crank) : (crankPhased c).sync = .phased := rfl
@[simp] theorem crankUnphased_sync (r : Reader) (c : Crank) : (crankUnphased r c).sync = .crankSync := rfl

/-! ### Updates of the state -/

@[simp] theorem onBlocks_resetPin (f : Env → Blocks → Blocks) (s : State) :
   (onBlocks f s).resetPin = s.resetPin := rfl
@[simp] theorem onBlocks_path (f : Env → Blocks → Blocks) (s : State) : (onBlocks f s).path = s.path := rfl
@[simp] theorem onBlocks_loader (f : Env → Blocks → Blocks) (s : State) : (onBlocks f s).loader = s.loader := rfl
@[simp] theorem onBlocks_ram (f : Env → Blocks → Blocks) (s : State) : (onBlocks f s).ram = s.ram := rfl
@[simp] theorem onBlocks_pending (f : Env → Blocks → Blocks) (s : State) : (onBlocks f s).pending = s.pending := rfl
@[simp] theorem freePort_resetPin (s : State) : (freePort s).resetPin = s.resetPin := rfl
@[simp] theorem freePort_loader (s : State) : (freePort s).loader = s.loader := rfl
@[simp] theorem freePort_blocks (s : State) : (freePort s).blocks = s.blocks := rfl
@[simp] theorem freePort_ram (s : State) : (freePort s).ram = s.ram := rfl
@[simp] theorem freePort_pending (s : State) : (freePort s).pending = s.pending := rfl
@[simp] theorem hold_resetPin (a : Access) (s : State) : (hold a s).resetPin = s.resetPin := rfl
@[simp] theorem hold_loader (a : Access) (s : State) : (hold a s).loader = s.loader := rfl
@[simp] theorem hold_blocks (a : Access) (s : State) : (hold a s).blocks = s.blocks := rfl
@[simp] theorem hold_ram (a : Access) (s : State) : (hold a s).ram = s.ram := rfl
@[simp] theorem hold_pending (a : Access) (s : State) : (hold a s).pending = s.pending := rfl
@[simp] theorem endAccess_resetPin (a : Access) (h : Ending) (d : Word) (s : State) :
   (endAccess a h d s).resetPin = s.resetPin := rfl
@[simp] theorem endAccess_loader (a : Access) (h : Ending) (d : Word) (s : State) :
   (endAccess a h d s).loader = s.loader := rfl
@[simp] theorem endAccess_blocks (a : Access) (h : Ending) (d : Word) (s : State) :
   (endAccess a h d s).blocks = s.blocks := rfl
@[simp] theorem endAccess_ram (a : Access) (h : Ending) (d : Word) (s : State) :
   (endAccess a h d s).ram = s.ram := rfl
@[simp] theorem endAccess_pending (a : Access) (h : Ending) (d : Word) (s : State) :
   (endAccess a h d s).pending = s.pending := rfl
@[simp] theorem grant_resetPin (u : Claimant) (a : Access) (s : State) : (grant u a s).resetPin = s.resetPin := rfl
@[simp] theorem grant_loader (u : Claimant) (a : Access) (s : State) : (grant u a s).loader = s.loader := rfl
@[simp] theorem grant_blocks (u : Claimant) (a : Access) (s : State) : (grant u a s).blocks = s.blocks := rfl
@[simp] theorem grant_pending (u : Claimant) (a : Access) (s : State) : (grant u a s).pending = s.pending := rfl
@[simp] theorem grantSystem_resetPin (w : Bool) (a : Access) (s : State) :
   (grantSystem w a s).resetPin = s.resetPin := rfl
@[simp] theorem grantSystem_loader (w : Bool) (a : Access) (s : State) : (grantSystem w a s).loader = s.loader := rfl
@[simp] theorem grantSystem_blocks (w : Bool) (a : Access) (s : State) : (grantSystem w a s).blocks = s.blocks := rfl
@[simp] theorem grantSystem_pending (w : Bool) (a : Access) (s : State) :
   (grantSystem w a s).pending = s.pending := rfl
@[simp] theorem grantLoader_resetPin (s : State) : (grantLoader s).resetPin = s.resetPin := rfl
@[simp] theorem grantLoader_loader (s : State) : (grantLoader s).loader = s.loader := rfl
@[simp] theorem grantLoader_blocks (s : State) : (grantLoader s).blocks = s.blocks := rfl
@[simp] theorem grantLoader_pending (s : State) : (grantLoader s).pending = s.pending := rfl
@[simp] theorem forwarded_resetPin (a : Access) (s : State) : (forwarded a s).resetPin = s.resetPin := rfl
@[simp] theorem forwarded_loader (a : Access) (s : State) : (forwarded a s).loader = s.loader := rfl
@[simp] theorem forwarded_blocks (a : Access) (s : State) : (forwarded a s).blocks = s.blocks := rfl
@[simp] theorem forwarded_pending (a : Access) (s : State) : (forwarded a s).pending = s.pending := rfl
@[simp] theorem endedBy_resetPin (a : Access) (h : Ending) (d : Word) (s : State) :
   (endedBy a h d s).resetPin = s.resetPin := rfl
@[simp] theorem endedBy_loader (a : Access) (h : Ending) (d : Word) (s : State) :
   (endedBy a h d s).loader = s.loader := rfl
@[simp] theorem endedBy_blocks (a : Access) (h : Ending) (d : Word) (s : State) :
   (endedBy a h d s).blocks = s.blocks := rfl
@[simp] theorem endedBy_ram (a : Access) (h : Ending) (d : Word) (s : State) : (endedBy a h d s).ram = s.ram := rfl
@[simp] theorem endedBy_pending (a : Access) (h : Ending) (d : Word) (s : State) :
   (endedBy a h d s).pending = s.pending := rfl
@[simp] theorem beginLoad_resetPin (s : State) : (beginLoad s).resetPin = s.resetPin := rfl
@[simp] theorem beginLoad_blocks (s : State) : (beginLoad s).blocks = s.blocks := rfl
@[simp] theorem beginLoad_ram (s : State) : (beginLoad s).ram = s.ram := rfl
@[simp] theorem beginLoad_pending (s : State) : (beginLoad s).pending = s.pending := rfl
@[simp] theorem assertReset_ram (s : State) : (assertReset s).ram = s.ram := rfl
@[simp] theorem assertReset_pending (s : State) : (assertReset s).pending = s.pending := rfl
@[simp] theorem releaseReset_ram (sel : BitVec 4) (auto : Bool) (s : State) :
   (releaseReset sel auto s).ram = s.ram := rfl
@[simp] theorem releaseReset_pending (sel : BitVec 4) (auto : Bool) (s : State) :
   (releaseReset sel auto s).pending = s.pending := rfl
@[simp] theorem answer_resetPin (a : Access) (d : Word) (s : State) : (answer a d s).resetPin = s.resetPin := rfl
@[simp] theorem answer_loader (a : Access) (d : Word) (s : State) : (answer a d s).loader = s.loader := rfl
@[simp] theorem answer_blocks (a : Access) (d : Word) (s : State) : (answer a d s).blocks = s.blocks := rfl
@[simp] theorem answer_ram (a : Access) (d : Word) (s : State) : (answer a d s).ram = s.ram := rfl
@[simp] theorem answer_pending (a : Access) (d : Word) (s : State) : (answer a d s).pending = s.pending := rfl
@[simp] theorem answerWord0_resetPin (a : Access) (g : RecordTag) (s : State) :
   (answerWord0 a g s).resetPin = s.resetPin := rfl
@[simp] theorem answerWord0_loader (a : Access) (g : RecordTag) (s : State) :
   (answerWord0 a g s).loader = s.loader := rfl
@[simp] theorem answerWord0_blocks (a : Access) (g : RecordTag) (s : State) :
   (answerWord0 a g s).blocks = s.blocks := rfl
@[simp] theorem answerWord0_ram (a : Access) (g : RecordTag) (s : State) : (answerWord0 a g s).ram = s.ram := rfl
@[simp] theorem answerWord0_pending (a : Access) (g : RecordTag) (s : State) :
   (answerWord0 a g s).pending = s.pending := rfl
@[simp] theorem refuseCommand_resetPin (k : ResultCode) (s : State) : (refuseCommand k s).resetPin = s.resetPin := rfl
@[simp] theorem refuseCommand_path (k : ResultCode) (s : State) : (refuseCommand k s).path = s.path := rfl
@[simp] theorem refuseCommand_ram (k : ResultCode) (s : State) : (refuseCommand k s).ram = s.ram := rfl
@[simp] theorem refuseCommand_pending (k : ResultCode) (s : State) : (refuseCommand k s).pending = s.pending := rfl
@[simp] theorem takeStart_resetPin (s : State) : (takeStart s).resetPin = s.resetPin := rfl
@[simp] theorem takeStart_ram (s : State) : (takeStart s).ram = s.ram := rfl
@[simp] theorem takeStart_pending (s : State) : (takeStart s).pending = s.pending := rfl
@[simp] theorem autoStart_resetPin (s : State) : (autoStart s).resetPin = s.resetPin := rfl
@[simp] theorem autoStart_ram (s : State) : (autoStart s).ram = s.ram := rfl
@[simp] theorem autoStart_pending (s : State) : (autoStart s).pending = s.pending := rfl
@[simp] theorem takeStop_resetPin (s : State) : (takeStop s).resetPin = s.resetPin := rfl
@[simp] theorem takeStop_path (s : State) : (takeStop s).path = s.path := rfl
@[simp] theorem takeStop_ram (s : State) : (takeStop s).ram = s.ram := rfl
@[simp] theorem takeStop_pending (s : State) : (takeStop s).pending = s.pending := rfl
@[simp] theorem loadFailed_resetPin (k : ResultCode) (n : Nat) (s : State) :
   (loadFailed k n s).resetPin = s.resetPin := rfl
@[simp] theorem loadFailed_path (k : ResultCode) (n : Nat) (s : State) : (loadFailed k n s).path = s.path := rfl
@[simp] theorem loadFailed_ram (k : ResultCode) (n : Nat) (s : State) : (loadFailed k n s).ram = s.ram := rfl
@[simp] theorem loadFailed_pending (k : ResultCode) (n : Nat) (s : State) :
   (loadFailed k n s).pending = s.pending := rfl
@[simp] theorem loadSucceeded_resetPin (s : State) : (loadSucceeded s).resetPin = s.resetPin := rfl
@[simp] theorem loadSucceeded_ram (s : State) : (loadSucceeded s).ram = s.ram := rfl
@[simp] theorem loadSucceeded_pending (s : State) : (loadSucceeded s).pending = s.pending := rfl
@[simp] theorem enterRunning_resetPin (s : State) : (enterRunning s).resetPin = s.resetPin := rfl
@[simp] theorem enterRunning_ram (s : State) : (enterRunning s).ram = s.ram := rfl
@[simp] theorem enterRunning_pending (s : State) : (enterRunning s).pending = s.pending := rfl
@[simp] theorem onBlocks_blocks (f : Env → Blocks → Blocks) (s : State) :
   (onBlocks f s).blocks = f s.env s.blocks := rfl
@[simp] theorem onBlocks_env (f : Env → Blocks → Blocks) (s : State) : (onBlocks f s).env = s.env := rfl
@[simp] theorem freePort_path_setupSel (s : State) : (freePort s).path.setupSel = s.path.setupSel := rfl
@[simp] theorem freePort_path_autostart (s : State) : (freePort s).path.autostart = s.path.autostart := rfl
@[simp] theorem freePort_path_table (s : State) : (freePort s).path.table = s.path.table := rfl
@[simp] theorem freePort_path_protection (s : State) : (freePort s).path.protection = s.path.protection := rfl
@[simp] theorem freePort_path_snapshot (s : State) : (freePort s).path.snapshot = s.path.snapshot := rfl
@[simp] theorem freePort_path_patience (s : State) : (freePort s).path.patience = s.path.patience := rfl
@[simp] theorem freePort_path_access (s : State) : (freePort s).path.access = s.path.access := rfl
@[simp] theorem freePort_path_bus (s : State) : (freePort s).path.bus = s.path.bus := rfl
@[simp] theorem freePort_path_done (s : State) : (freePort s).path.done = s.path.done := rfl
@[simp] theorem hold_path_setupSel (a : Access) (s : State) : (hold a s).path.setupSel = s.path.setupSel := rfl
@[simp] theorem hold_path_autostart (a : Access) (s : State) : (hold a s).path.autostart = s.path.autostart := rfl
@[simp] theorem hold_path_table (a : Access) (s : State) : (hold a s).path.table = s.path.table := rfl
@[simp] theorem hold_path_protection (a : Access) (s : State) : (hold a s).path.protection = s.path.protection := rfl
@[simp] theorem hold_path_snapshot (a : Access) (s : State) : (hold a s).path.snapshot = s.path.snapshot := rfl
@[simp] theorem hold_path_patience (a : Access) (s : State) : (hold a s).path.patience = s.path.patience := rfl
@[simp] theorem hold_path_port (a : Access) (s : State) : (hold a s).path.port = s.path.port := rfl
@[simp] theorem hold_path_bus (a : Access) (s : State) : (hold a s).path.bus = s.path.bus := rfl
@[simp] theorem hold_path_done (a : Access) (s : State) : (hold a s).path.done = s.path.done := rfl
@[simp] theorem endAccess_path_setupSel (a : Access) (h : Ending) (d : Word) (s : State) :
   (endAccess a h d s).path.setupSel = s.path.setupSel := rfl
@[simp] theorem endAccess_path_autostart (a : Access) (h : Ending) (d : Word) (s : State) :
   (endAccess a h d s).path.autostart = s.path.autostart := rfl
@[simp] theorem endAccess_path_table (a : Access) (h : Ending) (d : Word) (s : State) :
   (endAccess a h d s).path.table = s.path.table := rfl
@[simp] theorem endAccess_path_protection (a : Access) (h : Ending) (d : Word) (s : State) :
   (endAccess a h d s).path.protection = s.path.protection := rfl
@[simp] theorem endAccess_path_snapshot (a : Access) (h : Ending) (d : Word) (s : State) :
   (endAccess a h d s).path.snapshot = s.path.snapshot := rfl
@[simp] theorem endAccess_path_patience (a : Access) (h : Ending) (d : Word) (s : State) :
   (endAccess a h d s).path.patience = s.path.patience := rfl
@[simp] theorem endAccess_path_port (a : Access) (h : Ending) (d : Word) (s : State) :
   (endAccess a h d s).path.port = s.path.port := rfl
@[simp] theorem endAccess_path_bus (a : Access) (h : Ending) (d : Word) (s : State) :
   (endAccess a h d s).path.bus = s.path.bus := rfl
@[simp] theorem grant_path_setupSel (u : Claimant) (a : Access) (s : State) :
   (grant u a s).path.setupSel = s.path.setupSel := rfl
@[simp] theorem grant_path_autostart (u : Claimant) (a : Access) (s : State) :
   (grant u a s).path.autostart = s.path.autostart := rfl
@[simp] theorem grant_path_table (u : Claimant) (a : Access) (s : State) :
   (grant u a s).path.table = s.path.table := rfl
@[simp] theorem grant_path_protection (u : Claimant) (a : Access) (s : State) :
   (grant u a s).path.protection = s.path.protection := rfl
@[simp] theorem grant_path_snapshot (u : Claimant) (a : Access) (s : State) :
   (grant u a s).path.snapshot = s.path.snapshot := rfl
@[simp] theorem grant_path_patience (u : Claimant) (a : Access) (s : State) :
   (grant u a s).path.patience = s.path.patience := rfl
@[simp] theorem grant_path_access (u : Claimant) (a : Access) (s : State) :
   (grant u a s).path.access = s.path.access := rfl
@[simp] theorem grant_path_bus (u : Claimant) (a : Access) (s : State) : (grant u a s).path.bus = s.path.bus := rfl
@[simp] theorem grant_path_done (u : Claimant) (a : Access) (s : State) : (grant u a s).path.done = s.path.done := rfl
@[simp] theorem grantSystem_path_setupSel (w : Bool) (a : Access) (s : State) :
   (grantSystem w a s).path.setupSel = s.path.setupSel := rfl
@[simp] theorem grantSystem_path_autostart (w : Bool) (a : Access) (s : State) :
   (grantSystem w a s).path.autostart = s.path.autostart := rfl
@[simp] theorem grantSystem_path_table (w : Bool) (a : Access) (s : State) :
   (grantSystem w a s).path.table = s.path.table := rfl
@[simp] theorem grantSystem_path_protection (w : Bool) (a : Access) (s : State) :
   (grantSystem w a s).path.protection = s.path.protection := rfl
@[simp] theorem grantSystem_path_snapshot (w : Bool) (a : Access) (s : State) :
   (grantSystem w a s).path.snapshot = s.path.snapshot := rfl
@[simp] theorem grantSystem_path_bus (w : Bool) (a : Access) (s : State) :
   (grantSystem w a s).path.bus = s.path.bus := rfl
@[simp] theorem grantSystem_path_done (w : Bool) (a : Access) (s : State) :
   (grantSystem w a s).path.done = s.path.done := rfl
@[simp] theorem forwarded_path_setupSel (a : Access) (s : State) :
   (forwarded a s).path.setupSel = s.path.setupSel := rfl
@[simp] theorem forwarded_path_autostart (a : Access) (s : State) :
   (forwarded a s).path.autostart = s.path.autostart := rfl
@[simp] theorem forwarded_path_table (a : Access) (s : State) : (forwarded a s).path.table = s.path.table := rfl
@[simp] theorem forwarded_path_protection (a : Access) (s : State) :
   (forwarded a s).path.protection = s.path.protection := rfl
@[simp] theorem forwarded_path_snapshot (a : Access) (s : State) :
   (forwarded a s).path.snapshot = s.path.snapshot := rfl
@[simp] theorem forwarded_path_access (a : Access) (s : State) : (forwarded a s).path.access = s.path.access := rfl
@[simp] theorem forwarded_path_bus (a : Access) (s : State) : (forwarded a s).path.bus = s.path.bus := rfl
@[simp] theorem forwarded_path_done (a : Access) (s : State) : (forwarded a s).path.done = s.path.done := rfl
@[simp] theorem endedBy_path_setupSel (a : Access) (h : Ending) (d : Word) (s : State) :
   (endedBy a h d s).path.setupSel = s.path.setupSel := rfl
@[simp] theorem endedBy_path_autostart (a : Access) (h : Ending) (d : Word) (s : State) :
   (endedBy a h d s).path.autostart = s.path.autostart := rfl
@[simp] theorem endedBy_path_table (a : Access) (h : Ending) (d : Word) (s : State) :
   (endedBy a h d s).path.table = s.path.table := rfl
@[simp] theorem endedBy_path_protection (a : Access) (h : Ending) (d : Word) (s : State) :
   (endedBy a h d s).path.protection = s.path.protection := rfl
@[simp] theorem endedBy_path_snapshot (a : Access) (h : Ending) (d : Word) (s : State) :
   (endedBy a h d s).path.snapshot = s.path.snapshot := rfl
@[simp] theorem endedBy_path_patience (a : Access) (h : Ending) (d : Word) (s : State) :
   (endedBy a h d s).path.patience = s.path.patience := rfl
@[simp] theorem endedBy_path_access (a : Access) (h : Ending) (d : Word) (s : State) :
   (endedBy a h d s).path.access = s.path.access := rfl
@[simp] theorem endedBy_path_port (a : Access) (h : Ending) (d : Word) (s : State) :
   (endedBy a h d s).path.port = s.path.port := rfl
@[simp] theorem endedBy_path_bus (a : Access) (h : Ending) (d : Word) (s : State) :
   (endedBy a h d s).path.bus = s.path.bus := rfl
@[simp] theorem freePort_port (s : State) : (freePort s).path.port = none := rfl
@[simp] theorem hold_access (a : Access) (s : State) : (hold a s).path.access = some a := rfl
@[simp] theorem endAccess_access (a : Access) (h : Ending) (d : Word) (s : State) :
   (endAccess a h d s).path.access = none := rfl
@[simp] theorem endAccess_done (a : Access) (h : Ending) (d : Word) (s : State) :
   (endAccess a h d s).path.done = some ⟨a, h, d⟩ := rfl
@[simp] theorem grant_port (u : Claimant) (a : Access) (s : State) :
   (grant u a s).path.port = some ⟨u, a, true⟩ := rfl
@[simp] theorem grant_ram (u : Claimant) (a : Access) (s : State) : (grant u a s).ram = ramAfter s.ram a := rfl
@[simp] theorem forwarded_port (a : Access) (s : State) : (forwarded a s).path.port = some ⟨.system, a, true⟩ := rfl
@[simp] theorem forwarded_ram (a : Access) (s : State) : (forwarded a s).ram = ramAfter s.ram a := rfl

end Sys2Proof.Machine
end

