-- ==== Sys2Proof/Laws/Frames.lean ====
section
/-! SUPPORT. What each shared operation over the blocks leaves as it was. -/

namespace Sys2Proof.Machine


/-! ### Requests, header and rows -/

@[simp] theorem requestMirror_crank (e : Env) (k : RequestKind) (b : Blocks) :
    (requestMirror e k b).crank = b.crank := by unfold requestMirror; (repeat' split) <;> simp
@[simp] theorem requestMirror_seg (e : Env) (k : RequestKind) (b : Blocks) :
    (requestMirror e k b).seg = b.seg := by unfold requestMirror; (repeat' split) <;> simp
@[simp] theorem requestMirror_knock (e : Env) (k : RequestKind) (b : Blocks) :
    (requestMirror e k b).knock = b.knock := by unfold requestMirror; (repeat' split) <;> simp
@[simp] theorem requestMirror_evq (e : Env) (k : RequestKind) (b : Blocks) :
    (requestMirror e k b).evq = b.evq := by unfold requestMirror; (repeat' split) <;> simp
@[simp] theorem requestMirror_frz (e : Env) (k : RequestKind) (b : Blocks) :
    (requestMirror e k b).frz = b.frz := by unfold requestMirror; (repeat' split) <;> simp
@[simp] theorem requestMirror_tap (e : Env) (k : RequestKind) (b : Blocks) :
    (requestMirror e k b).tap = b.tap := by unfold requestMirror; (repeat' split) <;> simp
@[simp] theorem requestMirror_rate (e : Env) (k : RequestKind) (b : Blocks) :
    (requestMirror e k b).rate = b.rate := by unfold requestMirror; (repeat' split) <;> simp
/-- A header update leaves everything but the header and the report writer's list. -/
@[simp] theorem tellHeader_crank (e : Env) (f : Header → Header) (b : Blocks) :
    (tellHeader e f b).crank = b.crank := by unfold tellHeader; (repeat' split) <;> simp
@[simp] theorem tellHeader_seg (e : Env) (f : Header → Header) (b : Blocks) :
    (tellHeader e f b).seg = b.seg := by unfold tellHeader; (repeat' split) <;> simp
@[simp] theorem tellHeader_knock (e : Env) (f : Header → Header) (b : Blocks) :
    (tellHeader e f b).knock = b.knock := by unfold tellHeader; (repeat' split) <;> simp
@[simp] theorem tellHeader_evq (e : Env) (f : Header → Header) (b : Blocks) :
    (tellHeader e f b).evq = b.evq := by unfold tellHeader; (repeat' split) <;> simp
@[simp] theorem tellHeader_frz (e : Env) (f : Header → Header) (b : Blocks) :
    (tellHeader e f b).frz = b.frz := by unfold tellHeader; (repeat' split) <;> simp
@[simp] theorem tellHeader_tap (e : Env) (f : Header → Header) (b : Blocks) :
    (tellHeader e f b).tap = b.tap := by unfold tellHeader; (repeat' split) <;> simp
@[simp] theorem tellHeader_rate_cycles (e : Env) (f : Header → Header) (b : Blocks) :
    (tellHeader e f b).rate.cycles = b.rate.cycles := by unfold tellHeader; (repeat' split) <;> simp
@[simp] theorem tellHeader_rate_wcur (e : Env) (f : Header → Header) (b : Blocks) :
    (tellHeader e f b).rate.wcur = b.rate.wcur := by unfold tellHeader; (repeat' split) <;> simp
@[simp] theorem tellHeader_rate_rows (e : Env) (f : Header → Header) (b : Blocks) :
    (tellHeader e f b).rate.rows = b.rate.rows := by unfold tellHeader; (repeat' split) <;> simp
/-- A field that a header update keeps. -/
theorem tellHeader_keeps {α : Type} (e : Env) (f : Header → Header) (b : Blocks) (g : Header → α)
    (h : ∀ x, g (f x) = g x) (hs : ∀ (x : Header) n, g { x with seq := n } = g x) :
    g (tellHeader e f b).rate.header = g b.rate.header := by
  unfold tellHeader; split <;> simp [h, hs]

/-- A field that a header update writes. -/
theorem tellHeader_gives {α : Type} (e : Env) (f : Header → Header) (b : Blocks) (g : Header → α)
    (hs : ∀ (x : Header) n, g { x with seq := n } = g x) :
    g (tellHeader e f b).rate.header = g (f b.rate.header) := by
  unfold tellHeader; split
  · next h => rw [h]
  · simp [hs]

@[simp] theorem tellSync_crank (e : Env) (b : Blocks) : (tellSync e b).crank = b.crank := by unfold tellSync; simp
@[simp] theorem tellSync_seg (e : Env) (b : Blocks) : (tellSync e b).seg = b.seg := by unfold tellSync; simp
@[simp] theorem tellSync_knock (e : Env) (b : Blocks) : (tellSync e b).knock = b.knock := by unfold tellSync; simp
@[simp] theorem tellSync_evq (e : Env) (b : Blocks) : (tellSync e b).evq = b.evq := by unfold tellSync; simp
@[simp] theorem tellSync_frz (e : Env) (b : Blocks) : (tellSync e b).frz = b.frz := by unfold tellSync; simp
@[simp] theorem tellSync_tap (e : Env) (b : Blocks) : (tellSync e b).tap = b.tap := by unfold tellSync; simp
@[simp] theorem tellSync_rate_cycles (e : Env) (b : Blocks) :
    (tellSync e b).rate.cycles = b.rate.cycles := by unfold tellSync; simp
@[simp] theorem tellSync_rate_wcur (e : Env) (b : Blocks) :
    (tellSync e b).rate.wcur = b.rate.wcur := by unfold tellSync; simp
@[simp] theorem tellSync_rate_rows (e : Env) (b : Blocks) :
    (tellSync e b).rate.rows = b.rate.rows := by unfold tellSync; simp
@[simp] theorem tellSync_header_op (e : Env) (b : Blocks) :
    (tellSync e b).rate.header.op = b.rate.header.op := by
  unfold tellSync; exact tellHeader_keeps e _ b (·.op) (fun _ => rfl) (fun _ _ => rfl)
@[simp] theorem tellSync_header_cycle (e : Env) (b : Blocks) :
    (tellSync e b).rate.header.cycle = b.rate.header.cycle := by
  unfold tellSync; exact tellHeader_keeps e _ b (·.cycle) (fun _ => rfl) (fun _ _ => rfl)
@[simp] theorem tellSync_header_rpm (e : Env) (b : Blocks) :
    (tellSync e b).rate.header.rpm = b.rate.header.rpm := by
  unfold tellSync; exact tellHeader_keeps e _ b (·.rpm) (fun _ => rfl) (fun _ _ => rfl)
@[simp] theorem tellSync_header_cut (e : Env) (b : Blocks) :
    (tellSync e b).rate.header.cut = b.rate.header.cut := by
  unfold tellSync; exact tellHeader_keeps e _ b (·.cut) (fun _ => rfl) (fun _ _ => rfl)
@[simp] theorem tellSync_header_load (e : Env) (b : Blocks) :
    (tellSync e b).rate.header.load = b.rate.header.load := by
  unfold tellSync; exact tellHeader_keeps e _ b (·.load) (fun _ => rfl) (fun _ _ => rfl)
@[simp] theorem tellSync_header_surface (e : Env) (b : Blocks) :
    (tellSync e b).rate.header.surface = b.rate.header.surface := by
  unfold tellSync; exact tellHeader_keeps e _ b (·.surface) (fun _ => rfl) (fun _ _ => rfl)
@[simp] theorem tellSync_header_flags (e : Env) (b : Blocks) :
    (tellSync e b).rate.header.flags = b.rate.header.flags := by
  unfold tellSync; exact tellHeader_keeps e _ b (·.flags) (fun _ => rfl) (fun _ _ => rfl)
@[simp] theorem tellSync_header_producer (e : Env) (b : Blocks) :
    (tellSync e b).rate.header.producer = b.rate.header.producer := by
  unfold tellSync; exact tellHeader_keeps e _ b (·.producer) (fun _ => rfl) (fun _ _ => rfl)
@[simp] theorem tellSync_header_freeze (e : Env) (b : Blocks) :
    (tellSync e b).rate.header.freeze = b.rate.header.freeze := by
  unfold tellSync; exact tellHeader_keeps e _ b (·.freeze) (fun _ => rfl) (fun _ _ => rfl)
@[simp] theorem tellSync_header_sync (e : Env) (b : Blocks) :
    (tellSync e b).rate.header.sync = b.crank.sync := by
  unfold tellSync; exact tellHeader_gives e _ b (·.sync) (fun _ _ => rfl)
@[simp] theorem tellFlags_crank (e : Env) (b : Blocks) : (tellFlags e b).crank = b.crank := by unfold tellFlags; simp
@[simp] theorem tellFlags_seg (e : Env) (b : Blocks) : (tellFlags e b).seg = b.seg := by unfold tellFlags; simp
@[simp] theorem tellFlags_knock (e : Env) (b : Blocks) : (tellFlags e b).knock = b.knock := by unfold tellFlags; simp
@[simp] theorem tellFlags_evq (e : Env) (b : Blocks) : (tellFlags e b).evq = b.evq := by unfold tellFlags; simp
@[simp] theorem tellFlags_frz (e : Env) (b : Blocks) : (tellFlags e b).frz = b.frz := by unfold tellFlags; simp
@[simp] theorem tellFlags_tap (e : Env) (b : Blocks) : (tellFlags e b).tap = b.tap := by unfold tellFlags; simp
@[simp] theorem tellFlags_rate_cycles (e : Env) (b : Blocks) :
    (tellFlags e b).rate.cycles = b.rate.cycles := by unfold tellFlags; simp
@[simp] theorem tellFlags_rate_wcur (e : Env) (b : Blocks) :
    (tellFlags e b).rate.wcur = b.rate.wcur := by unfold tellFlags; simp
@[simp] theorem tellFlags_rate_rows (e : Env) (b : Blocks) :
    (tellFlags e b).rate.rows = b.rate.rows := by unfold tellFlags; simp
@[simp] theorem tellFlags_header_op (e : Env) (b : Blocks) :
    (tellFlags e b).rate.header.op = b.rate.header.op := by
  unfold tellFlags; exact tellHeader_keeps e _ b (·.op) (fun _ => rfl) (fun _ _ => rfl)
@[simp] theorem tellFlags_header_sync (e : Env) (b : Blocks) :
    (tellFlags e b).rate.header.sync = b.rate.header.sync := by
  unfold tellFlags; exact tellHeader_keeps e _ b (·.sync) (fun _ => rfl) (fun _ _ => rfl)
@[simp] theorem tellFlags_header_cycle (e : Env) (b : Blocks) :
    (tellFlags e b).rate.header.cycle = b.rate.header.cycle := by
  unfold tellFlags; exact tellHeader_keeps e _ b (·.cycle) (fun _ => rfl) (fun _ _ => rfl)
@[simp] theorem tellFlags_header_rpm (e : Env) (b : Blocks) :
    (tellFlags e b).rate.header.rpm = b.rate.header.rpm := by
  unfold tellFlags; exact tellHeader_keeps e _ b (·.rpm) (fun _ => rfl) (fun _ _ => rfl)
@[simp] theorem tellFlags_header_cut (e : Env) (b : Blocks) :
    (tellFlags e b).rate.header.cut = b.rate.header.cut := by
  unfold tellFlags; exact tellHeader_keeps e _ b (·.cut) (fun _ => rfl) (fun _ _ => rfl)
@[simp] theorem tellFlags_header_load (e : Env) (b : Blocks) :
    (tellFlags e b).rate.header.load = b.rate.header.load := by
  unfold tellFlags; exact tellHeader_keeps e _ b (·.load) (fun _ => rfl) (fun _ _ => rfl)
@[simp] theorem tellFlags_header_surface (e : Env) (b : Blocks) :
    (tellFlags e b).rate.header.surface = b.rate.header.surface := by
  unfold tellFlags; exact tellHeader_keeps e _ b (·.surface) (fun _ => rfl) (fun _ _ => rfl)
@[simp] theorem tellFlags_header_producer (e : Env) (b : Blocks) :
    (tellFlags e b).rate.header.producer = b.rate.header.producer := by
  unfold tellFlags; exact tellHeader_keeps e _ b (·.producer) (fun _ => rfl) (fun _ _ => rfl)
@[simp] theorem tellFlags_header_freeze (e : Env) (b : Blocks) :
    (tellFlags e b).rate.header.freeze = b.rate.header.freeze := by
  unfold tellFlags; exact tellHeader_keeps e _ b (·.freeze) (fun _ => rfl) (fun _ _ => rfl)
@[simp] theorem tellFlags_header_flags (e : Env) (b : Blocks) :
    (tellFlags e b).rate.header.flags = b.tap.flags := by
  unfold tellFlags; exact tellHeader_gives e _ b (·.flags) (fun _ _ => rfl)
@[simp] theorem tellContext_crank (e : Env) (b : Blocks) :
    (tellContext e b).crank = b.crank := by unfold tellContext; simp
@[simp] theorem tellContext_seg (e : Env) (b : Blocks) : (tellContext e b).seg = b.seg := by unfold tellContext; simp
@[simp] theorem tellContext_knock (e : Env) (b : Blocks) :
    (tellContext e b).knock = b.knock := by unfold tellContext; simp
@[simp] theorem tellContext_evq (e : Env) (b : Blocks) : (tellContext e b).evq = b.evq := by unfold tellContext; simp
@[simp] theorem tellContext_frz (e : Env) (b : Blocks) : (tellContext e b).frz = b.frz := by unfold tellContext; simp
@[simp] theorem tellContext_tap (e : Env) (b : Blocks) : (tellContext e b).tap = b.tap := by unfold tellContext; simp
@[simp] theorem tellContext_rate_cycles (e : Env) (b : Blocks) :
    (tellContext e b).rate.cycles = b.rate.cycles := by unfold tellContext; simp
@[simp] theorem tellContext_rate_wcur (e : Env) (b : Blocks) :
    (tellContext e b).rate.wcur = b.rate.wcur := by unfold tellContext; simp
@[simp] theorem tellContext_rate_rows (e : Env) (b : Blocks) :
    (tellContext e b).rate.rows = b.rate.rows := by unfold tellContext; simp
@[simp] theorem tellContext_header_op (e : Env) (b : Blocks) :
    (tellContext e b).rate.header.op = b.rate.header.op := by
  unfold tellContext; exact tellHeader_keeps e _ b (·.op) (fun _ => rfl) (fun _ _ => rfl)
@[simp] theorem tellContext_header_sync (e : Env) (b : Blocks) :
    (tellContext e b).rate.header.sync = b.rate.header.sync := by
  unfold tellContext; exact tellHeader_keeps e _ b (·.sync) (fun _ => rfl) (fun _ _ => rfl)
@[simp] theorem tellContext_header_cycle (e : Env) (b : Blocks) :
    (tellContext e b).rate.header.cycle = b.rate.header.cycle := by
  unfold tellContext; exact tellHeader_keeps e _ b (·.cycle) (fun _ => rfl) (fun _ _ => rfl)
@[simp] theorem tellContext_header_rpm (e : Env) (b : Blocks) :
    (tellContext e b).rate.header.rpm = b.rate.header.rpm := by
  unfold tellContext; exact tellHeader_keeps e _ b (·.rpm) (fun _ => rfl) (fun _ _ => rfl)
@[simp] theorem tellContext_header_flags (e : Env) (b : Blocks) :
    (tellContext e b).rate.header.flags = b.rate.header.flags := by
  unfold tellContext; exact tellHeader_keeps e _ b (·.flags) (fun _ => rfl) (fun _ _ => rfl)
@[simp] theorem tellContext_header_producer (e : Env) (b : Blocks) :
    (tellContext e b).rate.header.producer = b.rate.header.producer := by
  unfold tellContext; exact tellHeader_keeps e _ b (·.producer) (fun _ => rfl) (fun _ _ => rfl)
@[simp] theorem tellContext_header_freeze (e : Env) (b : Blocks) :
    (tellContext e b).rate.header.freeze = b.rate.header.freeze := by
  unfold tellContext; exact tellHeader_keeps e _ b (·.freeze) (fun _ => rfl) (fun _ _ => rfl)
@[simp] theorem tellContext_header_cut (e : Env) (b : Blocks) :
    (tellContext e b).rate.header.cut = b.tap.cut := by
  unfold tellContext; exact tellHeader_gives e _ b (·.cut) (fun _ _ => rfl)
@[simp] theorem tellContext_header_load (e : Env) (b : Blocks) :
    (tellContext e b).rate.header.load = b.tap.load := by
  unfold tellContext; exact tellHeader_gives e _ b (·.load) (fun _ _ => rfl)
@[simp] theorem tellContext_header_surface (e : Env) (b : Blocks) :
    (tellContext e b).rate.header.surface = b.tap.surface := by
  unfold tellContext; exact tellHeader_gives e _ b (·.surface) (fun _ _ => rfl)
@[simp] theorem tellProducer_crank (e : Env) (b : Blocks) :
    (tellProducer e b).crank = b.crank := by unfold tellProducer; simp
@[simp] theorem tellProducer_seg (e : Env) (b : Blocks) :
    (tellProducer e b).seg = b.seg := by unfold tellProducer; simp
@[simp] theorem tellProducer_knock (e : Env) (b : Blocks) :
    (tellProducer e b).knock = b.knock := by unfold tellProducer; simp
@[simp] theorem tellProducer_evq (e : Env) (b : Blocks) :
    (tellProducer e b).evq = b.evq := by unfold tellProducer; simp
@[simp] theorem tellProducer_frz (e : Env) (b : Blocks) :
    (tellProducer e b).frz = b.frz := by unfold tellProducer; simp
@[simp] theorem tellProducer_tap (e : Env) (b : Blocks) :
    (tellProducer e b).tap = b.tap := by unfold tellProducer; simp
@[simp] theorem tellProducer_rate_cycles (e : Env) (b : Blocks) :
    (tellProducer e b).rate.cycles = b.rate.cycles := by unfold tellProducer; simp
@[simp] theorem tellProducer_rate_wcur (e : Env) (b : Blocks) :
    (tellProducer e b).rate.wcur = b.rate.wcur := by unfold tellProducer; simp
@[simp] theorem tellProducer_rate_rows (e : Env) (b : Blocks) :
    (tellProducer e b).rate.rows = b.rate.rows := by unfold tellProducer; simp
@[simp] theorem tellProducer_header_op (e : Env) (b : Blocks) :
    (tellProducer e b).rate.header.op = b.rate.header.op := by
  unfold tellProducer; exact tellHeader_keeps e _ b (·.op) (fun _ => rfl) (fun _ _ => rfl)
@[simp] theorem tellProducer_header_sync (e : Env) (b : Blocks) :
    (tellProducer e b).rate.header.sync = b.rate.header.sync := by
  unfold tellProducer; exact tellHeader_keeps e _ b (·.sync) (fun _ => rfl) (fun _ _ => rfl)
@[simp] theorem tellProducer_header_cycle (e : Env) (b : Blocks) :
    (tellProducer e b).rate.header.cycle = b.rate.header.cycle := by
  unfold tellProducer; exact tellHeader_keeps e _ b (·.cycle) (fun _ => rfl) (fun _ _ => rfl)
@[simp] theorem tellProducer_header_rpm (e : Env) (b : Blocks) :
    (tellProducer e b).rate.header.rpm = b.rate.header.rpm := by
  unfold tellProducer; exact tellHeader_keeps e _ b (·.rpm) (fun _ => rfl) (fun _ _ => rfl)
@[simp] theorem tellProducer_header_cut (e : Env) (b : Blocks) :
    (tellProducer e b).rate.header.cut = b.rate.header.cut := by
  unfold tellProducer; exact tellHeader_keeps e _ b (·.cut) (fun _ => rfl) (fun _ _ => rfl)
@[simp] theorem tellProducer_header_load (e : Env) (b : Blocks) :
    (tellProducer e b).rate.header.load = b.rate.header.load := by
  unfold tellProducer; exact tellHeader_keeps e _ b (·.load) (fun _ => rfl) (fun _ _ => rfl)
@[simp] theorem tellProducer_header_surface (e : Env) (b : Blocks) :
    (tellProducer e b).rate.header.surface = b.rate.header.surface := by
  unfold tellProducer; exact tellHeader_keeps e _ b (·.surface) (fun _ => rfl) (fun _ _ => rfl)
@[simp] theorem tellProducer_header_flags (e : Env) (b : Blocks) :
    (tellProducer e b).rate.header.flags = b.rate.header.flags := by
  unfold tellProducer; exact tellHeader_keeps e _ b (·.flags) (fun _ => rfl) (fun _ _ => rfl)
@[simp] theorem tellProducer_header_freeze (e : Env) (b : Blocks) :
    (tellProducer e b).rate.header.freeze = b.rate.header.freeze := by
  unfold tellProducer; exact tellHeader_keeps e _ b (·.freeze) (fun _ => rfl) (fun _ _ => rfl)
@[simp] theorem tellProducer_header_producer (e : Env) (b : Blocks) :
    (tellProducer e b).rate.header.producer = b.evq.producer := by
  unfold tellProducer; exact tellHeader_gives e _ b (·.producer) (fun _ _ => rfl)
@[simp] theorem tellFreeze_crank (e : Env) (b : Blocks) :
    (tellFreeze e b).crank = b.crank := by unfold tellFreeze; simp
@[simp] theorem tellFreeze_seg (e : Env) (b : Blocks) : (tellFreeze e b).seg = b.seg := by unfold tellFreeze; simp
@[simp] theorem tellFreeze_knock (e : Env) (b : Blocks) :
    (tellFreeze e b).knock = b.knock := by unfold tellFreeze; simp
@[simp] theorem tellFreeze_evq (e : Env) (b : Blocks) : (tellFreeze e b).evq = b.evq := by unfold tellFreeze; simp
@[simp] theorem tellFreeze_frz (e : Env) (b : Blocks) : (tellFreeze e b).frz = b.frz := by unfold tellFreeze; simp
@[simp] theorem tellFreeze_tap (e : Env) (b : Blocks) : (tellFreeze e b).tap = b.tap := by unfold tellFreeze; simp
@[simp] theorem tellFreeze_rate_cycles (e : Env) (b : Blocks) :
    (tellFreeze e b).rate.cycles = b.rate.cycles := by unfold tellFreeze; simp
@[simp] theorem tellFreeze_rate_wcur (e : Env) (b : Blocks) :
    (tellFreeze e b).rate.wcur = b.rate.wcur := by unfold tellFreeze; simp
@[simp] theorem tellFreeze_rate_rows (e : Env) (b : Blocks) :
    (tellFreeze e b).rate.rows = b.rate.rows := by unfold tellFreeze; simp
@[simp] theorem tellFreeze_header_op (e : Env) (b : Blocks) :
    (tellFreeze e b).rate.header.op = b.rate.header.op := by
  unfold tellFreeze; exact tellHeader_keeps e _ b (·.op) (fun _ => rfl) (fun _ _ => rfl)
@[simp] theorem tellFreeze_header_sync (e : Env) (b : Blocks) :
    (tellFreeze e b).rate.header.sync = b.rate.header.sync := by
  unfold tellFreeze; exact tellHeader_keeps e _ b (·.sync) (fun _ => rfl) (fun _ _ => rfl)
@[simp] theorem tellFreeze_header_cycle (e : Env) (b : Blocks) :
    (tellFreeze e b).rate.header.cycle = b.rate.header.cycle := by
  unfold tellFreeze; exact tellHeader_keeps e _ b (·.cycle) (fun _ => rfl) (fun _ _ => rfl)
@[simp] theorem tellFreeze_header_rpm (e : Env) (b : Blocks) :
    (tellFreeze e b).rate.header.rpm = b.rate.header.rpm := by
  unfold tellFreeze; exact tellHeader_keeps e _ b (·.rpm) (fun _ => rfl) (fun _ _ => rfl)
@[simp] theorem tellFreeze_header_cut (e : Env) (b : Blocks) :
    (tellFreeze e b).rate.header.cut = b.rate.header.cut := by
  unfold tellFreeze; exact tellHeader_keeps e _ b (·.cut) (fun _ => rfl) (fun _ _ => rfl)
@[simp] theorem tellFreeze_header_load (e : Env) (b : Blocks) :
    (tellFreeze e b).rate.header.load = b.rate.header.load := by
  unfold tellFreeze; exact tellHeader_keeps e _ b (·.load) (fun _ => rfl) (fun _ _ => rfl)
@[simp] theorem tellFreeze_header_surface (e : Env) (b : Blocks) :
    (tellFreeze e b).rate.header.surface = b.rate.header.surface := by
  unfold tellFreeze; exact tellHeader_keeps e _ b (·.surface) (fun _ => rfl) (fun _ _ => rfl)
@[simp] theorem tellFreeze_header_flags (e : Env) (b : Blocks) :
    (tellFreeze e b).rate.header.flags = b.rate.header.flags := by
  unfold tellFreeze; exact tellHeader_keeps e _ b (·.flags) (fun _ => rfl) (fun _ _ => rfl)
@[simp] theorem tellFreeze_header_producer (e : Env) (b : Blocks) :
    (tellFreeze e b).rate.header.producer = b.rate.header.producer := by
  unfold tellFreeze; exact tellHeader_keeps e _ b (·.producer) (fun _ => rfl) (fun _ _ => rfl)
@[simp] theorem tellFreeze_header_freeze (e : Env) (b : Blocks) :
    (tellFreeze e b).rate.header.freeze = b.frz.state := by
  unfold tellFreeze; exact tellHeader_gives e _ b (·.freeze) (fun _ _ => rfl)
@[simp] theorem tellOp_crank (e : Env) (b : Blocks) : (tellOp e b).crank = b.crank := by unfold tellOp; simp
@[simp] theorem tellOp_seg (e : Env) (b : Blocks) : (tellOp e b).seg = b.seg := by unfold tellOp; simp
@[simp] theorem tellOp_knock (e : Env) (b : Blocks) : (tellOp e b).knock = b.knock := by unfold tellOp; simp
@[simp] theorem tellOp_evq (e : Env) (b : Blocks) : (tellOp e b).evq = b.evq := by unfold tellOp; simp
@[simp] theorem tellOp_frz (e : Env) (b : Blocks) : (tellOp e b).frz = b.frz := by unfold tellOp; simp
@[simp] theorem tellOp_tap (e : Env) (b : Blocks) : (tellOp e b).tap = b.tap := by unfold tellOp; simp
@[simp] theorem tellOp_rate_cycles (e : Env) (b : Blocks) :
    (tellOp e b).rate.cycles = b.rate.cycles := by unfold tellOp; simp
@[simp] theorem tellOp_rate_wcur (e : Env) (b : Blocks) :
    (tellOp e b).rate.wcur = b.rate.wcur := by unfold tellOp; simp
@[simp] theorem tellOp_rate_rows (e : Env) (b : Blocks) :
    (tellOp e b).rate.rows = b.rate.rows := by unfold tellOp; simp
@[simp] theorem tellOp_header_sync (e : Env) (b : Blocks) :
    (tellOp e b).rate.header.sync = b.rate.header.sync := by
  unfold tellOp; exact tellHeader_keeps e _ b (·.sync) (fun _ => rfl) (fun _ _ => rfl)
@[simp] theorem tellOp_header_cycle (e : Env) (b : Blocks) :
    (tellOp e b).rate.header.cycle = b.rate.header.cycle := by
  unfold tellOp; exact tellHeader_keeps e _ b (·.cycle) (fun _ => rfl) (fun _ _ => rfl)
@[simp] theorem tellOp_header_rpm (e : Env) (b : Blocks) :
    (tellOp e b).rate.header.rpm = b.rate.header.rpm := by
  unfold tellOp; exact tellHeader_keeps e _ b (·.rpm) (fun _ => rfl) (fun _ _ => rfl)
@[simp] theorem tellOp_header_cut (e : Env) (b : Blocks) :
    (tellOp e b).rate.header.cut = b.rate.header.cut := by
  unfold tellOp; exact tellHeader_keeps e _ b (·.cut) (fun _ => rfl) (fun _ _ => rfl)
@[simp] theorem tellOp_header_load (e : Env) (b : Blocks) :
    (tellOp e b).rate.header.load = b.rate.header.load := by
  unfold tellOp; exact tellHeader_keeps e _ b (·.load) (fun _ => rfl) (fun _ _ => rfl)
@[simp] theorem tellOp_header_surface (e : Env) (b : Blocks) :
    (tellOp e b).rate.header.surface = b.rate.header.surface := by
  unfold tellOp; exact tellHeader_keeps e _ b (·.surface) (fun _ => rfl) (fun _ _ => rfl)
@[simp] theorem tellOp_header_flags (e : Env) (b : Blocks) :
    (tellOp e b).rate.header.flags = b.rate.header.flags := by
  unfold tellOp; exact tellHeader_keeps e _ b (·.flags) (fun _ => rfl) (fun _ _ => rfl)
@[simp] theorem tellOp_header_producer (e : Env) (b : Blocks) :
    (tellOp e b).rate.header.producer = b.rate.header.producer := by
  unfold tellOp; exact tellHeader_keeps e _ b (·.producer) (fun _ => rfl) (fun _ _ => rfl)
@[simp] theorem tellOp_header_freeze (e : Env) (b : Blocks) :
    (tellOp e b).rate.header.freeze = b.rate.header.freeze := by
  unfold tellOp; exact tellHeader_keeps e _ b (·.freeze) (fun _ => rfl) (fun _ _ => rfl)
@[simp] theorem tellOp_header_op (e : Env) (b : Blocks) :
    (tellOp e b).rate.header.op = e.op := by
  unfold tellOp; exact tellHeader_gives e _ b (·.op) (fun _ _ => rfl)
@[simp] theorem updateRow_crank (e : Env) (c : Nat) (f : Row → Row) (b : Blocks) :
    (updateRow e c f b).crank = b.crank := by unfold updateRow; simp
@[simp] theorem updateRow_seg (e : Env) (c : Nat) (f : Row → Row) (b : Blocks) :
    (updateRow e c f b).seg = b.seg := by unfold updateRow; simp
@[simp] theorem updateRow_knock (e : Env) (c : Nat) (f : Row → Row) (b : Blocks) :
    (updateRow e c f b).knock = b.knock := by unfold updateRow; simp
@[simp] theorem updateRow_evq (e : Env) (c : Nat) (f : Row → Row) (b : Blocks) :
    (updateRow e c f b).evq = b.evq := by unfold updateRow; simp
@[simp] theorem updateRow_frz (e : Env) (c : Nat) (f : Row → Row) (b : Blocks) :
    (updateRow e c f b).frz = b.frz := by unfold updateRow; simp
@[simp] theorem updateRow_tap (e : Env) (c : Nat) (f : Row → Row) (b : Blocks) :
    (updateRow e c f b).tap = b.tap := by unfold updateRow; simp
@[simp] theorem updateRow_rate_cycles (e : Env) (c : Nat) (f : Row → Row) (b : Blocks) :
    (updateRow e c f b).rate.cycles = b.rate.cycles := by unfold updateRow; simp
@[simp] theorem updateRow_rate_wcur (e : Env) (c : Nat) (f : Row → Row) (b : Blocks) :
    (updateRow e c f b).rate.wcur = b.rate.wcur := by unfold updateRow; simp
@[simp] theorem updateRow_rate_header (e : Env) (c : Nat) (f : Row → Row) (b : Blocks) :
    (updateRow e c f b).rate.header = b.rate.header := by unfold updateRow; simp

/-! ### Flags -/

@[simp] theorem setFlag_crank (e : Env) (f : Flag) (b : Blocks) :
    (setFlag e f b).crank = b.crank := by unfold setFlag; (repeat' split) <;> simp
@[simp] theorem setFlag_seg (e : Env) (f : Flag) (b : Blocks) :
    (setFlag e f b).seg = b.seg := by unfold setFlag; (repeat' split) <;> simp
@[simp] theorem setFlag_evq (e : Env) (f : Flag) (b : Blocks) :
    (setFlag e f b).evq = b.evq := by unfold setFlag; (repeat' split) <;> simp
@[simp] theorem setFlag_frz (e : Env) (f : Flag) (b : Blocks) :
    (setFlag e f b).frz = b.frz := by unfold setFlag; (repeat' split) <;> simp
@[simp] theorem setFlag_tap_tooth (e : Env) (f : Flag) (b : Blocks) :
    (setFlag e f b).tap.tooth = b.tap.tooth := by unfold setFlag; (repeat' split) <;> simp
@[simp] theorem setFlag_tap_knock (e : Env) (f : Flag) (b : Blocks) :
    (setFlag e f b).tap.knock = b.tap.knock := by unfold setFlag; (repeat' split) <;> simp
@[simp] theorem setFlag_tap_fifo (e : Env) (f : Flag) (b : Blocks) :
    (setFlag e f b).tap.fifo = b.tap.fifo := by unfold setFlag; (repeat' split) <;> simp
@[simp] theorem setFlag_tap_note (e : Env) (f : Flag) (b : Blocks) :
    (setFlag e f b).tap.note = b.tap.note := by unfold setFlag; (repeat' split) <;> simp
@[simp] theorem setFlag_tap_cut (e : Env) (f : Flag) (b : Blocks) :
    (setFlag e f b).tap.cut = b.tap.cut := by unfold setFlag; (repeat' split) <;> simp
@[simp] theorem setFlag_tap_load (e : Env) (f : Flag) (b : Blocks) :
    (setFlag e f b).tap.load = b.tap.load := by unfold setFlag; (repeat' split) <;> simp
@[simp] theorem setFlag_tap_surface (e : Env) (f : Flag) (b : Blocks) :
    (setFlag e f b).tap.surface = b.tap.surface := by unfold setFlag; (repeat' split) <;> simp
@[simp] theorem setFlag_rate_cycles (e : Env) (f : Flag) (b : Blocks) :
    (setFlag e f b).rate.cycles = b.rate.cycles := by unfold setFlag; (repeat' split) <;> simp
@[simp] theorem setFlag_rate_wcur (e : Env) (f : Flag) (b : Blocks) :
    (setFlag e f b).rate.wcur = b.rate.wcur := by unfold setFlag; (repeat' split) <;> simp
@[simp] theorem setFlag_rate_rows (e : Env) (f : Flag) (b : Blocks) :
    (setFlag e f b).rate.rows = b.rate.rows := by unfold setFlag; (repeat' split) <;> simp
@[simp] theorem setFlag_header_op (e : Env) (f : Flag) (b : Blocks) :
    (setFlag e f b).rate.header.op = b.rate.header.op := by unfold setFlag; (repeat' split) <;> simp
@[simp] theorem setFlag_header_sync (e : Env) (f : Flag) (b : Blocks) :
    (setFlag e f b).rate.header.sync = b.rate.header.sync := by unfold setFlag; (repeat' split) <;> simp
@[simp] theorem setFlag_header_cycle (e : Env) (f : Flag) (b : Blocks) :
    (setFlag e f b).rate.header.cycle = b.rate.header.cycle := by unfold setFlag; (repeat' split) <;> simp
@[simp] theorem setFlag_header_rpm (e : Env) (f : Flag) (b : Blocks) :
    (setFlag e f b).rate.header.rpm = b.rate.header.rpm := by unfold setFlag; (repeat' split) <;> simp
@[simp] theorem setFlag_header_cut (e : Env) (f : Flag) (b : Blocks) :
    (setFlag e f b).rate.header.cut = b.rate.header.cut := by unfold setFlag; (repeat' split) <;> simp
@[simp] theorem setFlag_header_load (e : Env) (f : Flag) (b : Blocks) :
    (setFlag e f b).rate.header.load = b.rate.header.load := by unfold setFlag; (repeat' split) <;> simp
@[simp] theorem setFlag_header_surface (e : Env) (f : Flag) (b : Blocks) :
    (setFlag e f b).rate.header.surface = b.rate.header.surface := by unfold setFlag; (repeat' split) <;> simp
@[simp] theorem setFlag_header_producer (e : Env) (f : Flag) (b : Blocks) :
    (setFlag e f b).rate.header.producer = b.rate.header.producer := by unfold setFlag; (repeat' split) <;> simp
@[simp] theorem setFlag_header_freeze (e : Env) (f : Flag) (b : Blocks) :
    (setFlag e f b).rate.header.freeze = b.rate.header.freeze := by unfold setFlag; (repeat' split) <;> simp
@[simp] theorem clearFlag_crank (e : Env) (f : Flag) (b : Blocks) :
    (clearFlag e f b).crank = b.crank := by unfold clearFlag; (repeat' split) <;> simp
@[simp] theorem clearFlag_seg (e : Env) (f : Flag) (b : Blocks) :
    (clearFlag e f b).seg = b.seg := by unfold clearFlag; (repeat' split) <;> simp
@[simp] theorem clearFlag_evq (e : Env) (f : Flag) (b : Blocks) :
    (clearFlag e f b).evq = b.evq := by unfold clearFlag; (repeat' split) <;> simp
@[simp] theorem clearFlag_frz (e : Env) (f : Flag) (b : Blocks) :
    (clearFlag e f b).frz = b.frz := by unfold clearFlag; (repeat' split) <;> simp
@[simp] theorem clearFlag_tap_tooth (e : Env) (f : Flag) (b : Blocks) :
    (clearFlag e f b).tap.tooth = b.tap.tooth := by unfold clearFlag; (repeat' split) <;> simp
@[simp] theorem clearFlag_tap_knock (e : Env) (f : Flag) (b : Blocks) :
    (clearFlag e f b).tap.knock = b.tap.knock := by unfold clearFlag; (repeat' split) <;> simp
@[simp] theorem clearFlag_tap_fifo (e : Env) (f : Flag) (b : Blocks) :
    (clearFlag e f b).tap.fifo = b.tap.fifo := by unfold clearFlag; (repeat' split) <;> simp
@[simp] theorem clearFlag_tap_note (e : Env) (f : Flag) (b : Blocks) :
    (clearFlag e f b).tap.note = b.tap.note := by unfold clearFlag; (repeat' split) <;> simp
@[simp] theorem clearFlag_tap_cut (e : Env) (f : Flag) (b : Blocks) :
    (clearFlag e f b).tap.cut = b.tap.cut := by unfold clearFlag; (repeat' split) <;> simp
@[simp] theorem clearFlag_tap_load (e : Env) (f : Flag) (b : Blocks) :
    (clearFlag e f b).tap.load = b.tap.load := by unfold clearFlag; (repeat' split) <;> simp
@[simp] theorem clearFlag_tap_surface (e : Env) (f : Flag) (b : Blocks) :
    (clearFlag e f b).tap.surface = b.tap.surface := by unfold clearFlag; (repeat' split) <;> simp
@[simp] theorem clearFlag_rate_cycles (e : Env) (f : Flag) (b : Blocks) :
    (clearFlag e f b).rate.cycles = b.rate.cycles := by unfold clearFlag; (repeat' split) <;> simp
@[simp] theorem clearFlag_rate_wcur (e : Env) (f : Flag) (b : Blocks) :
    (clearFlag e f b).rate.wcur = b.rate.wcur := by unfold clearFlag; (repeat' split) <;> simp
@[simp] theorem clearFlag_rate_rows (e : Env) (f : Flag) (b : Blocks) :
    (clearFlag e f b).rate.rows = b.rate.rows := by unfold clearFlag; (repeat' split) <;> simp
@[simp] theorem clearFlag_header_op (e : Env) (f : Flag) (b : Blocks) :
    (clearFlag e f b).rate.header.op = b.rate.header.op := by unfold clearFlag; (repeat' split) <;> simp
@[simp] theorem clearFlag_header_sync (e : Env) (f : Flag) (b : Blocks) :
    (clearFlag e f b).rate.header.sync = b.rate.header.sync := by unfold clearFlag; (repeat' split) <;> simp
@[simp] theorem clearFlag_header_cycle (e : Env) (f : Flag) (b : Blocks) :
    (clearFlag e f b).rate.header.cycle = b.rate.header.cycle := by unfold clearFlag; (repeat' split) <;> simp
@[simp] theorem clearFlag_header_rpm (e : Env) (f : Flag) (b : Blocks) :
    (clearFlag e f b).rate.header.rpm = b.rate.header.rpm := by unfold clearFlag; (repeat' split) <;> simp
@[simp] theorem clearFlag_header_cut (e : Env) (f : Flag) (b : Blocks) :
    (clearFlag e f b).rate.header.cut = b.rate.header.cut := by unfold clearFlag; (repeat' split) <;> simp
@[simp] theorem clearFlag_header_load (e : Env) (f : Flag) (b : Blocks) :
    (clearFlag e f b).rate.header.load = b.rate.header.load := by unfold clearFlag; (repeat' split) <;> simp
@[simp] theorem clearFlag_header_surface (e : Env) (f : Flag) (b : Blocks) :
    (clearFlag e f b).rate.header.surface = b.rate.header.surface := by unfold clearFlag; (repeat' split) <;> simp
@[simp] theorem clearFlag_header_producer (e : Env) (f : Flag) (b : Blocks) :
    (clearFlag e f b).rate.header.producer = b.rate.header.producer := by unfold clearFlag; (repeat' split) <;> simp
@[simp] theorem clearFlag_header_freeze (e : Env) (f : Flag) (b : Blocks) :
    (clearFlag e f b).rate.header.freeze = b.rate.header.freeze := by unfold clearFlag; (repeat' split) <;> simp
@[simp] theorem clearFlagsOf_crank (e : Env) (m : Word) (l : List Flag) (b : Blocks) :
    (clearFlagsOf e m l b).crank = b.crank := by
  induction l generalizing b with
  | nil => rfl
  | cons f l ih => simp only [clearFlagsOf]; rw [ih]; split <;> simp
@[simp] theorem clearFlagsOf_seg (e : Env) (m : Word) (l : List Flag) (b : Blocks) :
    (clearFlagsOf e m l b).seg = b.seg := by
  induction l generalizing b with
  | nil => rfl
  | cons f l ih => simp only [clearFlagsOf]; rw [ih]; split <;> simp
@[simp] theorem clearFlagsOf_evq (e : Env) (m : Word) (l : List Flag) (b : Blocks) :
    (clearFlagsOf e m l b).evq = b.evq := by
  induction l generalizing b with
  | nil => rfl
  | cons f l ih => simp only [clearFlagsOf]; rw [ih]; split <;> simp
@[simp] theorem clearFlagsOf_frz (e : Env) (m : Word) (l : List Flag) (b : Blocks) :
    (clearFlagsOf e m l b).frz = b.frz := by
  induction l generalizing b with
  | nil => rfl
  | cons f l ih => simp only [clearFlagsOf]; rw [ih]; split <;> simp
@[simp] theorem clearFlagsOf_tap_tooth (e : Env) (m : Word) (l : List Flag) (b : Blocks) :
    (clearFlagsOf e m l b).tap.tooth = b.tap.tooth := by
  induction l generalizing b with
  | nil => rfl
  | cons f l ih => simp only [clearFlagsOf]; rw [ih]; split <;> simp
@[simp] theorem clearFlagsOf_tap_knock (e : Env) (m : Word) (l : List Flag) (b : Blocks) :
    (clearFlagsOf e m l b).tap.knock = b.tap.knock := by
  induction l generalizing b with
  | nil => rfl
  | cons f l ih => simp only [clearFlagsOf]; rw [ih]; split <;> simp
@[simp] theorem clearFlagsOf_tap_fifo (e : Env) (m : Word) (l : List Flag) (b : Blocks) :
    (clearFlagsOf e m l b).tap.fifo = b.tap.fifo := by
  induction l generalizing b with
  | nil => rfl
  | cons f l ih => simp only [clearFlagsOf]; rw [ih]; split <;> simp
@[simp] theorem clearFlagsOf_tap_note (e : Env) (m : Word) (l : List Flag) (b : Blocks) :
    (clearFlagsOf e m l b).tap.note = b.tap.note := by
  induction l generalizing b with
  | nil => rfl
  | cons f l ih => simp only [clearFlagsOf]; rw [ih]; split <;> simp
@[simp] theorem clearFlagsOf_tap_cut (e : Env) (m : Word) (l : List Flag) (b : Blocks) :
    (clearFlagsOf e m l b).tap.cut = b.tap.cut := by
  induction l generalizing b with
  | nil => rfl
  | cons f l ih => simp only [clearFlagsOf]; rw [ih]; split <;> simp
@[simp] theorem clearFlagsOf_tap_load (e : Env) (m : Word) (l : List Flag) (b : Blocks) :
    (clearFlagsOf e m l b).tap.load = b.tap.load := by
  induction l generalizing b with
  | nil => rfl
  | cons f l ih => simp only [clearFlagsOf]; rw [ih]; split <;> simp
@[simp] theorem clearFlagsOf_tap_surface (e : Env) (m : Word) (l : List Flag) (b : Blocks) :
    (clearFlagsOf e m l b).tap.surface = b.tap.surface := by
  induction l generalizing b with
  | nil => rfl
  | cons f l ih => simp only [clearFlagsOf]; rw [ih]; split <;> simp
@[simp] theorem clearFlagsOf_rate_cycles (e : Env) (m : Word) (l : List Flag) (b : Blocks) :
    (clearFlagsOf e m l b).rate.cycles = b.rate.cycles := by
  induction l generalizing b with
  | nil => rfl
  | cons f l ih => simp only [clearFlagsOf]; rw [ih]; split <;> simp
@[simp] theorem clearFlagsOf_rate_wcur (e : Env) (m : Word) (l : List Flag) (b : Blocks) :
    (clearFlagsOf e m l b).rate.wcur = b.rate.wcur := by
  induction l generalizing b with
  | nil => rfl
  | cons f l ih => simp only [clearFlagsOf]; rw [ih]; split <;> simp
@[simp] theorem clearFlagsOf_rate_rows (e : Env) (m : Word) (l : List Flag) (b : Blocks) :
    (clearFlagsOf e m l b).rate.rows = b.rate.rows := by
  induction l generalizing b with
  | nil => rfl
  | cons f l ih => simp only [clearFlagsOf]; rw [ih]; split <;> simp
@[simp] theorem clearFlagsOf_header_op (e : Env) (m : Word) (l : List Flag) (b : Blocks) :
    (clearFlagsOf e m l b).rate.header.op = b.rate.header.op := by
  induction l generalizing b with
  | nil => rfl
  | cons f l ih => simp only [clearFlagsOf]; rw [ih]; split <;> simp
@[simp] theorem clearFlagsOf_header_sync (e : Env) (m : Word) (l : List Flag) (b : Blocks) :
    (clearFlagsOf e m l b).rate.header.sync = b.rate.header.sync := by
  induction l generalizing b with
  | nil => rfl
  | cons f l ih => simp only [clearFlagsOf]; rw [ih]; split <;> simp
@[simp] theorem clearFlagsOf_header_cycle (e : Env) (m : Word) (l : List Flag) (b : Blocks) :
    (clearFlagsOf e m l b).rate.header.cycle = b.rate.header.cycle := by
  induction l generalizing b with
  | nil => rfl
  | cons f l ih => simp only [clearFlagsOf]; rw [ih]; split <;> simp
@[simp] theorem clearFlagsOf_header_rpm (e : Env) (m : Word) (l : List Flag) (b : Blocks) :
    (clearFlagsOf e m l b).rate.header.rpm = b.rate.header.rpm := by
  induction l generalizing b with
  | nil => rfl
  | cons f l ih => simp only [clearFlagsOf]; rw [ih]; split <;> simp
@[simp] theorem clearFlagsOf_header_cut (e : Env) (m : Word) (l : List Flag) (b : Blocks) :
    (clearFlagsOf e m l b).rate.header.cut = b.rate.header.cut := by
  induction l generalizing b with
  | nil => rfl
  | cons f l ih => simp only [clearFlagsOf]; rw [ih]; split <;> simp
@[simp] theorem clearFlagsOf_header_load (e : Env) (m : Word) (l : List Flag) (b : Blocks) :
    (clearFlagsOf e m l b).rate.header.load = b.rate.header.load := by
  induction l generalizing b with
  | nil => rfl
  | cons f l ih => simp only [clearFlagsOf]; rw [ih]; split <;> simp
@[simp] theorem clearFlagsOf_header_surface (e : Env) (m : Word) (l : List Flag) (b : Blocks) :
    (clearFlagsOf e m l b).rate.header.surface = b.rate.header.surface := by
  induction l generalizing b with
  | nil => rfl
  | cons f l ih => simp only [clearFlagsOf]; rw [ih]; split <;> simp
@[simp] theorem clearFlagsOf_header_producer (e : Env) (m : Word) (l : List Flag) (b : Blocks) :
    (clearFlagsOf e m l b).rate.header.producer = b.rate.header.producer := by
  induction l generalizing b with
  | nil => rfl
  | cons f l ih => simp only [clearFlagsOf]; rw [ih]; split <;> simp
@[simp] theorem clearFlagsOf_header_freeze (e : Env) (m : Word) (l : List Flag) (b : Blocks) :
    (clearFlagsOf e m l b).rate.header.freeze = b.rate.header.freeze := by
  induction l generalizing b with
  | nil => rfl
  | cons f l ih => simp only [clearFlagsOf]; rw [ih]; split <;> simp
@[simp] theorem clearFlags_crank (e : Env) (m : Word) (b : Blocks) :
    (clearFlags e m b).crank = b.crank := by unfold clearFlags; simp
@[simp] theorem clearFlags_seg (e : Env) (m : Word) (b : Blocks) :
    (clearFlags e m b).seg = b.seg := by unfold clearFlags; simp
@[simp] theorem clearFlags_evq (e : Env) (m : Word) (b : Blocks) :
    (clearFlags e m b).evq = b.evq := by unfold clearFlags; simp
@[simp] theorem clearFlags_frz (e : Env) (m : Word) (b : Blocks) :
    (clearFlags e m b).frz = b.frz := by unfold clearFlags; simp
@[simp] theorem clearFlags_tap_tooth (e : Env) (m : Word) (b : Blocks) :
    (clearFlags e m b).tap.tooth = b.tap.tooth := by unfold clearFlags; simp
@[simp] theorem clearFlags_tap_knock (e : Env) (m : Word) (b : Blocks) :
    (clearFlags e m b).tap.knock = b.tap.knock := by unfold clearFlags; simp
@[simp] theorem clearFlags_tap_fifo (e : Env) (m : Word) (b : Blocks) :
    (clearFlags e m b).tap.fifo = b.tap.fifo := by unfold clearFlags; simp
@[simp] theorem clearFlags_tap_note (e : Env) (m : Word) (b : Blocks) :
    (clearFlags e m b).tap.note = b.tap.note := by unfold clearFlags; simp
@[simp] theorem clearFlags_tap_cut (e : Env) (m : Word) (b : Blocks) :
    (clearFlags e m b).tap.cut = b.tap.cut := by unfold clearFlags; simp
@[simp] theorem clearFlags_tap_load (e : Env) (m : Word) (b : Blocks) :
    (clearFlags e m b).tap.load = b.tap.load := by unfold clearFlags; simp
@[simp] theorem clearFlags_tap_surface (e : Env) (m : Word) (b : Blocks) :
    (clearFlags e m b).tap.surface = b.tap.surface := by unfold clearFlags; simp
@[simp] theorem clearFlags_rate_cycles (e : Env) (m : Word) (b : Blocks) :
    (clearFlags e m b).rate.cycles = b.rate.cycles := by unfold clearFlags; simp
@[simp] theorem clearFlags_rate_wcur (e : Env) (m : Word) (b : Blocks) :
    (clearFlags e m b).rate.wcur = b.rate.wcur := by unfold clearFlags; simp
@[simp] theorem clearFlags_rate_rows (e : Env) (m : Word) (b : Blocks) :
    (clearFlags e m b).rate.rows = b.rate.rows := by unfold clearFlags; simp
@[simp] theorem clearFlags_header_op (e : Env) (m : Word) (b : Blocks) :
    (clearFlags e m b).rate.header.op = b.rate.header.op := by unfold clearFlags; simp
@[simp] theorem clearFlags_header_sync (e : Env) (m : Word) (b : Blocks) :
    (clearFlags e m b).rate.header.sync = b.rate.header.sync := by unfold clearFlags; simp
@[simp] theorem clearFlags_header_cycle (e : Env) (m : Word) (b : Blocks) :
    (clearFlags e m b).rate.header.cycle = b.rate.header.cycle := by unfold clearFlags; simp
@[simp] theorem clearFlags_header_rpm (e : Env) (m : Word) (b : Blocks) :
    (clearFlags e m b).rate.header.rpm = b.rate.header.rpm := by unfold clearFlags; simp
@[simp] theorem clearFlags_header_cut (e : Env) (m : Word) (b : Blocks) :
    (clearFlags e m b).rate.header.cut = b.rate.header.cut := by unfold clearFlags; simp
@[simp] theorem clearFlags_header_load (e : Env) (m : Word) (b : Blocks) :
    (clearFlags e m b).rate.header.load = b.rate.header.load := by unfold clearFlags; simp
@[simp] theorem clearFlags_header_surface (e : Env) (m : Word) (b : Blocks) :
    (clearFlags e m b).rate.header.surface = b.rate.header.surface := by unfold clearFlags; simp
@[simp] theorem clearFlags_header_producer (e : Env) (m : Word) (b : Blocks) :
    (clearFlags e m b).rate.header.producer = b.rate.header.producer := by unfold clearFlags; simp
@[simp] theorem clearFlags_header_freeze (e : Env) (m : Word) (b : Blocks) :
    (clearFlags e m b).rate.header.freeze = b.rate.header.freeze := by unfold clearFlags; simp
/-- A flag that suspends no sensor leaves KNOCK. -/
theorem setFlag_knock (e : Env) (f : Flag) (b : Blocks) (h : flagSensor f = none) :
    (setFlag e f b).knock = b.knock := by
  unfold setFlag; split <;> simp [knockFlagSet, h]


/-! ### EVQ and FRZ -/

@[simp] theorem placeEvent_crank (e : Env) (ev : Event) (b : Blocks) :
    (placeEvent e ev b).crank = b.crank := by unfold placeEvent; simp
@[simp] theorem placeEvent_seg (e : Env) (ev : Event) (b : Blocks) :
    (placeEvent e ev b).seg = b.seg := by unfold placeEvent; simp
@[simp] theorem placeEvent_knock (e : Env) (ev : Event) (b : Blocks) :
    (placeEvent e ev b).knock = b.knock := by unfold placeEvent; simp
@[simp] theorem placeEvent_frz (e : Env) (ev : Event) (b : Blocks) :
    (placeEvent e ev b).frz = b.frz := by unfold placeEvent; simp
@[simp] theorem placeEvent_tap (e : Env) (ev : Event) (b : Blocks) :
    (placeEvent e ev b).tap = b.tap := by unfold placeEvent; simp
@[simp] theorem placeEvent_rate_cycles (e : Env) (ev : Event) (b : Blocks) :
    (placeEvent e ev b).rate.cycles = b.rate.cycles := by unfold placeEvent; simp
@[simp] theorem placeEvent_rate_wcur (e : Env) (ev : Event) (b : Blocks) :
    (placeEvent e ev b).rate.wcur = b.rate.wcur := by unfold placeEvent; simp
@[simp] theorem placeEvent_rate_rows (e : Env) (ev : Event) (b : Blocks) :
    (placeEvent e ev b).rate.rows = b.rate.rows := by unfold placeEvent; simp
@[simp] theorem placeEvent_header_op (e : Env) (ev : Event) (b : Blocks) :
    (placeEvent e ev b).rate.header.op = b.rate.header.op := by unfold placeEvent; simp
@[simp] theorem placeEvent_header_sync (e : Env) (ev : Event) (b : Blocks) :
    (placeEvent e ev b).rate.header.sync = b.rate.header.sync := by unfold placeEvent; simp
@[simp] theorem placeEvent_header_cycle (e : Env) (ev : Event) (b : Blocks) :
    (placeEvent e ev b).rate.header.cycle = b.rate.header.cycle := by unfold placeEvent; simp
@[simp] theorem placeEvent_header_rpm (e : Env) (ev : Event) (b : Blocks) :
    (placeEvent e ev b).rate.header.rpm = b.rate.header.rpm := by unfold placeEvent; simp
@[simp] theorem placeEvent_header_cut (e : Env) (ev : Event) (b : Blocks) :
    (placeEvent e ev b).rate.header.cut = b.rate.header.cut := by unfold placeEvent; simp
@[simp] theorem placeEvent_header_load (e : Env) (ev : Event) (b : Blocks) :
    (placeEvent e ev b).rate.header.load = b.rate.header.load := by unfold placeEvent; simp
@[simp] theorem placeEvent_header_surface (e : Env) (ev : Event) (b : Blocks) :
    (placeEvent e ev b).rate.header.surface = b.rate.header.surface := by unfold placeEvent; simp
@[simp] theorem placeEvent_header_flags (e : Env) (ev : Event) (b : Blocks) :
    (placeEvent e ev b).rate.header.flags = b.rate.header.flags := by unfold placeEvent; simp
@[simp] theorem placeEvent_header_freeze (e : Env) (ev : Event) (b : Blocks) :
    (placeEvent e ev b).rate.header.freeze = b.rate.header.freeze := by unfold placeEvent; simp
@[simp] theorem dropEvent_crank (e : Env) (b : Blocks) :
    (dropEvent e b).crank = b.crank := by
  unfold dropEvent; first | simp; done | exact setFlag_knock _ _ _ rfl
@[simp] theorem dropEvent_seg (e : Env) (b : Blocks) :
    (dropEvent e b).seg = b.seg := by
  unfold dropEvent; first | simp; done | exact setFlag_knock _ _ _ rfl
@[simp] theorem dropEvent_knock (e : Env) (b : Blocks) :
    (dropEvent e b).knock = b.knock := by
  unfold dropEvent; first | simp; done | exact setFlag_knock _ _ _ rfl
@[simp] theorem dropEvent_frz (e : Env) (b : Blocks) :
    (dropEvent e b).frz = b.frz := by
  unfold dropEvent; first | simp; done | exact setFlag_knock _ _ _ rfl
@[simp] theorem dropEvent_tap_tooth (e : Env) (b : Blocks) :
    (dropEvent e b).tap.tooth = b.tap.tooth := by
  unfold dropEvent; first | simp; done | exact setFlag_knock _ _ _ rfl
@[simp] theorem dropEvent_tap_knock (e : Env) (b : Blocks) :
    (dropEvent e b).tap.knock = b.tap.knock := by
  unfold dropEvent; first | simp; done | exact setFlag_knock _ _ _ rfl
@[simp] theorem dropEvent_tap_fifo (e : Env) (b : Blocks) :
    (dropEvent e b).tap.fifo = b.tap.fifo := by
  unfold dropEvent; first | simp; done | exact setFlag_knock _ _ _ rfl
@[simp] theorem dropEvent_tap_note (e : Env) (b : Blocks) :
    (dropEvent e b).tap.note = b.tap.note := by
  unfold dropEvent; first | simp; done | exact setFlag_knock _ _ _ rfl
@[simp] theorem dropEvent_tap_cut (e : Env) (b : Blocks) :
    (dropEvent e b).tap.cut = b.tap.cut := by
  unfold dropEvent; first | simp; done | exact setFlag_knock _ _ _ rfl
@[simp] theorem dropEvent_tap_load (e : Env) (b : Blocks) :
    (dropEvent e b).tap.load = b.tap.load := by
  unfold dropEvent; first | simp; done | exact setFlag_knock _ _ _ rfl
@[simp] theorem dropEvent_tap_surface (e : Env) (b : Blocks) :
    (dropEvent e b).tap.surface = b.tap.surface := by
  unfold dropEvent; first | simp; done | exact setFlag_knock _ _ _ rfl
@[simp] theorem dropEvent_rate_cycles (e : Env) (b : Blocks) :
    (dropEvent e b).rate.cycles = b.rate.cycles := by
  unfold dropEvent; first | simp; done | exact setFlag_knock _ _ _ rfl
@[simp] theorem dropEvent_rate_wcur (e : Env) (b : Blocks) :
    (dropEvent e b).rate.wcur = b.rate.wcur := by
  unfold dropEvent; first | simp; done | exact setFlag_knock _ _ _ rfl
@[simp] theorem dropEvent_rate_rows (e : Env) (b : Blocks) :
    (dropEvent e b).rate.rows = b.rate.rows := by
  unfold dropEvent; first | simp; done | exact setFlag_knock _ _ _ rfl
@[simp] theorem dropEvent_header_op (e : Env) (b : Blocks) :
    (dropEvent e b).rate.header.op = b.rate.header.op := by
  unfold dropEvent; first | simp; done | exact setFlag_knock _ _ _ rfl
@[simp] theorem dropEvent_header_sync (e : Env) (b : Blocks) :
    (dropEvent e b).rate.header.sync = b.rate.header.sync := by
  unfold dropEvent; first | simp; done | exact setFlag_knock _ _ _ rfl
@[simp] theorem dropEvent_header_cycle (e : Env) (b : Blocks) :
    (dropEvent e b).rate.header.cycle = b.rate.header.cycle := by
  unfold dropEvent; first | simp; done | exact setFlag_knock _ _ _ rfl
@[simp] theorem dropEvent_header_rpm (e : Env) (b : Blocks) :
    (dropEvent e b).rate.header.rpm = b.rate.header.rpm := by
  unfold dropEvent; first | simp; done | exact setFlag_knock _ _ _ rfl
@[simp] theorem dropEvent_header_cut (e : Env) (b : Blocks) :
    (dropEvent e b).rate.header.cut = b.rate.header.cut := by
  unfold dropEvent; first | simp; done | exact setFlag_knock _ _ _ rfl
@[simp] theorem dropEvent_header_load (e : Env) (b : Blocks) :
    (dropEvent e b).rate.header.load = b.rate.header.load := by
  unfold dropEvent; first | simp; done | exact setFlag_knock _ _ _ rfl
@[simp] theorem dropEvent_header_surface (e : Env) (b : Blocks) :
    (dropEvent e b).rate.header.surface = b.rate.header.surface := by
  unfold dropEvent; first | simp; done | exact setFlag_knock _ _ _ rfl
@[simp] theorem dropEvent_header_producer (e : Env) (b : Blocks) :
    (dropEvent e b).rate.header.producer = b.rate.header.producer := by
  unfold dropEvent; first | simp; done | exact setFlag_knock _ _ _ rfl
@[simp] theorem dropEvent_header_freeze (e : Env) (b : Blocks) :
    (dropEvent e b).rate.header.freeze = b.rate.header.freeze := by
  unfold dropEvent; first | simp; done | exact setFlag_knock _ _ _ rfl
@[simp] theorem takeEvent_crank (e : Env) (ev : Event) (b : Blocks) :
    (takeEvent e ev b).crank = b.crank := by unfold takeEvent; (split <;> try split) <;> simp
@[simp] theorem takeEvent_seg (e : Env) (ev : Event) (b : Blocks) :
    (takeEvent e ev b).seg = b.seg := by unfold takeEvent; (split <;> try split) <;> simp
@[simp] theorem takeEvent_knock (e : Env) (ev : Event) (b : Blocks) :
    (takeEvent e ev b).knock = b.knock := by unfold takeEvent; (split <;> try split) <;> simp
@[simp] theorem takeEvent_frz (e : Env) (ev : Event) (b : Blocks) :
    (takeEvent e ev b).frz = b.frz := by unfold takeEvent; (split <;> try split) <;> simp
@[simp] theorem takeEvent_tap_tooth (e : Env) (ev : Event) (b : Blocks) :
    (takeEvent e ev b).tap.tooth = b.tap.tooth := by unfold takeEvent; (split <;> try split) <;> simp
@[simp] theorem takeEvent_tap_knock (e : Env) (ev : Event) (b : Blocks) :
    (takeEvent e ev b).tap.knock = b.tap.knock := by unfold takeEvent; (split <;> try split) <;> simp
@[simp] theorem takeEvent_tap_fifo (e : Env) (ev : Event) (b : Blocks) :
    (takeEvent e ev b).tap.fifo = b.tap.fifo := by unfold takeEvent; (split <;> try split) <;> simp
@[simp] theorem takeEvent_tap_note (e : Env) (ev : Event) (b : Blocks) :
    (takeEvent e ev b).tap.note = b.tap.note := by unfold takeEvent; (split <;> try split) <;> simp
@[simp] theorem takeEvent_tap_cut (e : Env) (ev : Event) (b : Blocks) :
    (takeEvent e ev b).tap.cut = b.tap.cut := by unfold takeEvent; (split <;> try split) <;> simp
@[simp] theorem takeEvent_tap_load (e : Env) (ev : Event) (b : Blocks) :
    (takeEvent e ev b).tap.load = b.tap.load := by unfold takeEvent; (split <;> try split) <;> simp
@[simp] theorem takeEvent_tap_surface (e : Env) (ev : Event) (b : Blocks) :
    (takeEvent e ev b).tap.surface = b.tap.surface := by unfold takeEvent; (split <;> try split) <;> simp
@[simp] theorem takeEvent_rate_cycles (e : Env) (ev : Event) (b : Blocks) :
    (takeEvent e ev b).rate.cycles = b.rate.cycles := by unfold takeEvent; (split <;> try split) <;> simp
@[simp] theorem takeEvent_rate_wcur (e : Env) (ev : Event) (b : Blocks) :
    (takeEvent e ev b).rate.wcur = b.rate.wcur := by unfold takeEvent; (split <;> try split) <;> simp
@[simp] theorem takeEvent_rate_rows (e : Env) (ev : Event) (b : Blocks) :
    (takeEvent e ev b).rate.rows = b.rate.rows := by unfold takeEvent; (split <;> try split) <;> simp
@[simp] theorem takeEvent_header_op (e : Env) (ev : Event) (b : Blocks) :
    (takeEvent e ev b).rate.header.op = b.rate.header.op := by unfold takeEvent; (split <;> try split) <;> simp
@[simp] theorem takeEvent_header_sync (e : Env) (ev : Event) (b : Blocks) :
    (takeEvent e ev b).rate.header.sync = b.rate.header.sync := by unfold takeEvent; (split <;> try split) <;> simp
@[simp] theorem takeEvent_header_cycle (e : Env) (ev : Event) (b : Blocks) :
    (takeEvent e ev b).rate.header.cycle = b.rate.header.cycle := by unfold takeEvent; (split <;> try split) <;> simp
@[simp] theorem takeEvent_header_rpm (e : Env) (ev : Event) (b : Blocks) :
    (takeEvent e ev b).rate.header.rpm = b.rate.header.rpm := by unfold takeEvent; (split <;> try split) <;> simp
@[simp] theorem takeEvent_header_cut (e : Env) (ev : Event) (b : Blocks) :
    (takeEvent e ev b).rate.header.cut = b.rate.header.cut := by unfold takeEvent; (split <;> try split) <;> simp
@[simp] theorem takeEvent_header_load (e : Env) (ev : Event) (b : Blocks) :
    (takeEvent e ev b).rate.header.load = b.rate.header.load := by unfold takeEvent; (split <;> try split) <;> simp
@[simp] theorem takeEvent_header_surface (e : Env) (ev : Event) (b : Blocks) :
    (takeEvent e ev b).rate.header.surface = b.rate.header.surface := by unfold takeEvent; (split <;> try split) <;> simp
@[simp] theorem takeEvent_header_freeze (e : Env) (ev : Event) (b : Blocks) :
    (takeEvent e ev b).rate.header.freeze = b.rate.header.freeze := by unfold takeEvent; (split <;> try split) <;> simp
@[simp] theorem setFreezeState_crank (e : Env) (st : FreezeState) (b : Blocks) :
    (setFreezeState e st b).crank = b.crank := by unfold setFreezeState; simp
@[simp] theorem setFreezeState_seg (e : Env) (st : FreezeState) (b : Blocks) :
    (setFreezeState e st b).seg = b.seg := by unfold setFreezeState; simp
@[simp] theorem setFreezeState_knock (e : Env) (st : FreezeState) (b : Blocks) :
    (setFreezeState e st b).knock = b.knock := by unfold setFreezeState; simp
@[simp] theorem setFreezeState_evq (e : Env) (st : FreezeState) (b : Blocks) :
    (setFreezeState e st b).evq = b.evq := by unfold setFreezeState; simp
@[simp] theorem setFreezeState_tap (e : Env) (st : FreezeState) (b : Blocks) :
    (setFreezeState e st b).tap = b.tap := by unfold setFreezeState; simp
@[simp] theorem setFreezeState_rate_cycles (e : Env) (st : FreezeState) (b : Blocks) :
    (setFreezeState e st b).rate.cycles = b.rate.cycles := by unfold setFreezeState; simp
@[simp] theorem setFreezeState_rate_wcur (e : Env) (st : FreezeState) (b : Blocks) :
    (setFreezeState e st b).rate.wcur = b.rate.wcur := by unfold setFreezeState; simp
@[simp] theorem setFreezeState_rate_rows (e : Env) (st : FreezeState) (b : Blocks) :
    (setFreezeState e st b).rate.rows = b.rate.rows := by unfold setFreezeState; simp
@[simp] theorem setFreezeState_header_op (e : Env) (st : FreezeState) (b : Blocks) :
    (setFreezeState e st b).rate.header.op = b.rate.header.op := by unfold setFreezeState; simp
@[simp] theorem setFreezeState_header_sync (e : Env) (st : FreezeState) (b : Blocks) :
    (setFreezeState e st b).rate.header.sync = b.rate.header.sync := by unfold setFreezeState; simp
@[simp] theorem setFreezeState_header_cycle (e : Env) (st : FreezeState) (b : Blocks) :
    (setFreezeState e st b).rate.header.cycle = b.rate.header.cycle := by unfold setFreezeState; simp
@[simp] theorem setFreezeState_header_rpm (e : Env) (st : FreezeState) (b : Blocks) :
    (setFreezeState e st b).rate.header.rpm = b.rate.header.rpm := by unfold setFreezeState; simp
@[simp] theorem setFreezeState_header_cut (e : Env) (st : FreezeState) (b : Blocks) :
    (setFreezeState e st b).rate.header.cut = b.rate.header.cut := by unfold setFreezeState; simp
@[simp] theorem setFreezeState_header_load (e : Env) (st : FreezeState) (b : Blocks) :
    (setFreezeState e st b).rate.header.load = b.rate.header.load := by unfold setFreezeState; simp
@[simp] theorem setFreezeState_header_surface (e : Env) (st : FreezeState) (b : Blocks) :
    (setFreezeState e st b).rate.header.surface = b.rate.header.surface := by unfold setFreezeState; simp
@[simp] theorem setFreezeState_header_flags (e : Env) (st : FreezeState) (b : Blocks) :
    (setFreezeState e st b).rate.header.flags = b.rate.header.flags := by unfold setFreezeState; simp
@[simp] theorem setFreezeState_header_producer (e : Env) (st : FreezeState) (b : Blocks) :
    (setFreezeState e st b).rate.header.producer = b.rate.header.producer := by unfold setFreezeState; simp
@[simp] theorem writeOut_crank (e : Env) (b : Blocks) : (writeOut e b).crank = b.crank := by unfold writeOut; simp
@[simp] theorem writeOut_seg (e : Env) (b : Blocks) : (writeOut e b).seg = b.seg := by unfold writeOut; simp
@[simp] theorem writeOut_knock (e : Env) (b : Blocks) : (writeOut e b).knock = b.knock := by unfold writeOut; simp
@[simp] theorem writeOut_evq (e : Env) (b : Blocks) : (writeOut e b).evq = b.evq := by unfold writeOut; simp
@[simp] theorem writeOut_tap (e : Env) (b : Blocks) : (writeOut e b).tap = b.tap := by unfold writeOut; simp
@[simp] theorem writeOut_rate_cycles (e : Env) (b : Blocks) :
    (writeOut e b).rate.cycles = b.rate.cycles := by unfold writeOut; simp
@[simp] theorem writeOut_rate_wcur (e : Env) (b : Blocks) :
    (writeOut e b).rate.wcur = b.rate.wcur := by unfold writeOut; simp
@[simp] theorem writeOut_rate_rows (e : Env) (b : Blocks) :
    (writeOut e b).rate.rows = b.rate.rows := by unfold writeOut; simp
@[simp] theorem writeOut_header_op (e : Env) (b : Blocks) :
    (writeOut e b).rate.header.op = b.rate.header.op := by unfold writeOut; simp
@[simp] theorem writeOut_header_sync (e : Env) (b : Blocks) :
    (writeOut e b).rate.header.sync = b.rate.header.sync := by unfold writeOut; simp
@[simp] theorem writeOut_header_cycle (e : Env) (b : Blocks) :
    (writeOut e b).rate.header.cycle = b.rate.header.cycle := by unfold writeOut; simp
@[simp] theorem writeOut_header_rpm (e : Env) (b : Blocks) :
    (writeOut e b).rate.header.rpm = b.rate.header.rpm := by unfold writeOut; simp
@[simp] theorem writeOut_header_cut (e : Env) (b : Blocks) :
    (writeOut e b).rate.header.cut = b.rate.header.cut := by unfold writeOut; simp
@[simp] theorem writeOut_header_load (e : Env) (b : Blocks) :
    (writeOut e b).rate.header.load = b.rate.header.load := by unfold writeOut; simp
@[simp] theorem writeOut_header_surface (e : Env) (b : Blocks) :
    (writeOut e b).rate.header.surface = b.rate.header.surface := by unfold writeOut; simp
@[simp] theorem writeOut_header_flags (e : Env) (b : Blocks) :
    (writeOut e b).rate.header.flags = b.rate.header.flags := by unfold writeOut; simp
@[simp] theorem writeOut_header_producer (e : Env) (b : Blocks) :
    (writeOut e b).rate.header.producer = b.rate.header.producer := by unfold writeOut; simp
@[simp] theorem startCollection_crank (e : Env) (k : TriggerKind) (c : Option Nat) (b : Blocks) :
    (startCollection e k c b).crank = b.crank := by unfold startCollection; dsimp only; split <;> simp
@[simp] theorem startCollection_seg (e : Env) (k : TriggerKind) (c : Option Nat) (b : Blocks) :
    (startCollection e k c b).seg = b.seg := by unfold startCollection; dsimp only; split <;> simp
@[simp] theorem startCollection_knock (e : Env) (k : TriggerKind) (c : Option Nat) (b : Blocks) :
    (startCollection e k c b).knock = b.knock := by unfold startCollection; dsimp only; split <;> simp
@[simp] theorem startCollection_evq (e : Env) (k : TriggerKind) (c : Option Nat) (b : Blocks) :
    (startCollection e k c b).evq = b.evq := by unfold startCollection; dsimp only; split <;> simp
@[simp] theorem startCollection_tap (e : Env) (k : TriggerKind) (c : Option Nat) (b : Blocks) :
    (startCollection e k c b).tap = b.tap := by unfold startCollection; dsimp only; split <;> simp
@[simp] theorem startCollection_rate_cycles (e : Env) (k : TriggerKind) (c : Option Nat) (b : Blocks) :
    (startCollection e k c b).rate.cycles = b.rate.cycles := by unfold startCollection; dsimp only; split <;> simp
@[simp] theorem startCollection_rate_wcur (e : Env) (k : TriggerKind) (c : Option Nat) (b : Blocks) :
    (startCollection e k c b).rate.wcur = b.rate.wcur := by unfold startCollection; dsimp only; split <;> simp
@[simp] theorem startCollection_rate_rows (e : Env) (k : TriggerKind) (c : Option Nat) (b : Blocks) :
    (startCollection e k c b).rate.rows = b.rate.rows := by unfold startCollection; dsimp only; split <;> simp
@[simp] theorem startCollection_header_op (e : Env) (k : TriggerKind) (c : Option Nat) (b : Blocks) :
    (startCollection e k c b).rate.header.op = b.rate.header.op := by unfold startCollection; dsimp only; split <;> simp
@[simp] theorem startCollection_header_sync (e : Env) (k : TriggerKind) (c : Option Nat) (b : Blocks) :
    (startCollection e k c b).rate.header.sync = b.rate.header.sync := by unfold startCollection; dsimp only; split <;> simp
@[simp] theorem startCollection_header_cycle (e : Env) (k : TriggerKind) (c : Option Nat) (b : Blocks) :
    (startCollection e k c b).rate.header.cycle = b.rate.header.cycle := by unfold startCollection; dsimp only; split <;> simp
@[simp] theorem startCollection_header_rpm (e : Env) (k : TriggerKind) (c : Option Nat) (b : Blocks) :
    (startCollection e k c b).rate.header.rpm = b.rate.header.rpm := by unfold startCollection; dsimp only; split <;> simp
@[simp] theorem startCollection_header_cut (e : Env) (k : TriggerKind) (c : Option Nat) (b : Blocks) :
    (startCollection e k c b).rate.header.cut = b.rate.header.cut := by unfold startCollection; dsimp only; split <;> simp
@[simp] theorem startCollection_header_load (e : Env) (k : TriggerKind) (c : Option Nat) (b : Blocks) :
    (startCollection e k c b).rate.header.load = b.rate.header.load := by unfold startCollection; dsimp only; split <;> simp
@[simp] theorem startCollection_header_surface (e : Env) (k : TriggerKind) (c : Option Nat) (b : Blocks) :
    (startCollection e k c b).rate.header.surface = b.rate.header.surface := by unfold startCollection; dsimp only; split <;> simp
@[simp] theorem startCollection_header_flags (e : Env) (k : TriggerKind) (c : Option Nat) (b : Blocks) :
    (startCollection e k c b).rate.header.flags = b.rate.header.flags := by unfold startCollection; dsimp only; split <;> simp
@[simp] theorem startCollection_header_producer (e : Env) (k : TriggerKind) (c : Option Nat) (b : Blocks) :
    (startCollection e k c b).rate.header.producer = b.rate.header.producer := by unfold startCollection; dsimp only; split <;> simp
@[simp] theorem trigger_crank (e : Env) (k : TriggerKind) (c : Option Nat) (b : Blocks) :
    (trigger e k c b).crank = b.crank := by unfold trigger; (repeat' split) <;> simp
@[simp] theorem trigger_seg (e : Env) (k : TriggerKind) (c : Option Nat) (b : Blocks) :
    (trigger e k c b).seg = b.seg := by unfold trigger; (repeat' split) <;> simp
@[simp] theorem trigger_knock (e : Env) (k : TriggerKind) (c : Option Nat) (b : Blocks) :
    (trigger e k c b).knock = b.knock := by unfold trigger; (repeat' split) <;> simp
@[simp] theorem trigger_evq (e : Env) (k : TriggerKind) (c : Option Nat) (b : Blocks) :
    (trigger e k c b).evq = b.evq := by unfold trigger; (repeat' split) <;> simp
@[simp] theorem trigger_tap (e : Env) (k : TriggerKind) (c : Option Nat) (b : Blocks) :
    (trigger e k c b).tap = b.tap := by unfold trigger; (repeat' split) <;> simp
@[simp] theorem trigger_rate_cycles (e : Env) (k : TriggerKind) (c : Option Nat) (b : Blocks) :
    (trigger e k c b).rate.cycles = b.rate.cycles := by unfold trigger; (repeat' split) <;> simp
@[simp] theorem trigger_rate_wcur (e : Env) (k : TriggerKind) (c : Option Nat) (b : Blocks) :
    (trigger e k c b).rate.wcur = b.rate.wcur := by unfold trigger; (repeat' split) <;> simp
@[simp] theorem trigger_rate_rows (e : Env) (k : TriggerKind) (c : Option Nat) (b : Blocks) :
    (trigger e k c b).rate.rows = b.rate.rows := by unfold trigger; (repeat' split) <;> simp
@[simp] theorem trigger_header_op (e : Env) (k : TriggerKind) (c : Option Nat) (b : Blocks) :
    (trigger e k c b).rate.header.op = b.rate.header.op := by unfold trigger; (repeat' split) <;> simp
@[simp] theorem trigger_header_sync (e : Env) (k : TriggerKind) (c : Option Nat) (b : Blocks) :
    (trigger e k c b).rate.header.sync = b.rate.header.sync := by unfold trigger; (repeat' split) <;> simp
@[simp] theorem trigger_header_cycle (e : Env) (k : TriggerKind) (c : Option Nat) (b : Blocks) :
    (trigger e k c b).rate.header.cycle = b.rate.header.cycle := by unfold trigger; (repeat' split) <;> simp
@[simp] theorem trigger_header_rpm (e : Env) (k : TriggerKind) (c : Option Nat) (b : Blocks) :
    (trigger e k c b).rate.header.rpm = b.rate.header.rpm := by unfold trigger; (repeat' split) <;> simp
@[simp] theorem trigger_header_cut (e : Env) (k : TriggerKind) (c : Option Nat) (b : Blocks) :
    (trigger e k c b).rate.header.cut = b.rate.header.cut := by unfold trigger; (repeat' split) <;> simp
@[simp] theorem trigger_header_load (e : Env) (k : TriggerKind) (c : Option Nat) (b : Blocks) :
    (trigger e k c b).rate.header.load = b.rate.header.load := by unfold trigger; (repeat' split) <;> simp
@[simp] theorem trigger_header_surface (e : Env) (k : TriggerKind) (c : Option Nat) (b : Blocks) :
    (trigger e k c b).rate.header.surface = b.rate.header.surface := by unfold trigger; (repeat' split) <;> simp
@[simp] theorem trigger_header_flags (e : Env) (k : TriggerKind) (c : Option Nat) (b : Blocks) :
    (trigger e k c b).rate.header.flags = b.rate.header.flags := by unfold trigger; (repeat' split) <;> simp
@[simp] theorem trigger_header_producer (e : Env) (k : TriggerKind) (c : Option Nat) (b : Blocks) :
    (trigger e k c b).rate.header.producer = b.rate.header.producer := by unfold trigger; (repeat' split) <;> simp
@[simp] theorem offerEvent_crank (e : Env) (ev : Event) (b : Blocks) :
    (offerEvent e ev b).crank = b.crank := by unfold offerEvent; (repeat' split) <;> simp
@[simp] theorem offerEvent_seg (e : Env) (ev : Event) (b : Blocks) :
    (offerEvent e ev b).seg = b.seg := by unfold offerEvent; (repeat' split) <;> simp
@[simp] theorem offerEvent_knock (e : Env) (ev : Event) (b : Blocks) :
    (offerEvent e ev b).knock = b.knock := by unfold offerEvent; (repeat' split) <;> simp
@[simp] theorem offerEvent_evq (e : Env) (ev : Event) (b : Blocks) :
    (offerEvent e ev b).evq = b.evq := by unfold offerEvent; (repeat' split) <;> simp
@[simp] theorem offerEvent_tap (e : Env) (ev : Event) (b : Blocks) :
    (offerEvent e ev b).tap = b.tap := by unfold offerEvent; (repeat' split) <;> simp
@[simp] theorem offerEvent_rate_cycles (e : Env) (ev : Event) (b : Blocks) :
    (offerEvent e ev b).rate.cycles = b.rate.cycles := by unfold offerEvent; (repeat' split) <;> simp
@[simp] theorem offerEvent_rate_wcur (e : Env) (ev : Event) (b : Blocks) :
    (offerEvent e ev b).rate.wcur = b.rate.wcur := by unfold offerEvent; (repeat' split) <;> simp
@[simp] theorem offerEvent_rate_rows (e : Env) (ev : Event) (b : Blocks) :
    (offerEvent e ev b).rate.rows = b.rate.rows := by unfold offerEvent; (repeat' split) <;> simp
@[simp] theorem offerEvent_header_op (e : Env) (ev : Event) (b : Blocks) :
    (offerEvent e ev b).rate.header.op = b.rate.header.op := by unfold offerEvent; (repeat' split) <;> simp
@[simp] theorem offerEvent_header_sync (e : Env) (ev : Event) (b : Blocks) :
    (offerEvent e ev b).rate.header.sync = b.rate.header.sync := by unfold offerEvent; (repeat' split) <;> simp
@[simp] theorem offerEvent_header_cycle (e : Env) (ev : Event) (b : Blocks) :
    (offerEvent e ev b).rate.header.cycle = b.rate.header.cycle := by unfold offerEvent; (repeat' split) <;> simp
@[simp] theorem offerEvent_header_rpm (e : Env) (ev : Event) (b : Blocks) :
    (offerEvent e ev b).rate.header.rpm = b.rate.header.rpm := by unfold offerEvent; (repeat' split) <;> simp
@[simp] theorem offerEvent_header_cut (e : Env) (ev : Event) (b : Blocks) :
    (offerEvent e ev b).rate.header.cut = b.rate.header.cut := by unfold offerEvent; (repeat' split) <;> simp
@[simp] theorem offerEvent_header_load (e : Env) (ev : Event) (b : Blocks) :
    (offerEvent e ev b).rate.header.load = b.rate.header.load := by unfold offerEvent; (repeat' split) <;> simp
@[simp] theorem offerEvent_header_surface (e : Env) (ev : Event) (b : Blocks) :
    (offerEvent e ev b).rate.header.surface = b.rate.header.surface := by unfold offerEvent; (repeat' split) <;> simp
@[simp] theorem offerEvent_header_flags (e : Env) (ev : Event) (b : Blocks) :
    (offerEvent e ev b).rate.header.flags = b.rate.header.flags := by unfold offerEvent; (repeat' split) <;> simp
@[simp] theorem offerEvent_header_producer (e : Env) (ev : Event) (b : Blocks) :
    (offerEvent e ev b).rate.header.producer = b.rate.header.producer := by unfold offerEvent; (repeat' split) <;> simp
@[simp] theorem raise_crank (e : Env) (ev : Event) (b : Blocks) :
    (raise e ev b).crank = b.crank := by unfold raise; (repeat' split) <;> simp
@[simp] theorem raise_seg (e : Env) (ev : Event) (b : Blocks) :
    (raise e ev b).seg = b.seg := by unfold raise; (repeat' split) <;> simp
@[simp] theorem raise_knock (e : Env) (ev : Event) (b : Blocks) :
    (raise e ev b).knock = b.knock := by unfold raise; (repeat' split) <;> simp
@[simp] theorem raise_tap_tooth (e : Env) (ev : Event) (b : Blocks) :
    (raise e ev b).tap.tooth = b.tap.tooth := by unfold raise; (repeat' split) <;> simp
@[simp] theorem raise_tap_knock (e : Env) (ev : Event) (b : Blocks) :
    (raise e ev b).tap.knock = b.tap.knock := by unfold raise; (repeat' split) <;> simp
@[simp] theorem raise_tap_fifo (e : Env) (ev : Event) (b : Blocks) :
    (raise e ev b).tap.fifo = b.tap.fifo := by unfold raise; (repeat' split) <;> simp
@[simp] theorem raise_tap_note (e : Env) (ev : Event) (b : Blocks) :
    (raise e ev b).tap.note = b.tap.note := by unfold raise; (repeat' split) <;> simp
@[simp] theorem raise_tap_cut (e : Env) (ev : Event) (b : Blocks) :
    (raise e ev b).tap.cut = b.tap.cut := by unfold raise; (repeat' split) <;> simp
@[simp] theorem raise_tap_load (e : Env) (ev : Event) (b : Blocks) :
    (raise e ev b).tap.load = b.tap.load := by unfold raise; (repeat' split) <;> simp
@[simp] theorem raise_tap_surface (e : Env) (ev : Event) (b : Blocks) :
    (raise e ev b).tap.surface = b.tap.surface := by unfold raise; (repeat' split) <;> simp
@[simp] theorem raise_rate_cycles (e : Env) (ev : Event) (b : Blocks) :
    (raise e ev b).rate.cycles = b.rate.cycles := by unfold raise; (repeat' split) <;> simp
@[simp] theorem raise_rate_wcur (e : Env) (ev : Event) (b : Blocks) :
    (raise e ev b).rate.wcur = b.rate.wcur := by unfold raise; (repeat' split) <;> simp
@[simp] theorem raise_rate_rows (e : Env) (ev : Event) (b : Blocks) :
    (raise e ev b).rate.rows = b.rate.rows := by unfold raise; (repeat' split) <;> simp
@[simp] theorem raise_header_op (e : Env) (ev : Event) (b : Blocks) :
    (raise e ev b).rate.header.op = b.rate.header.op := by unfold raise; (repeat' split) <;> simp
@[simp] theorem raise_header_sync (e : Env) (ev : Event) (b : Blocks) :
    (raise e ev b).rate.header.sync = b.rate.header.sync := by unfold raise; (repeat' split) <;> simp
@[simp] theorem raise_header_cycle (e : Env) (ev : Event) (b : Blocks) :
    (raise e ev b).rate.header.cycle = b.rate.header.cycle := by unfold raise; (repeat' split) <;> simp
@[simp] theorem raise_header_rpm (e : Env) (ev : Event) (b : Blocks) :
    (raise e ev b).rate.header.rpm = b.rate.header.rpm := by unfold raise; (repeat' split) <;> simp
@[simp] theorem raise_header_cut (e : Env) (ev : Event) (b : Blocks) :
    (raise e ev b).rate.header.cut = b.rate.header.cut := by unfold raise; (repeat' split) <;> simp
@[simp] theorem raise_header_load (e : Env) (ev : Event) (b : Blocks) :
    (raise e ev b).rate.header.load = b.rate.header.load := by unfold raise; (repeat' split) <;> simp
@[simp] theorem raise_header_surface (e : Env) (ev : Event) (b : Blocks) :
    (raise e ev b).rate.header.surface = b.rate.header.surface := by unfold raise; (repeat' split) <;> simp
@[simp] theorem finalNotice_crank (e : Env) (r : CycleRecord) (b : Blocks) :
    (finalNotice e r b).crank = b.crank := by unfold finalNotice; (repeat' split) <;> simp
@[simp] theorem finalNotice_seg (e : Env) (r : CycleRecord) (b : Blocks) :
    (finalNotice e r b).seg = b.seg := by unfold finalNotice; (repeat' split) <;> simp
@[simp] theorem finalNotice_knock (e : Env) (r : CycleRecord) (b : Blocks) :
    (finalNotice e r b).knock = b.knock := by unfold finalNotice; (repeat' split) <;> simp
@[simp] theorem finalNotice_evq (e : Env) (r : CycleRecord) (b : Blocks) :
    (finalNotice e r b).evq = b.evq := by unfold finalNotice; (repeat' split) <;> simp
@[simp] theorem finalNotice_tap (e : Env) (r : CycleRecord) (b : Blocks) :
    (finalNotice e r b).tap = b.tap := by unfold finalNotice; (repeat' split) <;> simp
@[simp] theorem finalNotice_rate_cycles (e : Env) (r : CycleRecord) (b : Blocks) :
    (finalNotice e r b).rate.cycles = b.rate.cycles := by unfold finalNotice; (repeat' split) <;> simp
@[simp] theorem finalNotice_rate_wcur (e : Env) (r : CycleRecord) (b : Blocks) :
    (finalNotice e r b).rate.wcur = b.rate.wcur := by unfold finalNotice; (repeat' split) <;> simp
@[simp] theorem finalNotice_rate_rows (e : Env) (r : CycleRecord) (b : Blocks) :
    (finalNotice e r b).rate.rows = b.rate.rows := by unfold finalNotice; (repeat' split) <;> simp
@[simp] theorem finalNotice_header_op (e : Env) (r : CycleRecord) (b : Blocks) :
    (finalNotice e r b).rate.header.op = b.rate.header.op := by unfold finalNotice; (repeat' split) <;> simp
@[simp] theorem finalNotice_header_sync (e : Env) (r : CycleRecord) (b : Blocks) :
    (finalNotice e r b).rate.header.sync = b.rate.header.sync := by unfold finalNotice; (repeat' split) <;> simp
@[simp] theorem finalNotice_header_cycle (e : Env) (r : CycleRecord) (b : Blocks) :
    (finalNotice e r b).rate.header.cycle = b.rate.header.cycle := by unfold finalNotice; (repeat' split) <;> simp
@[simp] theorem finalNotice_header_rpm (e : Env) (r : CycleRecord) (b : Blocks) :
    (finalNotice e r b).rate.header.rpm = b.rate.header.rpm := by unfold finalNotice; (repeat' split) <;> simp
@[simp] theorem finalNotice_header_cut (e : Env) (r : CycleRecord) (b : Blocks) :
    (finalNotice e r b).rate.header.cut = b.rate.header.cut := by unfold finalNotice; (repeat' split) <;> simp
@[simp] theorem finalNotice_header_load (e : Env) (r : CycleRecord) (b : Blocks) :
    (finalNotice e r b).rate.header.load = b.rate.header.load := by unfold finalNotice; (repeat' split) <;> simp
@[simp] theorem finalNotice_header_surface (e : Env) (r : CycleRecord) (b : Blocks) :
    (finalNotice e r b).rate.header.surface = b.rate.header.surface := by unfold finalNotice; (repeat' split) <;> simp
@[simp] theorem finalNotice_header_flags (e : Env) (r : CycleRecord) (b : Blocks) :
    (finalNotice e r b).rate.header.flags = b.rate.header.flags := by unfold finalNotice; (repeat' split) <;> simp
@[simp] theorem finalNotice_header_producer (e : Env) (r : CycleRecord) (b : Blocks) :
    (finalNotice e r b).rate.header.producer = b.rate.header.producer := by unfold finalNotice; (repeat' split) <;> simp
@[simp] theorem frzLoss_crank (e : Env) (b : Blocks) :
    (frzLoss e b).crank = b.crank := by unfold frzLoss; (repeat' split) <;> simp
@[simp] theorem frzLoss_seg (e : Env) (b : Blocks) :
    (frzLoss e b).seg = b.seg := by unfold frzLoss; (repeat' split) <;> simp
@[simp] theorem frzLoss_knock (e : Env) (b : Blocks) :
    (frzLoss e b).knock = b.knock := by unfold frzLoss; (repeat' split) <;> simp
@[simp] theorem frzLoss_evq (e : Env) (b : Blocks) :
    (frzLoss e b).evq = b.evq := by unfold frzLoss; (repeat' split) <;> simp
@[simp] theorem frzLoss_tap (e : Env) (b : Blocks) :
    (frzLoss e b).tap = b.tap := by unfold frzLoss; (repeat' split) <;> simp
@[simp] theorem frzLoss_rate_cycles (e : Env) (b : Blocks) :
    (frzLoss e b).rate.cycles = b.rate.cycles := by unfold frzLoss; (repeat' split) <;> simp
@[simp] theorem frzLoss_rate_wcur (e : Env) (b : Blocks) :
    (frzLoss e b).rate.wcur = b.rate.wcur := by unfold frzLoss; (repeat' split) <;> simp
@[simp] theorem frzLoss_rate_rows (e : Env) (b : Blocks) :
    (frzLoss e b).rate.rows = b.rate.rows := by unfold frzLoss; (repeat' split) <;> simp
@[simp] theorem frzLoss_header_op (e : Env) (b : Blocks) :
    (frzLoss e b).rate.header.op = b.rate.header.op := by unfold frzLoss; (repeat' split) <;> simp
@[simp] theorem frzLoss_header_sync (e : Env) (b : Blocks) :
    (frzLoss e b).rate.header.sync = b.rate.header.sync := by unfold frzLoss; (repeat' split) <;> simp
@[simp] theorem frzLoss_header_cycle (e : Env) (b : Blocks) :
    (frzLoss e b).rate.header.cycle = b.rate.header.cycle := by unfold frzLoss; (repeat' split) <;> simp
@[simp] theorem frzLoss_header_rpm (e : Env) (b : Blocks) :
    (frzLoss e b).rate.header.rpm = b.rate.header.rpm := by unfold frzLoss; (repeat' split) <;> simp
@[simp] theorem frzLoss_header_cut (e : Env) (b : Blocks) :
    (frzLoss e b).rate.header.cut = b.rate.header.cut := by unfold frzLoss; (repeat' split) <;> simp
@[simp] theorem frzLoss_header_load (e : Env) (b : Blocks) :
    (frzLoss e b).rate.header.load = b.rate.header.load := by unfold frzLoss; (repeat' split) <;> simp
@[simp] theorem frzLoss_header_surface (e : Env) (b : Blocks) :
    (frzLoss e b).rate.header.surface = b.rate.header.surface := by unfold frzLoss; (repeat' split) <;> simp
@[simp] theorem frzLoss_header_flags (e : Env) (b : Blocks) :
    (frzLoss e b).rate.header.flags = b.rate.header.flags := by unfold frzLoss; (repeat' split) <;> simp
@[simp] theorem frzLoss_header_producer (e : Env) (b : Blocks) :
    (frzLoss e b).rate.header.producer = b.rate.header.producer := by unfold frzLoss; (repeat' split) <;> simp
@[simp] theorem abandonCollection_crank (e : Env) (b : Blocks) :
    (abandonCollection e b).crank = b.crank := by unfold abandonCollection; simp
@[simp] theorem abandonCollection_seg (e : Env) (b : Blocks) :
    (abandonCollection e b).seg = b.seg := by unfold abandonCollection; simp
@[simp] theorem abandonCollection_knock (e : Env) (b : Blocks) :
    (abandonCollection e b).knock = b.knock := by unfold abandonCollection; simp
@[simp] theorem abandonCollection_evq (e : Env) (b : Blocks) :
    (abandonCollection e b).evq = b.evq := by unfold abandonCollection; simp
@[simp] theorem abandonCollection_tap (e : Env) (b : Blocks) :
    (abandonCollection e b).tap = b.tap := by unfold abandonCollection; simp
@[simp] theorem abandonCollection_rate_cycles (e : Env) (b : Blocks) :
    (abandonCollection e b).rate.cycles = b.rate.cycles := by unfold abandonCollection; simp
@[simp] theorem abandonCollection_rate_wcur (e : Env) (b : Blocks) :
    (abandonCollection e b).rate.wcur = b.rate.wcur := by unfold abandonCollection; simp
@[simp] theorem abandonCollection_rate_rows (e : Env) (b : Blocks) :
    (abandonCollection e b).rate.rows = b.rate.rows := by unfold abandonCollection; simp
@[simp] theorem abandonCollection_header_op (e : Env) (b : Blocks) :
    (abandonCollection e b).rate.header.op = b.rate.header.op := by unfold abandonCollection; simp
@[simp] theorem abandonCollection_header_sync (e : Env) (b : Blocks) :
    (abandonCollection e b).rate.header.sync = b.rate.header.sync := by unfold abandonCollection; simp
@[simp] theorem abandonCollection_header_cycle (e : Env) (b : Blocks) :
    (abandonCollection e b).rate.header.cycle = b.rate.header.cycle := by unfold abandonCollection; simp
@[simp] theorem abandonCollection_header_rpm (e : Env) (b : Blocks) :
    (abandonCollection e b).rate.header.rpm = b.rate.header.rpm := by unfold abandonCollection; simp
@[simp] theorem abandonCollection_header_cut (e : Env) (b : Blocks) :
    (abandonCollection e b).rate.header.cut = b.rate.header.cut := by unfold abandonCollection; simp
@[simp] theorem abandonCollection_header_load (e : Env) (b : Blocks) :
    (abandonCollection e b).rate.header.load = b.rate.header.load := by unfold abandonCollection; simp
@[simp] theorem abandonCollection_header_surface (e : Env) (b : Blocks) :
    (abandonCollection e b).rate.header.surface = b.rate.header.surface := by unfold abandonCollection; simp
@[simp] theorem abandonCollection_header_flags (e : Env) (b : Blocks) :
    (abandonCollection e b).rate.header.flags = b.rate.header.flags := by unfold abandonCollection; simp
@[simp] theorem abandonCollection_header_producer (e : Env) (b : Blocks) :
    (abandonCollection e b).rate.header.producer = b.rate.header.producer := by unfold abandonCollection; simp
@[simp] theorem frameHeld_crank (e : Env) (b : Blocks) : (frameHeld e b).crank = b.crank := by unfold frameHeld; simp
@[simp] theorem frameHeld_seg (e : Env) (b : Blocks) : (frameHeld e b).seg = b.seg := by unfold frameHeld; simp
@[simp] theorem frameHeld_knock (e : Env) (b : Blocks) : (frameHeld e b).knock = b.knock := by unfold frameHeld; simp
@[simp] theorem frameHeld_evq (e : Env) (b : Blocks) : (frameHeld e b).evq = b.evq := by unfold frameHeld; simp
@[simp] theorem frameHeld_tap (e : Env) (b : Blocks) : (frameHeld e b).tap = b.tap := by unfold frameHeld; simp
@[simp] theorem frameHeld_rate_cycles (e : Env) (b : Blocks) :
    (frameHeld e b).rate.cycles = b.rate.cycles := by unfold frameHeld; simp
@[simp] theorem frameHeld_rate_wcur (e : Env) (b : Blocks) :
    (frameHeld e b).rate.wcur = b.rate.wcur := by unfold frameHeld; simp
@[simp] theorem frameHeld_rate_rows (e : Env) (b : Blocks) :
    (frameHeld e b).rate.rows = b.rate.rows := by unfold frameHeld; simp
@[simp] theorem frameHeld_header_op (e : Env) (b : Blocks) :
    (frameHeld e b).rate.header.op = b.rate.header.op := by unfold frameHeld; simp
@[simp] theorem frameHeld_header_sync (e : Env) (b : Blocks) :
    (frameHeld e b).rate.header.sync = b.rate.header.sync := by unfold frameHeld; simp
@[simp] theorem frameHeld_header_cycle (e : Env) (b : Blocks) :
    (frameHeld e b).rate.header.cycle = b.rate.header.cycle := by unfold frameHeld; simp
@[simp] theorem frameHeld_header_rpm (e : Env) (b : Blocks) :
    (frameHeld e b).rate.header.rpm = b.rate.header.rpm := by unfold frameHeld; simp
@[simp] theorem frameHeld_header_cut (e : Env) (b : Blocks) :
    (frameHeld e b).rate.header.cut = b.rate.header.cut := by unfold frameHeld; simp
@[simp] theorem frameHeld_header_load (e : Env) (b : Blocks) :
    (frameHeld e b).rate.header.load = b.rate.header.load := by unfold frameHeld; simp
@[simp] theorem frameHeld_header_surface (e : Env) (b : Blocks) :
    (frameHeld e b).rate.header.surface = b.rate.header.surface := by unfold frameHeld; simp
@[simp] theorem frameHeld_header_flags (e : Env) (b : Blocks) :
    (frameHeld e b).rate.header.flags = b.rate.header.flags := by unfold frameHeld; simp
@[simp] theorem frameHeld_header_producer (e : Env) (b : Blocks) :
    (frameHeld e b).rate.header.producer = b.rate.header.producer := by unfold frameHeld; simp
@[simp] theorem releaseFrame_crank (e : Env) (b : Blocks) :
    (releaseFrame e b).crank = b.crank := by unfold releaseFrame; simp
@[simp] theorem releaseFrame_seg (e : Env) (b : Blocks) :
    (releaseFrame e b).seg = b.seg := by unfold releaseFrame; simp
@[simp] theorem releaseFrame_knock (e : Env) (b : Blocks) :
    (releaseFrame e b).knock = b.knock := by unfold releaseFrame; simp
@[simp] theorem releaseFrame_evq (e : Env) (b : Blocks) :
    (releaseFrame e b).evq = b.evq := by unfold releaseFrame; simp
@[simp] theorem releaseFrame_tap (e : Env) (b : Blocks) :
    (releaseFrame e b).tap = b.tap := by unfold releaseFrame; simp
@[simp] theorem releaseFrame_rate_cycles (e : Env) (b : Blocks) :
    (releaseFrame e b).rate.cycles = b.rate.cycles := by unfold releaseFrame; simp
@[simp] theorem releaseFrame_rate_wcur (e : Env) (b : Blocks) :
    (releaseFrame e b).rate.wcur = b.rate.wcur := by unfold releaseFrame; simp
@[simp] theorem releaseFrame_rate_rows (e : Env) (b : Blocks) :
    (releaseFrame e b).rate.rows = b.rate.rows := by unfold releaseFrame; simp
@[simp] theorem releaseFrame_header_op (e : Env) (b : Blocks) :
    (releaseFrame e b).rate.header.op = b.rate.header.op := by unfold releaseFrame; simp
@[simp] theorem releaseFrame_header_sync (e : Env) (b : Blocks) :
    (releaseFrame e b).rate.header.sync = b.rate.header.sync := by unfold releaseFrame; simp
@[simp] theorem releaseFrame_header_cycle (e : Env) (b : Blocks) :
    (releaseFrame e b).rate.header.cycle = b.rate.header.cycle := by unfold releaseFrame; simp
@[simp] theorem releaseFrame_header_rpm (e : Env) (b : Blocks) :
    (releaseFrame e b).rate.header.rpm = b.rate.header.rpm := by unfold releaseFrame; simp
@[simp] theorem releaseFrame_header_cut (e : Env) (b : Blocks) :
    (releaseFrame e b).rate.header.cut = b.rate.header.cut := by unfold releaseFrame; simp
@[simp] theorem releaseFrame_header_load (e : Env) (b : Blocks) :
    (releaseFrame e b).rate.header.load = b.rate.header.load := by unfold releaseFrame; simp
@[simp] theorem releaseFrame_header_surface (e : Env) (b : Blocks) :
    (releaseFrame e b).rate.header.surface = b.rate.header.surface := by unfold releaseFrame; simp
@[simp] theorem releaseFrame_header_flags (e : Env) (b : Blocks) :
    (releaseFrame e b).rate.header.flags = b.rate.header.flags := by unfold releaseFrame; simp
@[simp] theorem releaseFrame_header_producer (e : Env) (b : Blocks) :
    (releaseFrame e b).rate.header.producer = b.rate.header.producer := by unfold releaseFrame; simp
@[simp] theorem modeWrite_crank (e : Env) (m : FreezeMode) (b : Blocks) :
    (modeWrite e m b).crank = b.crank := by unfold modeWrite; dsimp only; (repeat' split) <;> simp
@[simp] theorem modeWrite_seg (e : Env) (m : FreezeMode) (b : Blocks) :
    (modeWrite e m b).seg = b.seg := by unfold modeWrite; dsimp only; (repeat' split) <;> simp
@[simp] theorem modeWrite_knock (e : Env) (m : FreezeMode) (b : Blocks) :
    (modeWrite e m b).knock = b.knock := by unfold modeWrite; dsimp only; (repeat' split) <;> simp
@[simp] theorem modeWrite_evq (e : Env) (m : FreezeMode) (b : Blocks) :
    (modeWrite e m b).evq = b.evq := by unfold modeWrite; dsimp only; (repeat' split) <;> simp
@[simp] theorem modeWrite_tap (e : Env) (m : FreezeMode) (b : Blocks) :
    (modeWrite e m b).tap = b.tap := by unfold modeWrite; dsimp only; (repeat' split) <;> simp
@[simp] theorem modeWrite_rate_cycles (e : Env) (m : FreezeMode) (b : Blocks) :
    (modeWrite e m b).rate.cycles = b.rate.cycles := by unfold modeWrite; dsimp only; (repeat' split) <;> simp
@[simp] theorem modeWrite_rate_wcur (e : Env) (m : FreezeMode) (b : Blocks) :
    (modeWrite e m b).rate.wcur = b.rate.wcur := by unfold modeWrite; dsimp only; (repeat' split) <;> simp
@[simp] theorem modeWrite_rate_rows (e : Env) (m : FreezeMode) (b : Blocks) :
    (modeWrite e m b).rate.rows = b.rate.rows := by unfold modeWrite; dsimp only; (repeat' split) <;> simp
@[simp] theorem modeWrite_header_op (e : Env) (m : FreezeMode) (b : Blocks) :
    (modeWrite e m b).rate.header.op = b.rate.header.op := by unfold modeWrite; dsimp only; (repeat' split) <;> simp
@[simp] theorem modeWrite_header_sync (e : Env) (m : FreezeMode) (b : Blocks) :
    (modeWrite e m b).rate.header.sync = b.rate.header.sync := by unfold modeWrite; dsimp only; (repeat' split) <;> simp
@[simp] theorem modeWrite_header_cycle (e : Env) (m : FreezeMode) (b : Blocks) :
    (modeWrite e m b).rate.header.cycle = b.rate.header.cycle := by unfold modeWrite; dsimp only; (repeat' split) <;> simp
@[simp] theorem modeWrite_header_rpm (e : Env) (m : FreezeMode) (b : Blocks) :
    (modeWrite e m b).rate.header.rpm = b.rate.header.rpm := by unfold modeWrite; dsimp only; (repeat' split) <;> simp
@[simp] theorem modeWrite_header_cut (e : Env) (m : FreezeMode) (b : Blocks) :
    (modeWrite e m b).rate.header.cut = b.rate.header.cut := by unfold modeWrite; dsimp only; (repeat' split) <;> simp
@[simp] theorem modeWrite_header_load (e : Env) (m : FreezeMode) (b : Blocks) :
    (modeWrite e m b).rate.header.load = b.rate.header.load := by unfold modeWrite; dsimp only; (repeat' split) <;> simp
@[simp] theorem modeWrite_header_surface (e : Env) (m : FreezeMode) (b : Blocks) :
    (modeWrite e m b).rate.header.surface = b.rate.header.surface := by unfold modeWrite; dsimp only; (repeat' split) <;> simp
@[simp] theorem modeWrite_header_flags (e : Env) (m : FreezeMode) (b : Blocks) :
    (modeWrite e m b).rate.header.flags = b.rate.header.flags := by unfold modeWrite; dsimp only; (repeat' split) <;> simp
@[simp] theorem modeWrite_header_producer (e : Env) (m : FreezeMode) (b : Blocks) :
    (modeWrite e m b).rate.header.producer = b.rate.header.producer := by unfold modeWrite; dsimp only; (repeat' split) <;> simp
@[simp] theorem frzStop_crank (e : Env) (b : Blocks) :
    (frzStop e b).crank = b.crank := by unfold frzStop; (repeat' split) <;> simp
@[simp] theorem frzStop_seg (e : Env) (b : Blocks) :
    (frzStop e b).seg = b.seg := by unfold frzStop; (repeat' split) <;> simp
@[simp] theorem frzStop_knock (e : Env) (b : Blocks) :
    (frzStop e b).knock = b.knock := by unfold frzStop; (repeat' split) <;> simp
@[simp] theorem frzStop_evq (e : Env) (b : Blocks) :
    (frzStop e b).evq = b.evq := by unfold frzStop; (repeat' split) <;> simp
@[simp] theorem frzStop_tap (e : Env) (b : Blocks) :
    (frzStop e b).tap = b.tap := by unfold frzStop; (repeat' split) <;> simp
@[simp] theorem frzStop_rate_cycles (e : Env) (b : Blocks) :
    (frzStop e b).rate.cycles = b.rate.cycles := by unfold frzStop; (repeat' split) <;> simp
@[simp] theorem frzStop_rate_wcur (e : Env) (b : Blocks) :
    (frzStop e b).rate.wcur = b.rate.wcur := by unfold frzStop; (repeat' split) <;> simp
@[simp] theorem frzStop_rate_rows (e : Env) (b : Blocks) :
    (frzStop e b).rate.rows = b.rate.rows := by unfold frzStop; (repeat' split) <;> simp
@[simp] theorem frzStop_header_op (e : Env) (b : Blocks) :
    (frzStop e b).rate.header.op = b.rate.header.op := by unfold frzStop; (repeat' split) <;> simp
@[simp] theorem frzStop_header_sync (e : Env) (b : Blocks) :
    (frzStop e b).rate.header.sync = b.rate.header.sync := by unfold frzStop; (repeat' split) <;> simp
@[simp] theorem frzStop_header_cycle (e : Env) (b : Blocks) :
    (frzStop e b).rate.header.cycle = b.rate.header.cycle := by unfold frzStop; (repeat' split) <;> simp
@[simp] theorem frzStop_header_rpm (e : Env) (b : Blocks) :
    (frzStop e b).rate.header.rpm = b.rate.header.rpm := by unfold frzStop; (repeat' split) <;> simp
@[simp] theorem frzStop_header_cut (e : Env) (b : Blocks) :
    (frzStop e b).rate.header.cut = b.rate.header.cut := by unfold frzStop; (repeat' split) <;> simp
@[simp] theorem frzStop_header_load (e : Env) (b : Blocks) :
    (frzStop e b).rate.header.load = b.rate.header.load := by unfold frzStop; (repeat' split) <;> simp
@[simp] theorem frzStop_header_surface (e : Env) (b : Blocks) :
    (frzStop e b).rate.header.surface = b.rate.header.surface := by unfold frzStop; (repeat' split) <;> simp
@[simp] theorem frzStop_header_flags (e : Env) (b : Blocks) :
    (frzStop e b).rate.header.flags = b.rate.header.flags := by unfold frzStop; (repeat' split) <;> simp
@[simp] theorem frzStop_header_producer (e : Env) (b : Blocks) :
    (frzStop e b).rate.header.producer = b.rate.header.producer := by unfold frzStop; (repeat' split) <;> simp
@[simp] theorem slotReady_crank (op : OpState) (n : Nat) (b : Blocks) : (slotReady op n b).crank = b.crank := rfl
@[simp] theorem slotReady_seg (op : OpState) (n : Nat) (b : Blocks) : (slotReady op n b).seg = b.seg := rfl
@[simp] theorem slotReady_knock (op : OpState) (n : Nat) (b : Blocks) : (slotReady op n b).knock = b.knock := rfl
@[simp] theorem slotReady_frz (op : OpState) (n : Nat) (b : Blocks) : (slotReady op n b).frz = b.frz := rfl
@[simp] theorem slotReady_rpw (op : OpState) (n : Nat) (b : Blocks) : (slotReady op n b).rpw = b.rpw := rfl
@[simp] theorem slotReady_tap (op : OpState) (n : Nat) (b : Blocks) : (slotReady op n b).tap = b.tap := rfl
@[simp] theorem slotReady_rate (op : OpState) (n : Nat) (b : Blocks) : (slotReady op n b).rate = b.rate := rfl
@[simp] theorem releaseSlot_crank (op : OpState) (n : Nat) (b : Blocks) : (releaseSlot op n b).crank = b.crank := rfl
@[simp] theorem releaseSlot_seg (op : OpState) (n : Nat) (b : Blocks) : (releaseSlot op n b).seg = b.seg := rfl
@[simp] theorem releaseSlot_knock (op : OpState) (n : Nat) (b : Blocks) : (releaseSlot op n b).knock = b.knock := rfl
@[simp] theorem releaseSlot_frz (op : OpState) (n : Nat) (b : Blocks) : (releaseSlot op n b).frz = b.frz := rfl
@[simp] theorem releaseSlot_rpw (op : OpState) (n : Nat) (b : Blocks) : (releaseSlot op n b).rpw = b.rpw := rfl
@[simp] theorem releaseSlot_tap (op : OpState) (n : Nat) (b : Blocks) : (releaseSlot op n b).tap = b.tap := rfl
@[simp] theorem releaseSlot_rate (op : OpState) (n : Nat) (b : Blocks) : (releaseSlot op n b).rate = b.rate := rfl
@[simp] theorem takeAlertMask_crank (e : Env) (b : Blocks) : (takeAlertMask e b).crank = b.crank := rfl
@[simp] theorem takeAlertMask_seg (e : Env) (b : Blocks) : (takeAlertMask e b).seg = b.seg := rfl
@[simp] theorem takeAlertMask_knock (e : Env) (b : Blocks) : (takeAlertMask e b).knock = b.knock := rfl
@[simp] theorem takeAlertMask_frz (e : Env) (b : Blocks) : (takeAlertMask e b).frz = b.frz := rfl
@[simp] theorem takeAlertMask_rpw (e : Env) (b : Blocks) : (takeAlertMask e b).rpw = b.rpw := rfl
@[simp] theorem takeAlertMask_tap (e : Env) (b : Blocks) : (takeAlertMask e b).tap = b.tap := rfl
@[simp] theorem takeAlertMask_rate (e : Env) (b : Blocks) : (takeAlertMask e b).rate = b.rate := rfl

/-! ### RATE -/

@[simp] theorem raiseIf_crank (e : Env) (c : Bool) (ev : Event) (b : Blocks) :
    (raiseIf e c ev b).crank = b.crank := by unfold raiseIf; (repeat' split) <;> simp
@[simp] theorem raiseIf_seg (e : Env) (c : Bool) (ev : Event) (b : Blocks) :
    (raiseIf e c ev b).seg = b.seg := by unfold raiseIf; (repeat' split) <;> simp
@[simp] theorem raiseIf_knock (e : Env) (c : Bool) (ev : Event) (b : Blocks) :
    (raiseIf e c ev b).knock = b.knock := by unfold raiseIf; (repeat' split) <;> simp
@[simp] theorem raiseIf_tap_tooth (e : Env) (c : Bool) (ev : Event) (b : Blocks) :
    (raiseIf e c ev b).tap.tooth = b.tap.tooth := by unfold raiseIf; (repeat' split) <;> simp
@[simp] theorem raiseIf_tap_knock (e : Env) (c : Bool) (ev : Event) (b : Blocks) :
    (raiseIf e c ev b).tap.knock = b.tap.knock := by unfold raiseIf; (repeat' split) <;> simp
@[simp] theorem raiseIf_tap_fifo (e : Env) (c : Bool) (ev : Event) (b : Blocks) :
    (raiseIf e c ev b).tap.fifo = b.tap.fifo := by unfold raiseIf; (repeat' split) <;> simp
@[simp] theorem raiseIf_tap_note (e : Env) (c : Bool) (ev : Event) (b : Blocks) :
    (raiseIf e c ev b).tap.note = b.tap.note := by unfold raiseIf; (repeat' split) <;> simp
@[simp] theorem raiseIf_tap_cut (e : Env) (c : Bool) (ev : Event) (b : Blocks) :
    (raiseIf e c ev b).tap.cut = b.tap.cut := by unfold raiseIf; (repeat' split) <;> simp
@[simp] theorem raiseIf_tap_load (e : Env) (c : Bool) (ev : Event) (b : Blocks) :
    (raiseIf e c ev b).tap.load = b.tap.load := by unfold raiseIf; (repeat' split) <;> simp
@[simp] theorem raiseIf_tap_surface (e : Env) (c : Bool) (ev : Event) (b : Blocks) :
    (raiseIf e c ev b).tap.surface = b.tap.surface := by unfold raiseIf; (repeat' split) <;> simp
@[simp] theorem raiseIf_rate_cycles (e : Env) (c : Bool) (ev : Event) (b : Blocks) :
    (raiseIf e c ev b).rate.cycles = b.rate.cycles := by unfold raiseIf; (repeat' split) <;> simp
@[simp] theorem raiseIf_rate_wcur (e : Env) (c : Bool) (ev : Event) (b : Blocks) :
    (raiseIf e c ev b).rate.wcur = b.rate.wcur := by unfold raiseIf; (repeat' split) <;> simp
@[simp] theorem raiseIf_rate_rows (e : Env) (c : Bool) (ev : Event) (b : Blocks) :
    (raiseIf e c ev b).rate.rows = b.rate.rows := by unfold raiseIf; (repeat' split) <;> simp
@[simp] theorem raiseIf_header_op (e : Env) (c : Bool) (ev : Event) (b : Blocks) :
    (raiseIf e c ev b).rate.header.op = b.rate.header.op := by unfold raiseIf; (repeat' split) <;> simp
@[simp] theorem raiseIf_header_sync (e : Env) (c : Bool) (ev : Event) (b : Blocks) :
    (raiseIf e c ev b).rate.header.sync = b.rate.header.sync := by unfold raiseIf; (repeat' split) <;> simp
@[simp] theorem raiseIf_header_cycle (e : Env) (c : Bool) (ev : Event) (b : Blocks) :
    (raiseIf e c ev b).rate.header.cycle = b.rate.header.cycle := by unfold raiseIf; (repeat' split) <;> simp
@[simp] theorem raiseIf_header_rpm (e : Env) (c : Bool) (ev : Event) (b : Blocks) :
    (raiseIf e c ev b).rate.header.rpm = b.rate.header.rpm := by unfold raiseIf; (repeat' split) <;> simp
@[simp] theorem raiseIf_header_cut (e : Env) (c : Bool) (ev : Event) (b : Blocks) :
    (raiseIf e c ev b).rate.header.cut = b.rate.header.cut := by unfold raiseIf; (repeat' split) <;> simp
@[simp] theorem raiseIf_header_load (e : Env) (c : Bool) (ev : Event) (b : Blocks) :
    (raiseIf e c ev b).rate.header.load = b.rate.header.load := by unfold raiseIf; (repeat' split) <;> simp
@[simp] theorem raiseIf_header_surface (e : Env) (c : Bool) (ev : Event) (b : Blocks) :
    (raiseIf e c ev b).rate.header.surface = b.rate.header.surface := by unfold raiseIf; (repeat' split) <;> simp
@[simp] theorem raiseOption_crank (e : Env) (o : Option Event) (b : Blocks) :
    (raiseOption e o b).crank = b.crank := by unfold raiseOption; (repeat' split) <;> simp
@[simp] theorem raiseOption_seg (e : Env) (o : Option Event) (b : Blocks) :
    (raiseOption e o b).seg = b.seg := by unfold raiseOption; (repeat' split) <;> simp
@[simp] theorem raiseOption_knock (e : Env) (o : Option Event) (b : Blocks) :
    (raiseOption e o b).knock = b.knock := by unfold raiseOption; (repeat' split) <;> simp
@[simp] theorem raiseOption_tap_tooth (e : Env) (o : Option Event) (b : Blocks) :
    (raiseOption e o b).tap.tooth = b.tap.tooth := by unfold raiseOption; (repeat' split) <;> simp
@[simp] theorem raiseOption_tap_knock (e : Env) (o : Option Event) (b : Blocks) :
    (raiseOption e o b).tap.knock = b.tap.knock := by unfold raiseOption; (repeat' split) <;> simp
@[simp] theorem raiseOption_tap_fifo (e : Env) (o : Option Event) (b : Blocks) :
    (raiseOption e o b).tap.fifo = b.tap.fifo := by unfold raiseOption; (repeat' split) <;> simp
@[simp] theorem raiseOption_tap_note (e : Env) (o : Option Event) (b : Blocks) :
    (raiseOption e o b).tap.note = b.tap.note := by unfold raiseOption; (repeat' split) <;> simp
@[simp] theorem raiseOption_tap_cut (e : Env) (o : Option Event) (b : Blocks) :
    (raiseOption e o b).tap.cut = b.tap.cut := by unfold raiseOption; (repeat' split) <;> simp
@[simp] theorem raiseOption_tap_load (e : Env) (o : Option Event) (b : Blocks) :
    (raiseOption e o b).tap.load = b.tap.load := by unfold raiseOption; (repeat' split) <;> simp
@[simp] theorem raiseOption_tap_surface (e : Env) (o : Option Event) (b : Blocks) :
    (raiseOption e o b).tap.surface = b.tap.surface := by unfold raiseOption; (repeat' split) <;> simp
@[simp] theorem raiseOption_rate_cycles (e : Env) (o : Option Event) (b : Blocks) :
    (raiseOption e o b).rate.cycles = b.rate.cycles := by unfold raiseOption; (repeat' split) <;> simp
@[simp] theorem raiseOption_rate_wcur (e : Env) (o : Option Event) (b : Blocks) :
    (raiseOption e o b).rate.wcur = b.rate.wcur := by unfold raiseOption; (repeat' split) <;> simp
@[simp] theorem raiseOption_rate_rows (e : Env) (o : Option Event) (b : Blocks) :
    (raiseOption e o b).rate.rows = b.rate.rows := by unfold raiseOption; (repeat' split) <;> simp
@[simp] theorem raiseOption_header_op (e : Env) (o : Option Event) (b : Blocks) :
    (raiseOption e o b).rate.header.op = b.rate.header.op := by unfold raiseOption; (repeat' split) <;> simp
@[simp] theorem raiseOption_header_sync (e : Env) (o : Option Event) (b : Blocks) :
    (raiseOption e o b).rate.header.sync = b.rate.header.sync := by unfold raiseOption; (repeat' split) <;> simp
@[simp] theorem raiseOption_header_cycle (e : Env) (o : Option Event) (b : Blocks) :
    (raiseOption e o b).rate.header.cycle = b.rate.header.cycle := by unfold raiseOption; (repeat' split) <;> simp
@[simp] theorem raiseOption_header_rpm (e : Env) (o : Option Event) (b : Blocks) :
    (raiseOption e o b).rate.header.rpm = b.rate.header.rpm := by unfold raiseOption; (repeat' split) <;> simp
@[simp] theorem raiseOption_header_cut (e : Env) (o : Option Event) (b : Blocks) :
    (raiseOption e o b).rate.header.cut = b.rate.header.cut := by unfold raiseOption; (repeat' split) <;> simp
@[simp] theorem raiseOption_header_load (e : Env) (o : Option Event) (b : Blocks) :
    (raiseOption e o b).rate.header.load = b.rate.header.load := by unfold raiseOption; (repeat' split) <;> simp
@[simp] theorem raiseOption_header_surface (e : Env) (o : Option Event) (b : Blocks) :
    (raiseOption e o b).rate.header.surface = b.rate.header.surface := by unfold raiseOption; (repeat' split) <;> simp
@[simp] theorem takeSegmentResult_crank (e : Env) (r : SegmentResult) (b : Blocks) :
    (takeSegmentResult e r b).crank = b.crank := by unfold takeSegmentResult; simp
@[simp] theorem takeSegmentResult_seg (e : Env) (r : SegmentResult) (b : Blocks) :
    (takeSegmentResult e r b).seg = b.seg := by unfold takeSegmentResult; simp
@[simp] theorem takeSegmentResult_knock (e : Env) (r : SegmentResult) (b : Blocks) :
    (takeSegmentResult e r b).knock = b.knock := by unfold takeSegmentResult; simp
@[simp] theorem takeSegmentResult_evq (e : Env) (r : SegmentResult) (b : Blocks) :
    (takeSegmentResult e r b).evq = b.evq := by unfold takeSegmentResult; simp
@[simp] theorem takeSegmentResult_frz (e : Env) (r : SegmentResult) (b : Blocks) :
    (takeSegmentResult e r b).frz = b.frz := by unfold takeSegmentResult; simp
@[simp] theorem takeSegmentResult_tap (e : Env) (r : SegmentResult) (b : Blocks) :
    (takeSegmentResult e r b).tap = b.tap := by unfold takeSegmentResult; simp
@[simp] theorem takeSegmentResult_rate_cycles (e : Env) (r : SegmentResult) (b : Blocks) :
    (takeSegmentResult e r b).rate.cycles = b.rate.cycles := by unfold takeSegmentResult; simp
@[simp] theorem takeSegmentResult_rate_wcur (e : Env) (r : SegmentResult) (b : Blocks) :
    (takeSegmentResult e r b).rate.wcur = b.rate.wcur := by unfold takeSegmentResult; simp
@[simp] theorem takeSegmentResult_header_op (e : Env) (r : SegmentResult) (b : Blocks) :
    (takeSegmentResult e r b).rate.header.op = b.rate.header.op := by
  unfold takeSegmentResult
  refine Eq.trans (tellHeader_keeps e _ _ (fun h : Header => h.op) (fun _ => rfl) (fun _ _ => rfl)) ?_
  simp
@[simp] theorem takeSegmentResult_header_sync (e : Env) (r : SegmentResult) (b : Blocks) :
    (takeSegmentResult e r b).rate.header.sync = b.rate.header.sync := by
  unfold takeSegmentResult
  refine Eq.trans (tellHeader_keeps e _ _ (fun h : Header => h.sync) (fun _ => rfl) (fun _ _ => rfl)) ?_
  simp
@[simp] theorem takeSegmentResult_header_cycle (e : Env) (r : SegmentResult) (b : Blocks) :
    (takeSegmentResult e r b).rate.header.cycle = b.rate.header.cycle := by
  unfold takeSegmentResult
  refine Eq.trans (tellHeader_keeps e _ _ (fun h : Header => h.cycle) (fun _ => rfl) (fun _ _ => rfl)) ?_
  simp
@[simp] theorem takeSegmentResult_header_cut (e : Env) (r : SegmentResult) (b : Blocks) :
    (takeSegmentResult e r b).rate.header.cut = b.rate.header.cut := by
  unfold takeSegmentResult
  refine Eq.trans (tellHeader_keeps e _ _ (fun h : Header => h.cut) (fun _ => rfl) (fun _ _ => rfl)) ?_
  simp
@[simp] theorem takeSegmentResult_header_load (e : Env) (r : SegmentResult) (b : Blocks) :
    (takeSegmentResult e r b).rate.header.load = b.rate.header.load := by
  unfold takeSegmentResult
  refine Eq.trans (tellHeader_keeps e _ _ (fun h : Header => h.load) (fun _ => rfl) (fun _ _ => rfl)) ?_
  simp
@[simp] theorem takeSegmentResult_header_surface (e : Env) (r : SegmentResult) (b : Blocks) :
    (takeSegmentResult e r b).rate.header.surface = b.rate.header.surface := by
  unfold takeSegmentResult
  refine Eq.trans (tellHeader_keeps e _ _ (fun h : Header => h.surface) (fun _ => rfl) (fun _ _ => rfl)) ?_
  simp
@[simp] theorem takeSegmentResult_header_flags (e : Env) (r : SegmentResult) (b : Blocks) :
    (takeSegmentResult e r b).rate.header.flags = b.rate.header.flags := by
  unfold takeSegmentResult
  refine Eq.trans (tellHeader_keeps e _ _ (fun h : Header => h.flags) (fun _ => rfl) (fun _ _ => rfl)) ?_
  simp
@[simp] theorem takeSegmentResult_header_producer (e : Env) (r : SegmentResult) (b : Blocks) :
    (takeSegmentResult e r b).rate.header.producer = b.rate.header.producer := by
  unfold takeSegmentResult
  refine Eq.trans (tellHeader_keeps e _ _ (fun h : Header => h.producer) (fun _ => rfl) (fun _ _ => rfl)) ?_
  simp
@[simp] theorem takeSegmentResult_header_freeze (e : Env) (r : SegmentResult) (b : Blocks) :
    (takeSegmentResult e r b).rate.header.freeze = b.rate.header.freeze := by
  unfold takeSegmentResult
  refine Eq.trans (tellHeader_keeps e _ _ (fun h : Header => h.freeze) (fun _ => rfl) (fun _ _ => rfl)) ?_
  simp
@[simp] theorem takeSegmentResult_header_rpm (e : Env) (r : SegmentResult) (b : Blocks) :
    (takeSegmentResult e r b).rate.header.rpm = r.rpm := by
  unfold takeSegmentResult; exact tellHeader_gives e _ _ (·.rpm) (fun _ _ => rfl)
@[simp] theorem takeWindowResult_crank (e : Env) (r : WindowResult) (b : Blocks) :
    (takeWindowResult e r b).crank = b.crank := by unfold takeWindowResult; simp
@[simp] theorem takeWindowResult_seg (e : Env) (r : WindowResult) (b : Blocks) :
    (takeWindowResult e r b).seg = b.seg := by unfold takeWindowResult; simp
@[simp] theorem takeWindowResult_knock (e : Env) (r : WindowResult) (b : Blocks) :
    (takeWindowResult e r b).knock = b.knock := by unfold takeWindowResult; simp
@[simp] theorem takeWindowResult_evq (e : Env) (r : WindowResult) (b : Blocks) :
    (takeWindowResult e r b).evq = b.evq := by unfold takeWindowResult; simp
@[simp] theorem takeWindowResult_frz (e : Env) (r : WindowResult) (b : Blocks) :
    (takeWindowResult e r b).frz = b.frz := by unfold takeWindowResult; simp
@[simp] theorem takeWindowResult_tap (e : Env) (r : WindowResult) (b : Blocks) :
    (takeWindowResult e r b).tap = b.tap := by unfold takeWindowResult; simp
@[simp] theorem takeWindowResult_rate_cycles (e : Env) (r : WindowResult) (b : Blocks) :
    (takeWindowResult e r b).rate.cycles = b.rate.cycles := by unfold takeWindowResult; simp
@[simp] theorem takeWindowResult_rate_wcur (e : Env) (r : WindowResult) (b : Blocks) :
    (takeWindowResult e r b).rate.wcur = b.rate.wcur := by unfold takeWindowResult; simp
@[simp] theorem takeWindowResult_rate_header (e : Env) (r : WindowResult) (b : Blocks) :
    (takeWindowResult e r b).rate.header = b.rate.header := by unfold takeWindowResult; simp
@[simp] theorem closeCylinder_crank (e : Env) (t : Stamp) (c : Nat) (b : Blocks) :
    (closeCylinder e t c b).crank = b.crank := by unfold closeCylinder; simp
@[simp] theorem closeCylinder_seg (e : Env) (t : Stamp) (c : Nat) (b : Blocks) :
    (closeCylinder e t c b).seg = b.seg := by unfold closeCylinder; simp
@[simp] theorem closeCylinder_knock (e : Env) (t : Stamp) (c : Nat) (b : Blocks) :
    (closeCylinder e t c b).knock = b.knock := by unfold closeCylinder; simp
@[simp] theorem closeCylinder_tap_tooth (e : Env) (t : Stamp) (c : Nat) (b : Blocks) :
    (closeCylinder e t c b).tap.tooth = b.tap.tooth := by unfold closeCylinder; simp
@[simp] theorem closeCylinder_tap_knock (e : Env) (t : Stamp) (c : Nat) (b : Blocks) :
    (closeCylinder e t c b).tap.knock = b.tap.knock := by unfold closeCylinder; simp
@[simp] theorem closeCylinder_tap_fifo (e : Env) (t : Stamp) (c : Nat) (b : Blocks) :
    (closeCylinder e t c b).tap.fifo = b.tap.fifo := by unfold closeCylinder; simp
@[simp] theorem closeCylinder_tap_note (e : Env) (t : Stamp) (c : Nat) (b : Blocks) :
    (closeCylinder e t c b).tap.note = b.tap.note := by unfold closeCylinder; simp
@[simp] theorem closeCylinder_tap_cut (e : Env) (t : Stamp) (c : Nat) (b : Blocks) :
    (closeCylinder e t c b).tap.cut = b.tap.cut := by unfold closeCylinder; simp
@[simp] theorem closeCylinder_tap_load (e : Env) (t : Stamp) (c : Nat) (b : Blocks) :
    (closeCylinder e t c b).tap.load = b.tap.load := by unfold closeCylinder; simp
@[simp] theorem closeCylinder_tap_surface (e : Env) (t : Stamp) (c : Nat) (b : Blocks) :
    (closeCylinder e t c b).tap.surface = b.tap.surface := by unfold closeCylinder; simp
@[simp] theorem closeCylinder_rate_cycles (e : Env) (t : Stamp) (c : Nat) (b : Blocks) :
    (closeCylinder e t c b).rate.cycles = b.rate.cycles := by unfold closeCylinder; simp
@[simp] theorem closeCylinder_rate_wcur (e : Env) (t : Stamp) (c : Nat) (b : Blocks) :
    (closeCylinder e t c b).rate.wcur = b.rate.wcur := by unfold closeCylinder; simp
@[simp] theorem closeCylinder_header_op (e : Env) (t : Stamp) (c : Nat) (b : Blocks) :
    (closeCylinder e t c b).rate.header.op = b.rate.header.op := by unfold closeCylinder; simp
@[simp] theorem closeCylinder_header_sync (e : Env) (t : Stamp) (c : Nat) (b : Blocks) :
    (closeCylinder e t c b).rate.header.sync = b.rate.header.sync := by unfold closeCylinder; simp
@[simp] theorem closeCylinder_header_cycle (e : Env) (t : Stamp) (c : Nat) (b : Blocks) :
    (closeCylinder e t c b).rate.header.cycle = b.rate.header.cycle := by unfold closeCylinder; simp
@[simp] theorem closeCylinder_header_rpm (e : Env) (t : Stamp) (c : Nat) (b : Blocks) :
    (closeCylinder e t c b).rate.header.rpm = b.rate.header.rpm := by unfold closeCylinder; simp
@[simp] theorem closeCylinder_header_cut (e : Env) (t : Stamp) (c : Nat) (b : Blocks) :
    (closeCylinder e t c b).rate.header.cut = b.rate.header.cut := by unfold closeCylinder; simp
@[simp] theorem closeCylinder_header_load (e : Env) (t : Stamp) (c : Nat) (b : Blocks) :
    (closeCylinder e t c b).rate.header.load = b.rate.header.load := by unfold closeCylinder; simp
@[simp] theorem closeCylinder_header_surface (e : Env) (t : Stamp) (c : Nat) (b : Blocks) :
    (closeCylinder e t c b).rate.header.surface = b.rate.header.surface := by unfold closeCylinder; simp
@[simp] theorem closeCylinders_crank (e : Env) (t : Stamp) (l : List Nat) (b : Blocks) :
    (closeCylinders e t l b).crank = b.crank := by
  induction l generalizing b with
  | nil => rfl
  | cons c l ih => simp only [closeCylinders]; rw [ih]; simp
@[simp] theorem closeCylinders_seg (e : Env) (t : Stamp) (l : List Nat) (b : Blocks) :
    (closeCylinders e t l b).seg = b.seg := by
  induction l generalizing b with
  | nil => rfl
  | cons c l ih => simp only [closeCylinders]; rw [ih]; simp
@[simp] theorem closeCylinders_knock (e : Env) (t : Stamp) (l : List Nat) (b : Blocks) :
    (closeCylinders e t l b).knock = b.knock := by
  induction l generalizing b with
  | nil => rfl
  | cons c l ih => simp only [closeCylinders]; rw [ih]; simp
@[simp] theorem closeCylinders_tap_tooth (e : Env) (t : Stamp) (l : List Nat) (b : Blocks) :
    (closeCylinders e t l b).tap.tooth = b.tap.tooth := by
  induction l generalizing b with
  | nil => rfl
  | cons c l ih => simp only [closeCylinders]; rw [ih]; simp
@[simp] theorem closeCylinders_tap_knock (e : Env) (t : Stamp) (l : List Nat) (b : Blocks) :
    (closeCylinders e t l b).tap.knock = b.tap.knock := by
  induction l generalizing b with
  | nil => rfl
  | cons c l ih => simp only [closeCylinders]; rw [ih]; simp
@[simp] theorem closeCylinders_tap_fifo (e : Env) (t : Stamp) (l : List Nat) (b : Blocks) :
    (closeCylinders e t l b).tap.fifo = b.tap.fifo := by
  induction l generalizing b with
  | nil => rfl
  | cons c l ih => simp only [closeCylinders]; rw [ih]; simp
@[simp] theorem closeCylinders_tap_note (e : Env) (t : Stamp) (l : List Nat) (b : Blocks) :
    (closeCylinders e t l b).tap.note = b.tap.note := by
  induction l generalizing b with
  | nil => rfl
  | cons c l ih => simp only [closeCylinders]; rw [ih]; simp
@[simp] theorem closeCylinders_tap_cut (e : Env) (t : Stamp) (l : List Nat) (b : Blocks) :
    (closeCylinders e t l b).tap.cut = b.tap.cut := by
  induction l generalizing b with
  | nil => rfl
  | cons c l ih => simp only [closeCylinders]; rw [ih]; simp
@[simp] theorem closeCylinders_tap_load (e : Env) (t : Stamp) (l : List Nat) (b : Blocks) :
    (closeCylinders e t l b).tap.load = b.tap.load := by
  induction l generalizing b with
  | nil => rfl
  | cons c l ih => simp only [closeCylinders]; rw [ih]; simp
@[simp] theorem closeCylinders_tap_surface (e : Env) (t : Stamp) (l : List Nat) (b : Blocks) :
    (closeCylinders e t l b).tap.surface = b.tap.surface := by
  induction l generalizing b with
  | nil => rfl
  | cons c l ih => simp only [closeCylinders]; rw [ih]; simp
@[simp] theorem closeCylinders_rate_cycles (e : Env) (t : Stamp) (l : List Nat) (b : Blocks) :
    (closeCylinders e t l b).rate.cycles = b.rate.cycles := by
  induction l generalizing b with
  | nil => rfl
  | cons c l ih => simp only [closeCylinders]; rw [ih]; simp
@[simp] theorem closeCylinders_rate_wcur (e : Env) (t : Stamp) (l : List Nat) (b : Blocks) :
    (closeCylinders e t l b).rate.wcur = b.rate.wcur := by
  induction l generalizing b with
  | nil => rfl
  | cons c l ih => simp only [closeCylinders]; rw [ih]; simp
@[simp] theorem closeCylinders_header_op (e : Env) (t : Stamp) (l : List Nat) (b : Blocks) :
    (closeCylinders e t l b).rate.header.op = b.rate.header.op := by
  induction l generalizing b with
  | nil => rfl
  | cons c l ih => simp only [closeCylinders]; rw [ih]; simp
@[simp] theorem closeCylinders_header_sync (e : Env) (t : Stamp) (l : List Nat) (b : Blocks) :
    (closeCylinders e t l b).rate.header.sync = b.rate.header.sync := by
  induction l generalizing b with
  | nil => rfl
  | cons c l ih => simp only [closeCylinders]; rw [ih]; simp
@[simp] theorem closeCylinders_header_cycle (e : Env) (t : Stamp) (l : List Nat) (b : Blocks) :
    (closeCylinders e t l b).rate.header.cycle = b.rate.header.cycle := by
  induction l generalizing b with
  | nil => rfl
  | cons c l ih => simp only [closeCylinders]; rw [ih]; simp
@[simp] theorem closeCylinders_header_rpm (e : Env) (t : Stamp) (l : List Nat) (b : Blocks) :
    (closeCylinders e t l b).rate.header.rpm = b.rate.header.rpm := by
  induction l generalizing b with
  | nil => rfl
  | cons c l ih => simp only [closeCylinders]; rw [ih]; simp
@[simp] theorem closeCylinders_header_cut (e : Env) (t : Stamp) (l : List Nat) (b : Blocks) :
    (closeCylinders e t l b).rate.header.cut = b.rate.header.cut := by
  induction l generalizing b with
  | nil => rfl
  | cons c l ih => simp only [closeCylinders]; rw [ih]; simp
@[simp] theorem closeCylinders_header_load (e : Env) (t : Stamp) (l : List Nat) (b : Blocks) :
    (closeCylinders e t l b).rate.header.load = b.rate.header.load := by
  induction l generalizing b with
  | nil => rfl
  | cons c l ih => simp only [closeCylinders]; rw [ih]; simp
@[simp] theorem closeCylinders_header_surface (e : Env) (t : Stamp) (l : List Nat) (b : Blocks) :
    (closeCylinders e t l b).rate.header.surface = b.rate.header.surface := by
  induction l generalizing b with
  | nil => rfl
  | cons c l ih => simp only [closeCylinders]; rw [ih]; simp
@[simp] theorem closeWindow_crank (e : Env) (t : Stamp) (b : Blocks) :
    (closeWindow e t b).crank = b.crank := by unfold closeWindow; simp
@[simp] theorem closeWindow_seg (e : Env) (t : Stamp) (b : Blocks) :
    (closeWindow e t b).seg = b.seg := by unfold closeWindow; simp
@[simp] theorem closeWindow_knock (e : Env) (t : Stamp) (b : Blocks) :
    (closeWindow e t b).knock = b.knock := by unfold closeWindow; simp
@[simp] theorem closeWindow_tap_tooth (e : Env) (t : Stamp) (b : Blocks) :
    (closeWindow e t b).tap.tooth = b.tap.tooth := by unfold closeWindow; simp
@[simp] theorem closeWindow_tap_knock (e : Env) (t : Stamp) (b : Blocks) :
    (closeWindow e t b).tap.knock = b.tap.knock := by unfold closeWindow; simp
@[simp] theorem closeWindow_tap_fifo (e : Env) (t : Stamp) (b : Blocks) :
    (closeWindow e t b).tap.fifo = b.tap.fifo := by unfold closeWindow; simp
@[simp] theorem closeWindow_tap_note (e : Env) (t : Stamp) (b : Blocks) :
    (closeWindow e t b).tap.note = b.tap.note := by unfold closeWindow; simp
@[simp] theorem closeWindow_tap_cut (e : Env) (t : Stamp) (b : Blocks) :
    (closeWindow e t b).tap.cut = b.tap.cut := by unfold closeWindow; simp
@[simp] theorem closeWindow_tap_load (e : Env) (t : Stamp) (b : Blocks) :
    (closeWindow e t b).tap.load = b.tap.load := by unfold closeWindow; simp
@[simp] theorem closeWindow_tap_surface (e : Env) (t : Stamp) (b : Blocks) :
    (closeWindow e t b).tap.surface = b.tap.surface := by unfold closeWindow; simp
@[simp] theorem closeWindow_header_op (e : Env) (t : Stamp) (b : Blocks) :
    (closeWindow e t b).rate.header.op = b.rate.header.op := by unfold closeWindow; simp
@[simp] theorem closeWindow_header_sync (e : Env) (t : Stamp) (b : Blocks) :
    (closeWindow e t b).rate.header.sync = b.rate.header.sync := by unfold closeWindow; simp
@[simp] theorem closeWindow_header_cycle (e : Env) (t : Stamp) (b : Blocks) :
    (closeWindow e t b).rate.header.cycle = b.rate.header.cycle := by unfold closeWindow; simp
@[simp] theorem closeWindow_header_rpm (e : Env) (t : Stamp) (b : Blocks) :
    (closeWindow e t b).rate.header.rpm = b.rate.header.rpm := by unfold closeWindow; simp
@[simp] theorem closeWindow_header_cut (e : Env) (t : Stamp) (b : Blocks) :
    (closeWindow e t b).rate.header.cut = b.rate.header.cut := by unfold closeWindow; simp
@[simp] theorem closeWindow_header_load (e : Env) (t : Stamp) (b : Blocks) :
    (closeWindow e t b).rate.header.load = b.rate.header.load := by unfold closeWindow; simp
@[simp] theorem closeWindow_header_surface (e : Env) (t : Stamp) (b : Blocks) :
    (closeWindow e t b).rate.header.surface = b.rate.header.surface := by unfold closeWindow; simp
@[simp] theorem rateCycleStart_crank (e : Env) (t : Stamp) (b : Blocks) :
    (rateCycleStart e t b).crank = b.crank := by unfold rateCycleStart; dsimp only; split <;> simp
@[simp] theorem rateCycleStart_seg (e : Env) (t : Stamp) (b : Blocks) :
    (rateCycleStart e t b).seg = b.seg := by unfold rateCycleStart; dsimp only; split <;> simp
@[simp] theorem rateCycleStart_knock (e : Env) (t : Stamp) (b : Blocks) :
    (rateCycleStart e t b).knock = b.knock := by unfold rateCycleStart; dsimp only; split <;> simp
@[simp] theorem rateCycleStart_tap_tooth (e : Env) (t : Stamp) (b : Blocks) :
    (rateCycleStart e t b).tap.tooth = b.tap.tooth := by unfold rateCycleStart; dsimp only; split <;> simp
@[simp] theorem rateCycleStart_tap_knock (e : Env) (t : Stamp) (b : Blocks) :
    (rateCycleStart e t b).tap.knock = b.tap.knock := by unfold rateCycleStart; dsimp only; split <;> simp
@[simp] theorem rateCycleStart_tap_fifo (e : Env) (t : Stamp) (b : Blocks) :
    (rateCycleStart e t b).tap.fifo = b.tap.fifo := by unfold rateCycleStart; dsimp only; split <;> simp
@[simp] theorem rateCycleStart_tap_note (e : Env) (t : Stamp) (b : Blocks) :
    (rateCycleStart e t b).tap.note = b.tap.note := by unfold rateCycleStart; dsimp only; split <;> simp
@[simp] theorem rateCycleStart_tap_cut (e : Env) (t : Stamp) (b : Blocks) :
    (rateCycleStart e t b).tap.cut = b.tap.cut := by unfold rateCycleStart; dsimp only; split <;> simp
@[simp] theorem rateCycleStart_tap_load (e : Env) (t : Stamp) (b : Blocks) :
    (rateCycleStart e t b).tap.load = b.tap.load := by unfold rateCycleStart; dsimp only; split <;> simp
@[simp] theorem rateCycleStart_tap_surface (e : Env) (t : Stamp) (b : Blocks) :
    (rateCycleStart e t b).tap.surface = b.tap.surface := by unfold rateCycleStart; dsimp only; split <;> simp
@[simp] theorem rateCycleStart_header_op (e : Env) (t : Stamp) (b : Blocks) :
    (rateCycleStart e t b).rate.header.op = b.rate.header.op := by
  unfold rateCycleStart; dsimp only; split <;> (try simp) <;>
    exact tellHeader_keeps e _ _ (·.op) (fun _ => rfl) (fun _ _ => rfl)
@[simp] theorem rateCycleStart_header_sync (e : Env) (t : Stamp) (b : Blocks) :
    (rateCycleStart e t b).rate.header.sync = b.rate.header.sync := by
  unfold rateCycleStart; dsimp only; split <;> (try simp) <;>
    exact tellHeader_keeps e _ _ (·.sync) (fun _ => rfl) (fun _ _ => rfl)
@[simp] theorem rateCycleStart_header_rpm (e : Env) (t : Stamp) (b : Blocks) :
    (rateCycleStart e t b).rate.header.rpm = b.rate.header.rpm := by
  unfold rateCycleStart; dsimp only; split <;> (try simp) <;>
    exact tellHeader_keeps e _ _ (·.rpm) (fun _ => rfl) (fun _ _ => rfl)
@[simp] theorem rateCycleStart_header_cut (e : Env) (t : Stamp) (b : Blocks) :
    (rateCycleStart e t b).rate.header.cut = b.rate.header.cut := by
  unfold rateCycleStart; dsimp only; split <;> (try simp) <;>
    exact tellHeader_keeps e _ _ (·.cut) (fun _ => rfl) (fun _ _ => rfl)
@[simp] theorem rateCycleStart_header_load (e : Env) (t : Stamp) (b : Blocks) :
    (rateCycleStart e t b).rate.header.load = b.rate.header.load := by
  unfold rateCycleStart; dsimp only; split <;> (try simp) <;>
    exact tellHeader_keeps e _ _ (·.load) (fun _ => rfl) (fun _ _ => rfl)
@[simp] theorem rateCycleStart_header_surface (e : Env) (t : Stamp) (b : Blocks) :
    (rateCycleStart e t b).rate.header.surface = b.rate.header.surface := by
  unfold rateCycleStart; dsimp only; split <;> (try simp) <;>
    exact tellHeader_keeps e _ _ (·.surface) (fun _ => rfl) (fun _ _ => rfl)
@[simp] theorem rateCycleStart_header_cycle (e : Env) (t : Stamp) (b : Blocks) :
    (rateCycleStart e t b).rate.header.cycle = b.crank.cycle := by
  unfold rateCycleStart; dsimp only; split <;> (try simp) <;>
    exact tellHeader_gives e _ _ (·.cycle) (fun _ _ => rfl)

/-! ### SEG -/

@[simp] theorem makeFinal_crank (e : Env) (i : Fin 24) (b : Blocks) :
    (makeFinal e i b).crank = b.crank := by unfold makeFinal; simp
@[simp] theorem makeFinal_knock (e : Env) (i : Fin 24) (b : Blocks) :
    (makeFinal e i b).knock = b.knock := by unfold makeFinal; simp
@[simp] theorem makeFinal_evq (e : Env) (i : Fin 24) (b : Blocks) :
    (makeFinal e i b).evq = b.evq := by unfold makeFinal; simp
@[simp] theorem makeFinal_tap (e : Env) (i : Fin 24) (b : Blocks) :
    (makeFinal e i b).tap = b.tap := by unfold makeFinal; simp
@[simp] theorem makeFinal_rate_cycles (e : Env) (i : Fin 24) (b : Blocks) :
    (makeFinal e i b).rate.cycles = b.rate.cycles := by unfold makeFinal; simp
@[simp] theorem makeFinal_rate_wcur (e : Env) (i : Fin 24) (b : Blocks) :
    (makeFinal e i b).rate.wcur = b.rate.wcur := by unfold makeFinal; simp
@[simp] theorem makeFinal_rate_rows (e : Env) (i : Fin 24) (b : Blocks) :
    (makeFinal e i b).rate.rows = b.rate.rows := by unfold makeFinal; simp
@[simp] theorem makeFinal_header_op (e : Env) (i : Fin 24) (b : Blocks) :
    (makeFinal e i b).rate.header.op = b.rate.header.op := by unfold makeFinal; simp
@[simp] theorem makeFinal_header_sync (e : Env) (i : Fin 24) (b : Blocks) :
    (makeFinal e i b).rate.header.sync = b.rate.header.sync := by unfold makeFinal; simp
@[simp] theorem makeFinal_header_cycle (e : Env) (i : Fin 24) (b : Blocks) :
    (makeFinal e i b).rate.header.cycle = b.rate.header.cycle := by unfold makeFinal; simp
@[simp] theorem makeFinal_header_rpm (e : Env) (i : Fin 24) (b : Blocks) :
    (makeFinal e i b).rate.header.rpm = b.rate.header.rpm := by unfold makeFinal; simp
@[simp] theorem makeFinal_header_cut (e : Env) (i : Fin 24) (b : Blocks) :
    (makeFinal e i b).rate.header.cut = b.rate.header.cut := by unfold makeFinal; simp
@[simp] theorem makeFinal_header_load (e : Env) (i : Fin 24) (b : Blocks) :
    (makeFinal e i b).rate.header.load = b.rate.header.load := by unfold makeFinal; simp
@[simp] theorem makeFinal_header_surface (e : Env) (i : Fin 24) (b : Blocks) :
    (makeFinal e i b).rate.header.surface = b.rate.header.surface := by unfold makeFinal; simp
@[simp] theorem makeFinal_header_flags (e : Env) (i : Fin 24) (b : Blocks) :
    (makeFinal e i b).rate.header.flags = b.rate.header.flags := by unfold makeFinal; simp
@[simp] theorem makeFinal_header_producer (e : Env) (i : Fin 24) (b : Blocks) :
    (makeFinal e i b).rate.header.producer = b.rate.header.producer := by unfold makeFinal; simp
@[simp] theorem finaliseClosed_crank (e : Env) (k : Option (Fin 24)) (l : List (Fin 24)) (b : Blocks) :
    (finaliseClosed e k l b).crank = b.crank := by
  induction l generalizing b with
  | nil => rfl
  | cons i l ih => simp only [finaliseClosed]; rw [ih]; split <;> simp
@[simp] theorem finaliseClosed_knock (e : Env) (k : Option (Fin 24)) (l : List (Fin 24)) (b : Blocks) :
    (finaliseClosed e k l b).knock = b.knock := by
  induction l generalizing b with
  | nil => rfl
  | cons i l ih => simp only [finaliseClosed]; rw [ih]; split <;> simp
@[simp] theorem finaliseClosed_evq (e : Env) (k : Option (Fin 24)) (l : List (Fin 24)) (b : Blocks) :
    (finaliseClosed e k l b).evq = b.evq := by
  induction l generalizing b with
  | nil => rfl
  | cons i l ih => simp only [finaliseClosed]; rw [ih]; split <;> simp
@[simp] theorem finaliseClosed_tap (e : Env) (k : Option (Fin 24)) (l : List (Fin 24)) (b : Blocks) :
    (finaliseClosed e k l b).tap = b.tap := by
  induction l generalizing b with
  | nil => rfl
  | cons i l ih => simp only [finaliseClosed]; rw [ih]; split <;> simp
@[simp] theorem finaliseClosed_rate_cycles (e : Env) (k : Option (Fin 24)) (l : List (Fin 24)) (b : Blocks) :
    (finaliseClosed e k l b).rate.cycles = b.rate.cycles := by
  induction l generalizing b with
  | nil => rfl
  | cons i l ih => simp only [finaliseClosed]; rw [ih]; split <;> simp
@[simp] theorem finaliseClosed_rate_wcur (e : Env) (k : Option (Fin 24)) (l : List (Fin 24)) (b : Blocks) :
    (finaliseClosed e k l b).rate.wcur = b.rate.wcur := by
  induction l generalizing b with
  | nil => rfl
  | cons i l ih => simp only [finaliseClosed]; rw [ih]; split <;> simp
@[simp] theorem finaliseClosed_rate_rows (e : Env) (k : Option (Fin 24)) (l : List (Fin 24)) (b : Blocks) :
    (finaliseClosed e k l b).rate.rows = b.rate.rows := by
  induction l generalizing b with
  | nil => rfl
  | cons i l ih => simp only [finaliseClosed]; rw [ih]; split <;> simp
@[simp] theorem finaliseClosed_header_op (e : Env) (k : Option (Fin 24)) (l : List (Fin 24)) (b : Blocks) :
    (finaliseClosed e k l b).rate.header.op = b.rate.header.op := by
  induction l generalizing b with
  | nil => rfl
  | cons i l ih => simp only [finaliseClosed]; rw [ih]; split <;> simp
@[simp] theorem finaliseClosed_header_sync (e : Env) (k : Option (Fin 24)) (l : List (Fin 24)) (b : Blocks) :
    (finaliseClosed e k l b).rate.header.sync = b.rate.header.sync := by
  induction l generalizing b with
  | nil => rfl
  | cons i l ih => simp only [finaliseClosed]; rw [ih]; split <;> simp
@[simp] theorem finaliseClosed_header_cycle (e : Env) (k : Option (Fin 24)) (l : List (Fin 24)) (b : Blocks) :
    (finaliseClosed e k l b).rate.header.cycle = b.rate.header.cycle := by
  induction l generalizing b with
  | nil => rfl
  | cons i l ih => simp only [finaliseClosed]; rw [ih]; split <;> simp
@[simp] theorem finaliseClosed_header_rpm (e : Env) (k : Option (Fin 24)) (l : List (Fin 24)) (b : Blocks) :
    (finaliseClosed e k l b).rate.header.rpm = b.rate.header.rpm := by
  induction l generalizing b with
  | nil => rfl
  | cons i l ih => simp only [finaliseClosed]; rw [ih]; split <;> simp
@[simp] theorem finaliseClosed_header_cut (e : Env) (k : Option (Fin 24)) (l : List (Fin 24)) (b : Blocks) :
    (finaliseClosed e k l b).rate.header.cut = b.rate.header.cut := by
  induction l generalizing b with
  | nil => rfl
  | cons i l ih => simp only [finaliseClosed]; rw [ih]; split <;> simp
@[simp] theorem finaliseClosed_header_load (e : Env) (k : Option (Fin 24)) (l : List (Fin 24)) (b : Blocks) :
    (finaliseClosed e k l b).rate.header.load = b.rate.header.load := by
  induction l generalizing b with
  | nil => rfl
  | cons i l ih => simp only [finaliseClosed]; rw [ih]; split <;> simp
@[simp] theorem finaliseClosed_header_surface (e : Env) (k : Option (Fin 24)) (l : List (Fin 24)) (b : Blocks) :
    (finaliseClosed e k l b).rate.header.surface = b.rate.header.surface := by
  induction l generalizing b with
  | nil => rfl
  | cons i l ih => simp only [finaliseClosed]; rw [ih]; split <;> simp
@[simp] theorem finaliseClosed_header_flags (e : Env) (k : Option (Fin 24)) (l : List (Fin 24)) (b : Blocks) :
    (finaliseClosed e k l b).rate.header.flags = b.rate.header.flags := by
  induction l generalizing b with
  | nil => rfl
  | cons i l ih => simp only [finaliseClosed]; rw [ih]; split <;> simp
@[simp] theorem finaliseClosed_header_producer (e : Env) (k : Option (Fin 24)) (l : List (Fin 24)) (b : Blocks) :
    (finaliseClosed e k l b).rate.header.producer = b.rate.header.producer := by
  induction l generalizing b with
  | nil => rfl
  | cons i l ih => simp only [finaliseClosed]; rw [ih]; split <;> simp
@[simp] theorem settleRing_crank (e : Env) (b : Blocks) :
    (settleRing e b).crank = b.crank := by unfold settleRing; simp
@[simp] theorem settleRing_knock (e : Env) (b : Blocks) :
    (settleRing e b).knock = b.knock := by unfold settleRing; simp
@[simp] theorem settleRing_evq (e : Env) (b : Blocks) : (settleRing e b).evq = b.evq := by unfold settleRing; simp
@[simp] theorem settleRing_tap (e : Env) (b : Blocks) : (settleRing e b).tap = b.tap := by unfold settleRing; simp
@[simp] theorem settleRing_rate_cycles (e : Env) (b : Blocks) :
    (settleRing e b).rate.cycles = b.rate.cycles := by unfold settleRing; simp
@[simp] theorem settleRing_rate_wcur (e : Env) (b : Blocks) :
    (settleRing e b).rate.wcur = b.rate.wcur := by unfold settleRing; simp
@[simp] theorem settleRing_rate_rows (e : Env) (b : Blocks) :
    (settleRing e b).rate.rows = b.rate.rows := by unfold settleRing; simp
@[simp] theorem settleRing_header_op (e : Env) (b : Blocks) :
    (settleRing e b).rate.header.op = b.rate.header.op := by unfold settleRing; simp
@[simp] theorem settleRing_header_sync (e : Env) (b : Blocks) :
    (settleRing e b).rate.header.sync = b.rate.header.sync := by unfold settleRing; simp
@[simp] theorem settleRing_header_cycle (e : Env) (b : Blocks) :
    (settleRing e b).rate.header.cycle = b.rate.header.cycle := by unfold settleRing; simp
@[simp] theorem settleRing_header_rpm (e : Env) (b : Blocks) :
    (settleRing e b).rate.header.rpm = b.rate.header.rpm := by unfold settleRing; simp
@[simp] theorem settleRing_header_cut (e : Env) (b : Blocks) :
    (settleRing e b).rate.header.cut = b.rate.header.cut := by unfold settleRing; simp
@[simp] theorem settleRing_header_load (e : Env) (b : Blocks) :
    (settleRing e b).rate.header.load = b.rate.header.load := by unfold settleRing; simp
@[simp] theorem settleRing_header_surface (e : Env) (b : Blocks) :
    (settleRing e b).rate.header.surface = b.rate.header.surface := by unfold settleRing; simp
@[simp] theorem settleRing_header_flags (e : Env) (b : Blocks) :
    (settleRing e b).rate.header.flags = b.rate.header.flags := by unfold settleRing; simp
@[simp] theorem settleRing_header_producer (e : Env) (b : Blocks) :
    (settleRing e b).rate.header.producer = b.rate.header.producer := by unfold settleRing; simp
@[simp] theorem closeRecord_crank (e : Env) (i : Fin 24) (b : Blocks) :
    (closeRecord e i b).crank = b.crank := by unfold closeRecord; simp
@[simp] theorem closeRecord_knock (e : Env) (i : Fin 24) (b : Blocks) :
    (closeRecord e i b).knock = b.knock := by unfold closeRecord; simp
@[simp] theorem closeRecord_evq (e : Env) (i : Fin 24) (b : Blocks) :
    (closeRecord e i b).evq = b.evq := by unfold closeRecord; simp
@[simp] theorem closeRecord_tap (e : Env) (i : Fin 24) (b : Blocks) :
    (closeRecord e i b).tap = b.tap := by unfold closeRecord; simp
@[simp] theorem closeRecord_rate_cycles (e : Env) (i : Fin 24) (b : Blocks) :
    (closeRecord e i b).rate.cycles = b.rate.cycles := by unfold closeRecord; simp
@[simp] theorem closeRecord_rate_wcur (e : Env) (i : Fin 24) (b : Blocks) :
    (closeRecord e i b).rate.wcur = b.rate.wcur := by unfold closeRecord; simp
@[simp] theorem closeRecord_rate_rows (e : Env) (i : Fin 24) (b : Blocks) :
    (closeRecord e i b).rate.rows = b.rate.rows := by unfold closeRecord; simp
@[simp] theorem closeRecord_header_op (e : Env) (i : Fin 24) (b : Blocks) :
    (closeRecord e i b).rate.header.op = b.rate.header.op := by unfold closeRecord; simp
@[simp] theorem closeRecord_header_sync (e : Env) (i : Fin 24) (b : Blocks) :
    (closeRecord e i b).rate.header.sync = b.rate.header.sync := by unfold closeRecord; simp
@[simp] theorem closeRecord_header_cycle (e : Env) (i : Fin 24) (b : Blocks) :
    (closeRecord e i b).rate.header.cycle = b.rate.header.cycle := by unfold closeRecord; simp
@[simp] theorem closeRecord_header_rpm (e : Env) (i : Fin 24) (b : Blocks) :
    (closeRecord e i b).rate.header.rpm = b.rate.header.rpm := by unfold closeRecord; simp
@[simp] theorem closeRecord_header_cut (e : Env) (i : Fin 24) (b : Blocks) :
    (closeRecord e i b).rate.header.cut = b.rate.header.cut := by unfold closeRecord; simp
@[simp] theorem closeRecord_header_load (e : Env) (i : Fin 24) (b : Blocks) :
    (closeRecord e i b).rate.header.load = b.rate.header.load := by unfold closeRecord; simp
@[simp] theorem closeRecord_header_surface (e : Env) (i : Fin 24) (b : Blocks) :
    (closeRecord e i b).rate.header.surface = b.rate.header.surface := by unfold closeRecord; simp
@[simp] theorem closeRecord_header_flags (e : Env) (i : Fin 24) (b : Blocks) :
    (closeRecord e i b).rate.header.flags = b.rate.header.flags := by unfold closeRecord; simp
@[simp] theorem closeRecord_header_producer (e : Env) (i : Fin 24) (b : Blocks) :
    (closeRecord e i b).rate.header.producer = b.rate.header.producer := by unfold closeRecord; simp
@[simp] theorem fileSegment_crank (e : Env) (o : Option (Fin 24)) (m : Measures) (c : SegClass) (b : Blocks) :
    (fileSegment e o m c b).crank = b.crank := by unfold fileSegment; split <;> (try dsimp only) <;> (try split) <;> simp
@[simp] theorem fileSegment_knock (e : Env) (o : Option (Fin 24)) (m : Measures) (c : SegClass) (b : Blocks) :
    (fileSegment e o m c b).knock = b.knock := by unfold fileSegment; split <;> (try dsimp only) <;> (try split) <;> simp
@[simp] theorem fileSegment_evq (e : Env) (o : Option (Fin 24)) (m : Measures) (c : SegClass) (b : Blocks) :
    (fileSegment e o m c b).evq = b.evq := by unfold fileSegment; split <;> (try dsimp only) <;> (try split) <;> simp
@[simp] theorem fileSegment_tap (e : Env) (o : Option (Fin 24)) (m : Measures) (c : SegClass) (b : Blocks) :
    (fileSegment e o m c b).tap = b.tap := by unfold fileSegment; split <;> (try dsimp only) <;> (try split) <;> simp
@[simp] theorem fileSegment_rate_cycles (e : Env) (o : Option (Fin 24)) (m : Measures) (c : SegClass) (b : Blocks) :
    (fileSegment e o m c b).rate.cycles = b.rate.cycles := by unfold fileSegment; split <;> (try dsimp only) <;> (try split) <;> simp
@[simp] theorem fileSegment_rate_wcur (e : Env) (o : Option (Fin 24)) (m : Measures) (c : SegClass) (b : Blocks) :
    (fileSegment e o m c b).rate.wcur = b.rate.wcur := by unfold fileSegment; split <;> (try dsimp only) <;> (try split) <;> simp
@[simp] theorem fileSegment_rate_rows (e : Env) (o : Option (Fin 24)) (m : Measures) (c : SegClass) (b : Blocks) :
    (fileSegment e o m c b).rate.rows = b.rate.rows := by unfold fileSegment; split <;> (try dsimp only) <;> (try split) <;> simp
@[simp] theorem fileSegment_header_op (e : Env) (o : Option (Fin 24)) (m : Measures) (c : SegClass) (b : Blocks) :
    (fileSegment e o m c b).rate.header.op = b.rate.header.op := by unfold fileSegment; split <;> (try dsimp only) <;> (try split) <;> simp
@[simp] theorem fileSegment_header_sync (e : Env) (o : Option (Fin 24)) (m : Measures) (c : SegClass) (b : Blocks) :
    (fileSegment e o m c b).rate.header.sync = b.rate.header.sync := by unfold fileSegment; split <;> (try dsimp only) <;> (try split) <;> simp
@[simp] theorem fileSegment_header_cycle (e : Env) (o : Option (Fin 24)) (m : Measures) (c : SegClass) (b : Blocks) :
    (fileSegment e o m c b).rate.header.cycle = b.rate.header.cycle := by unfold fileSegment; split <;> (try dsimp only) <;> (try split) <;> simp
@[simp] theorem fileSegment_header_rpm (e : Env) (o : Option (Fin 24)) (m : Measures) (c : SegClass) (b : Blocks) :
    (fileSegment e o m c b).rate.header.rpm = b.rate.header.rpm := by unfold fileSegment; split <;> (try dsimp only) <;> (try split) <;> simp
@[simp] theorem fileSegment_header_cut (e : Env) (o : Option (Fin 24)) (m : Measures) (c : SegClass) (b : Blocks) :
    (fileSegment e o m c b).rate.header.cut = b.rate.header.cut := by unfold fileSegment; split <;> (try dsimp only) <;> (try split) <;> simp
@[simp] theorem fileSegment_header_load (e : Env) (o : Option (Fin 24)) (m : Measures) (c : SegClass) (b : Blocks) :
    (fileSegment e o m c b).rate.header.load = b.rate.header.load := by unfold fileSegment; split <;> (try dsimp only) <;> (try split) <;> simp
@[simp] theorem fileSegment_header_surface (e : Env) (o : Option (Fin 24)) (m : Measures) (c : SegClass) (b : Blocks) :
    (fileSegment e o m c b).rate.header.surface = b.rate.header.surface := by unfold fileSegment; split <;> (try dsimp only) <;> (try split) <;> simp
@[simp] theorem fileSegment_header_flags (e : Env) (o : Option (Fin 24)) (m : Measures) (c : SegClass) (b : Blocks) :
    (fileSegment e o m c b).rate.header.flags = b.rate.header.flags := by unfold fileSegment; split <;> (try dsimp only) <;> (try split) <;> simp
@[simp] theorem fileSegment_header_producer (e : Env) (o : Option (Fin 24)) (m : Measures) (c : SegClass) (b : Blocks) :
    (fileSegment e o m c b).rate.header.producer = b.rate.header.producer := by unfold fileSegment; split <;> (try dsimp only) <;> (try split) <;> simp
@[simp] theorem finishSegment_crank (e : Env) (o : Option (Fin 24)) (m : Measures) (c : SegClass) (t : Stamp) (b : Blocks) :
    (finishSegment e o m c t b).crank = b.crank := by unfold finishSegment; simp
@[simp] theorem finishSegment_knock (e : Env) (o : Option (Fin 24)) (m : Measures) (c : SegClass) (t : Stamp) (b : Blocks) :
    (finishSegment e o m c t b).knock = b.knock := by unfold finishSegment; simp
@[simp] theorem finishSegment_tap_tooth (e : Env) (o : Option (Fin 24)) (m : Measures) (c : SegClass) (t : Stamp) (b : Blocks) :
    (finishSegment e o m c t b).tap.tooth = b.tap.tooth := by unfold finishSegment; simp
@[simp] theorem finishSegment_tap_knock (e : Env) (o : Option (Fin 24)) (m : Measures) (c : SegClass) (t : Stamp) (b : Blocks) :
    (finishSegment e o m c t b).tap.knock = b.tap.knock := by unfold finishSegment; simp
@[simp] theorem finishSegment_tap_fifo (e : Env) (o : Option (Fin 24)) (m : Measures) (c : SegClass) (t : Stamp) (b : Blocks) :
    (finishSegment e o m c t b).tap.fifo = b.tap.fifo := by unfold finishSegment; simp
@[simp] theorem finishSegment_tap_note (e : Env) (o : Option (Fin 24)) (m : Measures) (c : SegClass) (t : Stamp) (b : Blocks) :
    (finishSegment e o m c t b).tap.note = b.tap.note := by unfold finishSegment; simp
@[simp] theorem finishSegment_tap_cut (e : Env) (o : Option (Fin 24)) (m : Measures) (c : SegClass) (t : Stamp) (b : Blocks) :
    (finishSegment e o m c t b).tap.cut = b.tap.cut := by unfold finishSegment; simp
@[simp] theorem finishSegment_tap_load (e : Env) (o : Option (Fin 24)) (m : Measures) (c : SegClass) (t : Stamp) (b : Blocks) :
    (finishSegment e o m c t b).tap.load = b.tap.load := by unfold finishSegment; simp
@[simp] theorem finishSegment_tap_surface (e : Env) (o : Option (Fin 24)) (m : Measures) (c : SegClass) (t : Stamp) (b : Blocks) :
    (finishSegment e o m c t b).tap.surface = b.tap.surface := by unfold finishSegment; simp
@[simp] theorem finishSegment_rate_cycles (e : Env) (o : Option (Fin 24)) (m : Measures) (c : SegClass) (t : Stamp) (b : Blocks) :
    (finishSegment e o m c t b).rate.cycles = b.rate.cycles := by unfold finishSegment; simp
@[simp] theorem finishSegment_rate_wcur (e : Env) (o : Option (Fin 24)) (m : Measures) (c : SegClass) (t : Stamp) (b : Blocks) :
    (finishSegment e o m c t b).rate.wcur = b.rate.wcur := by unfold finishSegment; simp
@[simp] theorem finishSegment_header_op (e : Env) (o : Option (Fin 24)) (m : Measures) (c : SegClass) (t : Stamp) (b : Blocks) :
    (finishSegment e o m c t b).rate.header.op = b.rate.header.op := by unfold finishSegment; simp
@[simp] theorem finishSegment_header_sync (e : Env) (o : Option (Fin 24)) (m : Measures) (c : SegClass) (t : Stamp) (b : Blocks) :
    (finishSegment e o m c t b).rate.header.sync = b.rate.header.sync := by unfold finishSegment; simp
@[simp] theorem finishSegment_header_cycle (e : Env) (o : Option (Fin 24)) (m : Measures) (c : SegClass) (t : Stamp) (b : Blocks) :
    (finishSegment e o m c t b).rate.header.cycle = b.rate.header.cycle := by unfold finishSegment; simp
@[simp] theorem finishSegment_header_cut (e : Env) (o : Option (Fin 24)) (m : Measures) (c : SegClass) (t : Stamp) (b : Blocks) :
    (finishSegment e o m c t b).rate.header.cut = b.rate.header.cut := by unfold finishSegment; simp
@[simp] theorem finishSegment_header_load (e : Env) (o : Option (Fin 24)) (m : Measures) (c : SegClass) (t : Stamp) (b : Blocks) :
    (finishSegment e o m c t b).rate.header.load = b.rate.header.load := by unfold finishSegment; simp
@[simp] theorem finishSegment_header_surface (e : Env) (o : Option (Fin 24)) (m : Measures) (c : SegClass) (t : Stamp) (b : Blocks) :
    (finishSegment e o m c t b).rate.header.surface = b.rate.header.surface := by unfold finishSegment; simp
@[simp] theorem segEnd_crank (e : Env) (t : Stamp) (b : Blocks) :
    (segEnd e t b).crank = b.crank := by unfold segEnd; split <;> simp
@[simp] theorem segEnd_knock (e : Env) (t : Stamp) (b : Blocks) :
    (segEnd e t b).knock = b.knock := by unfold segEnd; split <;> simp
@[simp] theorem segEnd_tap_tooth (e : Env) (t : Stamp) (b : Blocks) :
    (segEnd e t b).tap.tooth = b.tap.tooth := by unfold segEnd; split <;> simp
@[simp] theorem segEnd_tap_knock (e : Env) (t : Stamp) (b : Blocks) :
    (segEnd e t b).tap.knock = b.tap.knock := by unfold segEnd; split <;> simp
@[simp] theorem segEnd_tap_fifo (e : Env) (t : Stamp) (b : Blocks) :
    (segEnd e t b).tap.fifo = b.tap.fifo := by unfold segEnd; split <;> simp
@[simp] theorem segEnd_tap_note (e : Env) (t : Stamp) (b : Blocks) :
    (segEnd e t b).tap.note = b.tap.note := by unfold segEnd; split <;> simp
@[simp] theorem segEnd_tap_cut (e : Env) (t : Stamp) (b : Blocks) :
    (segEnd e t b).tap.cut = b.tap.cut := by unfold segEnd; split <;> simp
@[simp] theorem segEnd_tap_load (e : Env) (t : Stamp) (b : Blocks) :
    (segEnd e t b).tap.load = b.tap.load := by unfold segEnd; split <;> simp
@[simp] theorem segEnd_tap_surface (e : Env) (t : Stamp) (b : Blocks) :
    (segEnd e t b).tap.surface = b.tap.surface := by unfold segEnd; split <;> simp
@[simp] theorem segEnd_rate_cycles (e : Env) (t : Stamp) (b : Blocks) :
    (segEnd e t b).rate.cycles = b.rate.cycles := by unfold segEnd; split <;> simp
@[simp] theorem segEnd_rate_wcur (e : Env) (t : Stamp) (b : Blocks) :
    (segEnd e t b).rate.wcur = b.rate.wcur := by unfold segEnd; split <;> simp
@[simp] theorem segEnd_header_op (e : Env) (t : Stamp) (b : Blocks) :
    (segEnd e t b).rate.header.op = b.rate.header.op := by unfold segEnd; split <;> simp
@[simp] theorem segEnd_header_sync (e : Env) (t : Stamp) (b : Blocks) :
    (segEnd e t b).rate.header.sync = b.rate.header.sync := by unfold segEnd; split <;> simp
@[simp] theorem segEnd_header_cycle (e : Env) (t : Stamp) (b : Blocks) :
    (segEnd e t b).rate.header.cycle = b.rate.header.cycle := by unfold segEnd; split <;> simp
@[simp] theorem segEnd_header_cut (e : Env) (t : Stamp) (b : Blocks) :
    (segEnd e t b).rate.header.cut = b.rate.header.cut := by unfold segEnd; split <;> simp
@[simp] theorem segEnd_header_load (e : Env) (t : Stamp) (b : Blocks) :
    (segEnd e t b).rate.header.load = b.rate.header.load := by unfold segEnd; split <;> simp
@[simp] theorem segEnd_header_surface (e : Env) (t : Stamp) (b : Blocks) :
    (segEnd e t b).rate.header.surface = b.rate.header.surface := by unfold segEnd; split <;> simp
@[simp] theorem segLoss_crank (e : Env) (b : Blocks) : (segLoss e b).crank = b.crank := by unfold segLoss; simp
@[simp] theorem segLoss_knock (e : Env) (b : Blocks) : (segLoss e b).knock = b.knock := by unfold segLoss; simp
@[simp] theorem segLoss_evq (e : Env) (b : Blocks) : (segLoss e b).evq = b.evq := by unfold segLoss; simp
@[simp] theorem segLoss_tap (e : Env) (b : Blocks) : (segLoss e b).tap = b.tap := by unfold segLoss; simp
@[simp] theorem segLoss_rate_cycles (e : Env) (b : Blocks) :
    (segLoss e b).rate.cycles = b.rate.cycles := by unfold segLoss; simp
@[simp] theorem segLoss_rate_wcur (e : Env) (b : Blocks) :
    (segLoss e b).rate.wcur = b.rate.wcur := by unfold segLoss; simp
@[simp] theorem segLoss_rate_rows (e : Env) (b : Blocks) :
    (segLoss e b).rate.rows = b.rate.rows := by unfold segLoss; simp
@[simp] theorem segLoss_header_op (e : Env) (b : Blocks) :
    (segLoss e b).rate.header.op = b.rate.header.op := by unfold segLoss; simp
@[simp] theorem segLoss_header_sync (e : Env) (b : Blocks) :
    (segLoss e b).rate.header.sync = b.rate.header.sync := by unfold segLoss; simp
@[simp] theorem segLoss_header_cycle (e : Env) (b : Blocks) :
    (segLoss e b).rate.header.cycle = b.rate.header.cycle := by unfold segLoss; simp
@[simp] theorem segLoss_header_rpm (e : Env) (b : Blocks) :
    (segLoss e b).rate.header.rpm = b.rate.header.rpm := by unfold segLoss; simp
@[simp] theorem segLoss_header_cut (e : Env) (b : Blocks) :
    (segLoss e b).rate.header.cut = b.rate.header.cut := by unfold segLoss; simp
@[simp] theorem segLoss_header_load (e : Env) (b : Blocks) :
    (segLoss e b).rate.header.load = b.rate.header.load := by unfold segLoss; simp
@[simp] theorem segLoss_header_surface (e : Env) (b : Blocks) :
    (segLoss e b).rate.header.surface = b.rate.header.surface := by unfold segLoss; simp
@[simp] theorem segLoss_header_flags (e : Env) (b : Blocks) :
    (segLoss e b).rate.header.flags = b.rate.header.flags := by unfold segLoss; simp
@[simp] theorem segLoss_header_producer (e : Env) (b : Blocks) :
    (segLoss e b).rate.header.producer = b.rate.header.producer := by unfold segLoss; simp

/-! ### KNOCK -/

@[simp] theorem fileWindow_crank (j : Nat) (v : WindowVerdict) (b : Blocks) :
    (fileWindow j v b).crank = b.crank := by unfold fileWindow; split <;> rfl
@[simp] theorem fileWindow_knock (j : Nat) (v : WindowVerdict) (b : Blocks) :
    (fileWindow j v b).knock = b.knock := by unfold fileWindow; split <;> rfl
@[simp] theorem fileWindow_evq (j : Nat) (v : WindowVerdict) (b : Blocks) :
    (fileWindow j v b).evq = b.evq := by unfold fileWindow; split <;> rfl
@[simp] theorem fileWindow_frz (j : Nat) (v : WindowVerdict) (b : Blocks) :
    (fileWindow j v b).frz = b.frz := by unfold fileWindow; split <;> rfl
@[simp] theorem fileWindow_rpw (j : Nat) (v : WindowVerdict) (b : Blocks) :
    (fileWindow j v b).rpw = b.rpw := by unfold fileWindow; split <;> rfl
@[simp] theorem fileWindow_tap (j : Nat) (v : WindowVerdict) (b : Blocks) :
    (fileWindow j v b).tap = b.tap := by unfold fileWindow; split <;> rfl
@[simp] theorem fileWindow_rate (j : Nat) (v : WindowVerdict) (b : Blocks) :
    (fileWindow j v b).rate = b.rate := by unfold fileWindow; split <;> rfl
@[simp] theorem finishWindow_crank (e : Env) (w : KnockWindow) (v : WindowVerdict) (t : Stamp) (b : Blocks) :
    (finishWindow e w v t b).crank = b.crank := by unfold finishWindow; simp
@[simp] theorem finishWindow_tap_tooth (e : Env) (w : KnockWindow) (v : WindowVerdict) (t : Stamp) (b : Blocks) :
    (finishWindow e w v t b).tap.tooth = b.tap.tooth := by unfold finishWindow; simp
@[simp] theorem finishWindow_tap_knock (e : Env) (w : KnockWindow) (v : WindowVerdict) (t : Stamp) (b : Blocks) :
    (finishWindow e w v t b).tap.knock = b.tap.knock := by unfold finishWindow; simp
@[simp] theorem finishWindow_tap_fifo (e : Env) (w : KnockWindow) (v : WindowVerdict) (t : Stamp) (b : Blocks) :
    (finishWindow e w v t b).tap.fifo = b.tap.fifo := by unfold finishWindow; simp
@[simp] theorem finishWindow_tap_note (e : Env) (w : KnockWindow) (v : WindowVerdict) (t : Stamp) (b : Blocks) :
    (finishWindow e w v t b).tap.note = b.tap.note := by unfold finishWindow; simp
@[simp] theorem finishWindow_tap_cut (e : Env) (w : KnockWindow) (v : WindowVerdict) (t : Stamp) (b : Blocks) :
    (finishWindow e w v t b).tap.cut = b.tap.cut := by unfold finishWindow; simp
@[simp] theorem finishWindow_tap_load (e : Env) (w : KnockWindow) (v : WindowVerdict) (t : Stamp) (b : Blocks) :
    (finishWindow e w v t b).tap.load = b.tap.load := by unfold finishWindow; simp
@[simp] theorem finishWindow_tap_surface (e : Env) (w : KnockWindow) (v : WindowVerdict) (t : Stamp) (b : Blocks) :
    (finishWindow e w v t b).tap.surface = b.tap.surface := by unfold finishWindow; simp
@[simp] theorem finishWindow_rate_cycles (e : Env) (w : KnockWindow) (v : WindowVerdict) (t : Stamp) (b : Blocks) :
    (finishWindow e w v t b).rate.cycles = b.rate.cycles := by unfold finishWindow; simp
@[simp] theorem finishWindow_rate_wcur (e : Env) (w : KnockWindow) (v : WindowVerdict) (t : Stamp) (b : Blocks) :
    (finishWindow e w v t b).rate.wcur = b.rate.wcur := by unfold finishWindow; simp
@[simp] theorem finishWindow_header_op (e : Env) (w : KnockWindow) (v : WindowVerdict) (t : Stamp) (b : Blocks) :
    (finishWindow e w v t b).rate.header.op = b.rate.header.op := by unfold finishWindow; simp
@[simp] theorem finishWindow_header_sync (e : Env) (w : KnockWindow) (v : WindowVerdict) (t : Stamp) (b : Blocks) :
    (finishWindow e w v t b).rate.header.sync = b.rate.header.sync := by unfold finishWindow; simp
@[simp] theorem finishWindow_header_cycle (e : Env) (w : KnockWindow) (v : WindowVerdict) (t : Stamp) (b : Blocks) :
    (finishWindow e w v t b).rate.header.cycle = b.rate.header.cycle := by unfold finishWindow; simp
@[simp] theorem finishWindow_header_rpm (e : Env) (w : KnockWindow) (v : WindowVerdict) (t : Stamp) (b : Blocks) :
    (finishWindow e w v t b).rate.header.rpm = b.rate.header.rpm := by unfold finishWindow; simp
@[simp] theorem finishWindow_header_cut (e : Env) (w : KnockWindow) (v : WindowVerdict) (t : Stamp) (b : Blocks) :
    (finishWindow e w v t b).rate.header.cut = b.rate.header.cut := by unfold finishWindow; simp
@[simp] theorem finishWindow_header_load (e : Env) (w : KnockWindow) (v : WindowVerdict) (t : Stamp) (b : Blocks) :
    (finishWindow e w v t b).rate.header.load = b.rate.header.load := by unfold finishWindow; simp
@[simp] theorem finishWindow_header_surface (e : Env) (w : KnockWindow) (v : WindowVerdict) (t : Stamp) (b : Blocks) :
    (finishWindow e w v t b).rate.header.surface = b.rate.header.surface := by unfold finishWindow; simp
@[simp] theorem knockClose_crank (e : Env) (t : Stamp) (b : Blocks) :
    (knockClose e t b).crank = b.crank := by unfold knockClose; split <;> simp
@[simp] theorem knockClose_tap_tooth (e : Env) (t : Stamp) (b : Blocks) :
    (knockClose e t b).tap.tooth = b.tap.tooth := by unfold knockClose; split <;> simp
@[simp] theorem knockClose_tap_knock (e : Env) (t : Stamp) (b : Blocks) :
    (knockClose e t b).tap.knock = b.tap.knock := by unfold knockClose; split <;> simp
@[simp] theorem knockClose_tap_fifo (e : Env) (t : Stamp) (b : Blocks) :
    (knockClose e t b).tap.fifo = b.tap.fifo := by unfold knockClose; split <;> simp
@[simp] theorem knockClose_tap_note (e : Env) (t : Stamp) (b : Blocks) :
    (knockClose e t b).tap.note = b.tap.note := by unfold knockClose; split <;> simp
@[simp] theorem knockClose_tap_cut (e : Env) (t : Stamp) (b : Blocks) :
    (knockClose e t b).tap.cut = b.tap.cut := by unfold knockClose; split <;> simp
@[simp] theorem knockClose_tap_load (e : Env) (t : Stamp) (b : Blocks) :
    (knockClose e t b).tap.load = b.tap.load := by unfold knockClose; split <;> simp
@[simp] theorem knockClose_tap_surface (e : Env) (t : Stamp) (b : Blocks) :
    (knockClose e t b).tap.surface = b.tap.surface := by unfold knockClose; split <;> simp
@[simp] theorem knockClose_rate_cycles (e : Env) (t : Stamp) (b : Blocks) :
    (knockClose e t b).rate.cycles = b.rate.cycles := by unfold knockClose; split <;> simp
@[simp] theorem knockClose_rate_wcur (e : Env) (t : Stamp) (b : Blocks) :
    (knockClose e t b).rate.wcur = b.rate.wcur := by unfold knockClose; split <;> simp
@[simp] theorem knockClose_header_op (e : Env) (t : Stamp) (b : Blocks) :
    (knockClose e t b).rate.header.op = b.rate.header.op := by unfold knockClose; split <;> simp
@[simp] theorem knockClose_header_sync (e : Env) (t : Stamp) (b : Blocks) :
    (knockClose e t b).rate.header.sync = b.rate.header.sync := by unfold knockClose; split <;> simp
@[simp] theorem knockClose_header_cycle (e : Env) (t : Stamp) (b : Blocks) :
    (knockClose e t b).rate.header.cycle = b.rate.header.cycle := by unfold knockClose; split <;> simp
@[simp] theorem knockClose_header_rpm (e : Env) (t : Stamp) (b : Blocks) :
    (knockClose e t b).rate.header.rpm = b.rate.header.rpm := by unfold knockClose; split <;> simp
@[simp] theorem knockClose_header_cut (e : Env) (t : Stamp) (b : Blocks) :
    (knockClose e t b).rate.header.cut = b.rate.header.cut := by unfold knockClose; split <;> simp
@[simp] theorem knockClose_header_load (e : Env) (t : Stamp) (b : Blocks) :
    (knockClose e t b).rate.header.load = b.rate.header.load := by unfold knockClose; split <;> simp
@[simp] theorem knockClose_header_surface (e : Env) (t : Stamp) (b : Blocks) :
    (knockClose e t b).rate.header.surface = b.rate.header.surface := by unfold knockClose; split <;> simp

/-! ### CRANK -/

@[simp] theorem moveCrank_seg (e : Env) (c : Crank) (b : Blocks) :
    (moveCrank e c b).seg = b.seg := by unfold moveCrank; simp
@[simp] theorem moveCrank_knock (e : Env) (c : Crank) (b : Blocks) :
    (moveCrank e c b).knock = b.knock := by unfold moveCrank; simp
@[simp] theorem moveCrank_evq (e : Env) (c : Crank) (b : Blocks) :
    (moveCrank e c b).evq = b.evq := by unfold moveCrank; simp
@[simp] theorem moveCrank_frz (e : Env) (c : Crank) (b : Blocks) :
    (moveCrank e c b).frz = b.frz := by unfold moveCrank; simp
@[simp] theorem moveCrank_tap (e : Env) (c : Crank) (b : Blocks) :
    (moveCrank e c b).tap = b.tap := by unfold moveCrank; simp
@[simp] theorem moveCrank_rate_cycles (e : Env) (c : Crank) (b : Blocks) :
    (moveCrank e c b).rate.cycles = b.rate.cycles := by unfold moveCrank; simp
@[simp] theorem moveCrank_rate_wcur (e : Env) (c : Crank) (b : Blocks) :
    (moveCrank e c b).rate.wcur = b.rate.wcur := by unfold moveCrank; simp
@[simp] theorem moveCrank_rate_rows (e : Env) (c : Crank) (b : Blocks) :
    (moveCrank e c b).rate.rows = b.rate.rows := by unfold moveCrank; simp
@[simp] theorem moveCrank_header_op (e : Env) (c : Crank) (b : Blocks) :
    (moveCrank e c b).rate.header.op = b.rate.header.op := by unfold moveCrank; simp
@[simp] theorem moveCrank_header_cycle (e : Env) (c : Crank) (b : Blocks) :
    (moveCrank e c b).rate.header.cycle = b.rate.header.cycle := by unfold moveCrank; simp
@[simp] theorem moveCrank_header_rpm (e : Env) (c : Crank) (b : Blocks) :
    (moveCrank e c b).rate.header.rpm = b.rate.header.rpm := by unfold moveCrank; simp
@[simp] theorem moveCrank_header_cut (e : Env) (c : Crank) (b : Blocks) :
    (moveCrank e c b).rate.header.cut = b.rate.header.cut := by unfold moveCrank; simp
@[simp] theorem moveCrank_header_load (e : Env) (c : Crank) (b : Blocks) :
    (moveCrank e c b).rate.header.load = b.rate.header.load := by unfold moveCrank; simp
@[simp] theorem moveCrank_header_surface (e : Env) (c : Crank) (b : Blocks) :
    (moveCrank e c b).rate.header.surface = b.rate.header.surface := by unfold moveCrank; simp
@[simp] theorem moveCrank_header_flags (e : Env) (c : Crank) (b : Blocks) :
    (moveCrank e c b).rate.header.flags = b.rate.header.flags := by unfold moveCrank; simp
@[simp] theorem moveCrank_header_producer (e : Env) (c : Crank) (b : Blocks) :
    (moveCrank e c b).rate.header.producer = b.rate.header.producer := by unfold moveCrank; simp
@[simp] theorem moveCrank_header_freeze (e : Env) (c : Crank) (b : Blocks) :
    (moveCrank e c b).rate.header.freeze = b.rate.header.freeze := by unfold moveCrank; simp
@[simp] theorem moveCrank_crank (e : Env) (c : Crank) (b : Blocks) :
    (moveCrank e c b).crank = c := by unfold moveCrank; simp
@[simp] theorem moveCrank_header_sync (e : Env) (c : Crank) (b : Blocks) :
    (moveCrank e c b).rate.header.sync = c.sync := by unfold moveCrank; simp
@[simp] theorem lossNotices_crank (e : Env) (b : Blocks) :
    (lossNotices e b).crank = b.crank := by unfold lossNotices; simp
@[simp] theorem lossNotices_evq (e : Env) (b : Blocks) : (lossNotices e b).evq = b.evq := by unfold lossNotices; simp
@[simp] theorem lossNotices_tap (e : Env) (b : Blocks) : (lossNotices e b).tap = b.tap := by unfold lossNotices; simp
@[simp] theorem lossNotices_rate_cycles (e : Env) (b : Blocks) :
    (lossNotices e b).rate.cycles = b.rate.cycles := by unfold lossNotices; simp
@[simp] theorem lossNotices_rate_wcur (e : Env) (b : Blocks) :
    (lossNotices e b).rate.wcur = b.rate.wcur := by unfold lossNotices; simp
@[simp] theorem lossNotices_rate_rows (e : Env) (b : Blocks) :
    (lossNotices e b).rate.rows = b.rate.rows := by unfold lossNotices; simp
@[simp] theorem lossNotices_header_op (e : Env) (b : Blocks) :
    (lossNotices e b).rate.header.op = b.rate.header.op := by unfold lossNotices; simp
@[simp] theorem lossNotices_header_sync (e : Env) (b : Blocks) :
    (lossNotices e b).rate.header.sync = b.rate.header.sync := by unfold lossNotices; simp
@[simp] theorem lossNotices_header_cycle (e : Env) (b : Blocks) :
    (lossNotices e b).rate.header.cycle = b.rate.header.cycle := by unfold lossNotices; simp
@[simp] theorem lossNotices_header_rpm (e : Env) (b : Blocks) :
    (lossNotices e b).rate.header.rpm = b.rate.header.rpm := by unfold lossNotices; simp
@[simp] theorem lossNotices_header_cut (e : Env) (b : Blocks) :
    (lossNotices e b).rate.header.cut = b.rate.header.cut := by unfold lossNotices; simp
@[simp] theorem lossNotices_header_load (e : Env) (b : Blocks) :
    (lossNotices e b).rate.header.load = b.rate.header.load := by unfold lossNotices; simp
@[simp] theorem lossNotices_header_surface (e : Env) (b : Blocks) :
    (lossNotices e b).rate.header.surface = b.rate.header.surface := by unfold lossNotices; simp
@[simp] theorem lossNotices_header_flags (e : Env) (b : Blocks) :
    (lossNotices e b).rate.header.flags = b.rate.header.flags := by unfold lossNotices; simp
@[simp] theorem lossNotices_header_producer (e : Env) (b : Blocks) :
    (lossNotices e b).rate.header.producer = b.rate.header.producer := by unfold lossNotices; simp
@[simp] theorem loseTo_tap_tooth (e : Env) (c : Crank) (ev : Event) (b : Blocks) :
    (loseTo e c ev b).tap.tooth = b.tap.tooth := by unfold loseTo; (repeat' split) <;> simp
@[simp] theorem loseTo_tap_knock (e : Env) (c : Crank) (ev : Event) (b : Blocks) :
    (loseTo e c ev b).tap.knock = b.tap.knock := by unfold loseTo; (repeat' split) <;> simp
@[simp] theorem loseTo_tap_fifo (e : Env) (c : Crank) (ev : Event) (b : Blocks) :
    (loseTo e c ev b).tap.fifo = b.tap.fifo := by unfold loseTo; (repeat' split) <;> simp
@[simp] theorem loseTo_tap_note (e : Env) (c : Crank) (ev : Event) (b : Blocks) :
    (loseTo e c ev b).tap.note = b.tap.note := by unfold loseTo; (repeat' split) <;> simp
@[simp] theorem loseTo_tap_cut (e : Env) (c : Crank) (ev : Event) (b : Blocks) :
    (loseTo e c ev b).tap.cut = b.tap.cut := by unfold loseTo; (repeat' split) <;> simp
@[simp] theorem loseTo_tap_load (e : Env) (c : Crank) (ev : Event) (b : Blocks) :
    (loseTo e c ev b).tap.load = b.tap.load := by unfold loseTo; (repeat' split) <;> simp
@[simp] theorem loseTo_tap_surface (e : Env) (c : Crank) (ev : Event) (b : Blocks) :
    (loseTo e c ev b).tap.surface = b.tap.surface := by unfold loseTo; (repeat' split) <;> simp
@[simp] theorem loseTo_rate_cycles (e : Env) (c : Crank) (ev : Event) (b : Blocks) :
    (loseTo e c ev b).rate.cycles = b.rate.cycles := by unfold loseTo; (repeat' split) <;> simp
@[simp] theorem loseTo_rate_wcur (e : Env) (c : Crank) (ev : Event) (b : Blocks) :
    (loseTo e c ev b).rate.wcur = b.rate.wcur := by unfold loseTo; (repeat' split) <;> simp
@[simp] theorem loseTo_rate_rows (e : Env) (c : Crank) (ev : Event) (b : Blocks) :
    (loseTo e c ev b).rate.rows = b.rate.rows := by unfold loseTo; (repeat' split) <;> simp
@[simp] theorem loseTo_header_op (e : Env) (c : Crank) (ev : Event) (b : Blocks) :
    (loseTo e c ev b).rate.header.op = b.rate.header.op := by unfold loseTo; (repeat' split) <;> simp
@[simp] theorem loseTo_header_cycle (e : Env) (c : Crank) (ev : Event) (b : Blocks) :
    (loseTo e c ev b).rate.header.cycle = b.rate.header.cycle := by unfold loseTo; (repeat' split) <;> simp
@[simp] theorem loseTo_header_rpm (e : Env) (c : Crank) (ev : Event) (b : Blocks) :
    (loseTo e c ev b).rate.header.rpm = b.rate.header.rpm := by unfold loseTo; (repeat' split) <;> simp
@[simp] theorem loseTo_header_cut (e : Env) (c : Crank) (ev : Event) (b : Blocks) :
    (loseTo e c ev b).rate.header.cut = b.rate.header.cut := by unfold loseTo; (repeat' split) <;> simp
@[simp] theorem loseTo_header_load (e : Env) (c : Crank) (ev : Event) (b : Blocks) :
    (loseTo e c ev b).rate.header.load = b.rate.header.load := by unfold loseTo; (repeat' split) <;> simp
@[simp] theorem loseTo_header_surface (e : Env) (c : Crank) (ev : Event) (b : Blocks) :
    (loseTo e c ev b).rate.header.surface = b.rate.header.surface := by unfold loseTo; (repeat' split) <;> simp
@[simp] theorem lossOfSync_tap_tooth (e : Env) (r : LossReason) (o : Option Stamp) (n : Nat) (t : Stamp) (b : Blocks) :
    (lossOfSync e r o n t b).tap.tooth = b.tap.tooth := by unfold lossOfSync; simp
@[simp] theorem lossOfSync_tap_knock (e : Env) (r : LossReason) (o : Option Stamp) (n : Nat) (t : Stamp) (b : Blocks) :
    (lossOfSync e r o n t b).tap.knock = b.tap.knock := by unfold lossOfSync; simp
@[simp] theorem lossOfSync_tap_fifo (e : Env) (r : LossReason) (o : Option Stamp) (n : Nat) (t : Stamp) (b : Blocks) :
    (lossOfSync e r o n t b).tap.fifo = b.tap.fifo := by unfold lossOfSync; simp
@[simp] theorem lossOfSync_tap_note (e : Env) (r : LossReason) (o : Option Stamp) (n : Nat) (t : Stamp) (b : Blocks) :
    (lossOfSync e r o n t b).tap.note = b.tap.note := by unfold lossOfSync; simp
@[simp] theorem lossOfSync_tap_cut (e : Env) (r : LossReason) (o : Option Stamp) (n : Nat) (t : Stamp) (b : Blocks) :
    (lossOfSync e r o n t b).tap.cut = b.tap.cut := by unfold lossOfSync; simp
@[simp] theorem lossOfSync_tap_load (e : Env) (r : LossReason) (o : Option Stamp) (n : Nat) (t : Stamp) (b : Blocks) :
    (lossOfSync e r o n t b).tap.load = b.tap.load := by unfold lossOfSync; simp
@[simp] theorem lossOfSync_tap_surface (e : Env) (r : LossReason) (o : Option Stamp) (n : Nat) (t : Stamp) (b : Blocks) :
    (lossOfSync e r o n t b).tap.surface = b.tap.surface := by unfold lossOfSync; simp
@[simp] theorem lossOfSync_rate_cycles (e : Env) (r : LossReason) (o : Option Stamp) (n : Nat) (t : Stamp) (b : Blocks) :
    (lossOfSync e r o n t b).rate.cycles = b.rate.cycles := by unfold lossOfSync; simp
@[simp] theorem lossOfSync_rate_wcur (e : Env) (r : LossReason) (o : Option Stamp) (n : Nat) (t : Stamp) (b : Blocks) :
    (lossOfSync e r o n t b).rate.wcur = b.rate.wcur := by unfold lossOfSync; simp
@[simp] theorem lossOfSync_rate_rows (e : Env) (r : LossReason) (o : Option Stamp) (n : Nat) (t : Stamp) (b : Blocks) :
    (lossOfSync e r o n t b).rate.rows = b.rate.rows := by unfold lossOfSync; simp
@[simp] theorem lossOfSync_header_op (e : Env) (r : LossReason) (o : Option Stamp) (n : Nat) (t : Stamp) (b : Blocks) :
    (lossOfSync e r o n t b).rate.header.op = b.rate.header.op := by unfold lossOfSync; simp
@[simp] theorem lossOfSync_header_cycle (e : Env) (r : LossReason) (o : Option Stamp) (n : Nat) (t : Stamp) (b : Blocks) :
    (lossOfSync e r o n t b).rate.header.cycle = b.rate.header.cycle := by unfold lossOfSync; simp
@[simp] theorem lossOfSync_header_rpm (e : Env) (r : LossReason) (o : Option Stamp) (n : Nat) (t : Stamp) (b : Blocks) :
    (lossOfSync e r o n t b).rate.header.rpm = b.rate.header.rpm := by unfold lossOfSync; simp
@[simp] theorem lossOfSync_header_cut (e : Env) (r : LossReason) (o : Option Stamp) (n : Nat) (t : Stamp) (b : Blocks) :
    (lossOfSync e r o n t b).rate.header.cut = b.rate.header.cut := by unfold lossOfSync; simp
@[simp] theorem lossOfSync_header_load (e : Env) (r : LossReason) (o : Option Stamp) (n : Nat) (t : Stamp) (b : Blocks) :
    (lossOfSync e r o n t b).rate.header.load = b.rate.header.load := by unfold lossOfSync; simp
@[simp] theorem lossOfSync_header_surface (e : Env) (r : LossReason) (o : Option Stamp) (n : Nat) (t : Stamp) (b : Blocks) :
    (lossOfSync e r o n t b).rate.header.surface = b.rate.header.surface := by unfold lossOfSync; simp
@[simp] theorem glitchTooth_tap_tooth (e : Env) (t : Stamp) (b : Blocks) :
    (glitchTooth e t b).tap.tooth = b.tap.tooth := by unfold glitchTooth; (repeat' split) <;> simp
@[simp] theorem glitchTooth_tap_knock (e : Env) (t : Stamp) (b : Blocks) :
    (glitchTooth e t b).tap.knock = b.tap.knock := by unfold glitchTooth; (repeat' split) <;> simp
@[simp] theorem glitchTooth_tap_fifo (e : Env) (t : Stamp) (b : Blocks) :
    (glitchTooth e t b).tap.fifo = b.tap.fifo := by unfold glitchTooth; (repeat' split) <;> simp
@[simp] theorem glitchTooth_tap_note (e : Env) (t : Stamp) (b : Blocks) :
    (glitchTooth e t b).tap.note = b.tap.note := by unfold glitchTooth; (repeat' split) <;> simp
@[simp] theorem glitchTooth_tap_cut (e : Env) (t : Stamp) (b : Blocks) :
    (glitchTooth e t b).tap.cut = b.tap.cut := by unfold glitchTooth; (repeat' split) <;> simp
@[simp] theorem glitchTooth_tap_load (e : Env) (t : Stamp) (b : Blocks) :
    (glitchTooth e t b).tap.load = b.tap.load := by unfold glitchTooth; (repeat' split) <;> simp
@[simp] theorem glitchTooth_tap_surface (e : Env) (t : Stamp) (b : Blocks) :
    (glitchTooth e t b).tap.surface = b.tap.surface := by unfold glitchTooth; (repeat' split) <;> simp
@[simp] theorem glitchTooth_rate_cycles (e : Env) (t : Stamp) (b : Blocks) :
    (glitchTooth e t b).rate.cycles = b.rate.cycles := by unfold glitchTooth; (repeat' split) <;> simp
@[simp] theorem glitchTooth_rate_wcur (e : Env) (t : Stamp) (b : Blocks) :
    (glitchTooth e t b).rate.wcur = b.rate.wcur := by unfold glitchTooth; (repeat' split) <;> simp
@[simp] theorem glitchTooth_rate_rows (e : Env) (t : Stamp) (b : Blocks) :
    (glitchTooth e t b).rate.rows = b.rate.rows := by unfold glitchTooth; (repeat' split) <;> simp
@[simp] theorem glitchTooth_header_op (e : Env) (t : Stamp) (b : Blocks) :
    (glitchTooth e t b).rate.header.op = b.rate.header.op := by unfold glitchTooth; (repeat' split) <;> simp
@[simp] theorem glitchTooth_header_cycle (e : Env) (t : Stamp) (b : Blocks) :
    (glitchTooth e t b).rate.header.cycle = b.rate.header.cycle := by unfold glitchTooth; (repeat' split) <;> simp
@[simp] theorem glitchTooth_header_rpm (e : Env) (t : Stamp) (b : Blocks) :
    (glitchTooth e t b).rate.header.rpm = b.rate.header.rpm := by unfold glitchTooth; (repeat' split) <;> simp
@[simp] theorem glitchTooth_header_cut (e : Env) (t : Stamp) (b : Blocks) :
    (glitchTooth e t b).rate.header.cut = b.rate.header.cut := by unfold glitchTooth; (repeat' split) <;> simp
@[simp] theorem glitchTooth_header_load (e : Env) (t : Stamp) (b : Blocks) :
    (glitchTooth e t b).rate.header.load = b.rate.header.load := by unfold glitchTooth; (repeat' split) <;> simp
@[simp] theorem glitchTooth_header_surface (e : Env) (t : Stamp) (b : Blocks) :
    (glitchTooth e t b).rate.header.surface = b.rate.header.surface := by unfold glitchTooth; (repeat' split) <;> simp
@[simp] theorem countUnphased_seg (e : Env) (t : Stamp) (b : Blocks) :
    (countUnphased e t b).seg = b.seg := by unfold countUnphased; dsimp only; split <;> simp
@[simp] theorem countUnphased_knock (e : Env) (t : Stamp) (b : Blocks) :
    (countUnphased e t b).knock = b.knock := by unfold countUnphased; dsimp only; split <;> simp
@[simp] theorem countUnphased_tap_tooth (e : Env) (t : Stamp) (b : Blocks) :
    (countUnphased e t b).tap.tooth = b.tap.tooth := by unfold countUnphased; dsimp only; split <;> simp
@[simp] theorem countUnphased_tap_knock (e : Env) (t : Stamp) (b : Blocks) :
    (countUnphased e t b).tap.knock = b.tap.knock := by unfold countUnphased; dsimp only; split <;> simp
@[simp] theorem countUnphased_tap_fifo (e : Env) (t : Stamp) (b : Blocks) :
    (countUnphased e t b).tap.fifo = b.tap.fifo := by unfold countUnphased; dsimp only; split <;> simp
@[simp] theorem countUnphased_tap_note (e : Env) (t : Stamp) (b : Blocks) :
    (countUnphased e t b).tap.note = b.tap.note := by unfold countUnphased; dsimp only; split <;> simp
@[simp] theorem countUnphased_tap_cut (e : Env) (t : Stamp) (b : Blocks) :
    (countUnphased e t b).tap.cut = b.tap.cut := by unfold countUnphased; dsimp only; split <;> simp
@[simp] theorem countUnphased_tap_load (e : Env) (t : Stamp) (b : Blocks) :
    (countUnphased e t b).tap.load = b.tap.load := by unfold countUnphased; dsimp only; split <;> simp
@[simp] theorem countUnphased_tap_surface (e : Env) (t : Stamp) (b : Blocks) :
    (countUnphased e t b).tap.surface = b.tap.surface := by unfold countUnphased; dsimp only; split <;> simp
@[simp] theorem countUnphased_rate_cycles (e : Env) (t : Stamp) (b : Blocks) :
    (countUnphased e t b).rate.cycles = b.rate.cycles := by unfold countUnphased; dsimp only; split <;> simp
@[simp] theorem countUnphased_rate_wcur (e : Env) (t : Stamp) (b : Blocks) :
    (countUnphased e t b).rate.wcur = b.rate.wcur := by unfold countUnphased; dsimp only; split <;> simp
@[simp] theorem countUnphased_rate_rows (e : Env) (t : Stamp) (b : Blocks) :
    (countUnphased e t b).rate.rows = b.rate.rows := by unfold countUnphased; dsimp only; split <;> simp
@[simp] theorem countUnphased_header_op (e : Env) (t : Stamp) (b : Blocks) :
    (countUnphased e t b).rate.header.op = b.rate.header.op := by unfold countUnphased; dsimp only; split <;> simp
@[simp] theorem countUnphased_header_sync (e : Env) (t : Stamp) (b : Blocks) :
    (countUnphased e t b).rate.header.sync = b.rate.header.sync := by unfold countUnphased; dsimp only; split <;> simp
@[simp] theorem countUnphased_header_cycle (e : Env) (t : Stamp) (b : Blocks) :
    (countUnphased e t b).rate.header.cycle = b.rate.header.cycle := by unfold countUnphased; dsimp only; split <;> simp
@[simp] theorem countUnphased_header_rpm (e : Env) (t : Stamp) (b : Blocks) :
    (countUnphased e t b).rate.header.rpm = b.rate.header.rpm := by unfold countUnphased; dsimp only; split <;> simp
@[simp] theorem countUnphased_header_cut (e : Env) (t : Stamp) (b : Blocks) :
    (countUnphased e t b).rate.header.cut = b.rate.header.cut := by unfold countUnphased; dsimp only; split <;> simp
@[simp] theorem countUnphased_header_load (e : Env) (t : Stamp) (b : Blocks) :
    (countUnphased e t b).rate.header.load = b.rate.header.load := by unfold countUnphased; dsimp only; split <;> simp
@[simp] theorem countUnphased_header_surface (e : Env) (t : Stamp) (b : Blocks) :
    (countUnphased e t b).rate.header.surface = b.rate.header.surface := by unfold countUnphased; dsimp only; split <;> simp
@[simp] theorem phaseLoss_tap_tooth (e : Env) (t : Stamp) (b : Blocks) :
    (phaseLoss e t b).tap.tooth = b.tap.tooth := by unfold phaseLoss; simp
@[simp] theorem phaseLoss_tap_knock (e : Env) (t : Stamp) (b : Blocks) :
    (phaseLoss e t b).tap.knock = b.tap.knock := by unfold phaseLoss; simp
@[simp] theorem phaseLoss_tap_fifo (e : Env) (t : Stamp) (b : Blocks) :
    (phaseLoss e t b).tap.fifo = b.tap.fifo := by unfold phaseLoss; simp
@[simp] theorem phaseLoss_tap_note (e : Env) (t : Stamp) (b : Blocks) :
    (phaseLoss e t b).tap.note = b.tap.note := by unfold phaseLoss; simp
@[simp] theorem phaseLoss_tap_cut (e : Env) (t : Stamp) (b : Blocks) :
    (phaseLoss e t b).tap.cut = b.tap.cut := by unfold phaseLoss; simp
@[simp] theorem phaseLoss_tap_load (e : Env) (t : Stamp) (b : Blocks) :
    (phaseLoss e t b).tap.load = b.tap.load := by unfold phaseLoss; simp
@[simp] theorem phaseLoss_tap_surface (e : Env) (t : Stamp) (b : Blocks) :
    (phaseLoss e t b).tap.surface = b.tap.surface := by unfold phaseLoss; simp
@[simp] theorem phaseLoss_rate_cycles (e : Env) (t : Stamp) (b : Blocks) :
    (phaseLoss e t b).rate.cycles = b.rate.cycles := by unfold phaseLoss; simp
@[simp] theorem phaseLoss_rate_wcur (e : Env) (t : Stamp) (b : Blocks) :
    (phaseLoss e t b).rate.wcur = b.rate.wcur := by unfold phaseLoss; simp
@[simp] theorem phaseLoss_rate_rows (e : Env) (t : Stamp) (b : Blocks) :
    (phaseLoss e t b).rate.rows = b.rate.rows := by unfold phaseLoss; simp
@[simp] theorem phaseLoss_header_op (e : Env) (t : Stamp) (b : Blocks) :
    (phaseLoss e t b).rate.header.op = b.rate.header.op := by unfold phaseLoss; simp
@[simp] theorem phaseLoss_header_cycle (e : Env) (t : Stamp) (b : Blocks) :
    (phaseLoss e t b).rate.header.cycle = b.rate.header.cycle := by unfold phaseLoss; simp
@[simp] theorem phaseLoss_header_rpm (e : Env) (t : Stamp) (b : Blocks) :
    (phaseLoss e t b).rate.header.rpm = b.rate.header.rpm := by unfold phaseLoss; simp
@[simp] theorem phaseLoss_header_cut (e : Env) (t : Stamp) (b : Blocks) :
    (phaseLoss e t b).rate.header.cut = b.rate.header.cut := by unfold phaseLoss; simp
@[simp] theorem phaseLoss_header_load (e : Env) (t : Stamp) (b : Blocks) :
    (phaseLoss e t b).rate.header.load = b.rate.header.load := by unfold phaseLoss; simp
@[simp] theorem phaseLoss_header_surface (e : Env) (t : Stamp) (b : Blocks) :
    (phaseLoss e t b).rate.header.surface = b.rate.header.surface := by unfold phaseLoss; simp
@[simp] theorem spanMissing_seg (e : Env) (t : Stamp) (b : Blocks) :
    (spanMissing e t b).seg = b.seg := by unfold spanMissing; (repeat' split) <;> simp
@[simp] theorem spanMissing_knock (e : Env) (t : Stamp) (b : Blocks) :
    (spanMissing e t b).knock = b.knock := by unfold spanMissing; (repeat' split) <;> simp
@[simp] theorem spanMissing_tap_tooth (e : Env) (t : Stamp) (b : Blocks) :
    (spanMissing e t b).tap.tooth = b.tap.tooth := by unfold spanMissing; (repeat' split) <;> simp
@[simp] theorem spanMissing_tap_knock (e : Env) (t : Stamp) (b : Blocks) :
    (spanMissing e t b).tap.knock = b.tap.knock := by unfold spanMissing; (repeat' split) <;> simp
@[simp] theorem spanMissing_tap_fifo (e : Env) (t : Stamp) (b : Blocks) :
    (spanMissing e t b).tap.fifo = b.tap.fifo := by unfold spanMissing; (repeat' split) <;> simp
@[simp] theorem spanMissing_tap_note (e : Env) (t : Stamp) (b : Blocks) :
    (spanMissing e t b).tap.note = b.tap.note := by unfold spanMissing; (repeat' split) <;> simp
@[simp] theorem spanMissing_tap_cut (e : Env) (t : Stamp) (b : Blocks) :
    (spanMissing e t b).tap.cut = b.tap.cut := by unfold spanMissing; (repeat' split) <;> simp
@[simp] theorem spanMissing_tap_load (e : Env) (t : Stamp) (b : Blocks) :
    (spanMissing e t b).tap.load = b.tap.load := by unfold spanMissing; (repeat' split) <;> simp
@[simp] theorem spanMissing_tap_surface (e : Env) (t : Stamp) (b : Blocks) :
    (spanMissing e t b).tap.surface = b.tap.surface := by unfold spanMissing; (repeat' split) <;> simp
@[simp] theorem spanMissing_rate_cycles (e : Env) (t : Stamp) (b : Blocks) :
    (spanMissing e t b).rate.cycles = b.rate.cycles := by unfold spanMissing; (repeat' split) <;> simp
@[simp] theorem spanMissing_rate_wcur (e : Env) (t : Stamp) (b : Blocks) :
    (spanMissing e t b).rate.wcur = b.rate.wcur := by unfold spanMissing; (repeat' split) <;> simp
@[simp] theorem spanMissing_rate_rows (e : Env) (t : Stamp) (b : Blocks) :
    (spanMissing e t b).rate.rows = b.rate.rows := by unfold spanMissing; (repeat' split) <;> simp
@[simp] theorem spanMissing_header_op (e : Env) (t : Stamp) (b : Blocks) :
    (spanMissing e t b).rate.header.op = b.rate.header.op := by unfold spanMissing; (repeat' split) <;> simp
@[simp] theorem spanMissing_header_sync (e : Env) (t : Stamp) (b : Blocks) :
    (spanMissing e t b).rate.header.sync = b.rate.header.sync := by unfold spanMissing; (repeat' split) <;> simp
@[simp] theorem spanMissing_header_cycle (e : Env) (t : Stamp) (b : Blocks) :
    (spanMissing e t b).rate.header.cycle = b.rate.header.cycle := by unfold spanMissing; (repeat' split) <;> simp
@[simp] theorem spanMissing_header_rpm (e : Env) (t : Stamp) (b : Blocks) :
    (spanMissing e t b).rate.header.rpm = b.rate.header.rpm := by unfold spanMissing; (repeat' split) <;> simp
@[simp] theorem spanMissing_header_cut (e : Env) (t : Stamp) (b : Blocks) :
    (spanMissing e t b).rate.header.cut = b.rate.header.cut := by unfold spanMissing; (repeat' split) <;> simp
@[simp] theorem spanMissing_header_load (e : Env) (t : Stamp) (b : Blocks) :
    (spanMissing e t b).rate.header.load = b.rate.header.load := by unfold spanMissing; (repeat' split) <;> simp
@[simp] theorem spanMissing_header_surface (e : Env) (t : Stamp) (b : Blocks) :
    (spanMissing e t b).rate.header.surface = b.rate.header.surface := by unfold spanMissing; (repeat' split) <;> simp
@[simp] theorem closeSpan_tap_tooth (e : Env) (t : Stamp) (b : Blocks) :
    (closeSpan e t b).tap.tooth = b.tap.tooth := by unfold closeSpan; (repeat' split) <;> simp
@[simp] theorem closeSpan_tap_knock (e : Env) (t : Stamp) (b : Blocks) :
    (closeSpan e t b).tap.knock = b.tap.knock := by unfold closeSpan; (repeat' split) <;> simp
@[simp] theorem closeSpan_tap_fifo (e : Env) (t : Stamp) (b : Blocks) :
    (closeSpan e t b).tap.fifo = b.tap.fifo := by unfold closeSpan; (repeat' split) <;> simp
@[simp] theorem closeSpan_tap_note (e : Env) (t : Stamp) (b : Blocks) :
    (closeSpan e t b).tap.note = b.tap.note := by unfold closeSpan; (repeat' split) <;> simp
@[simp] theorem closeSpan_tap_cut (e : Env) (t : Stamp) (b : Blocks) :
    (closeSpan e t b).tap.cut = b.tap.cut := by unfold closeSpan; (repeat' split) <;> simp
@[simp] theorem closeSpan_tap_load (e : Env) (t : Stamp) (b : Blocks) :
    (closeSpan e t b).tap.load = b.tap.load := by unfold closeSpan; (repeat' split) <;> simp
@[simp] theorem closeSpan_tap_surface (e : Env) (t : Stamp) (b : Blocks) :
    (closeSpan e t b).tap.surface = b.tap.surface := by unfold closeSpan; (repeat' split) <;> simp
@[simp] theorem closeSpan_rate_cycles (e : Env) (t : Stamp) (b : Blocks) :
    (closeSpan e t b).rate.cycles = b.rate.cycles := by unfold closeSpan; (repeat' split) <;> simp
@[simp] theorem closeSpan_rate_wcur (e : Env) (t : Stamp) (b : Blocks) :
    (closeSpan e t b).rate.wcur = b.rate.wcur := by unfold closeSpan; (repeat' split) <;> simp
@[simp] theorem closeSpan_rate_rows (e : Env) (t : Stamp) (b : Blocks) :
    (closeSpan e t b).rate.rows = b.rate.rows := by unfold closeSpan; (repeat' split) <;> simp
@[simp] theorem closeSpan_header_op (e : Env) (t : Stamp) (b : Blocks) :
    (closeSpan e t b).rate.header.op = b.rate.header.op := by unfold closeSpan; (repeat' split) <;> simp
@[simp] theorem closeSpan_header_cycle (e : Env) (t : Stamp) (b : Blocks) :
    (closeSpan e t b).rate.header.cycle = b.rate.header.cycle := by unfold closeSpan; (repeat' split) <;> simp
@[simp] theorem closeSpan_header_rpm (e : Env) (t : Stamp) (b : Blocks) :
    (closeSpan e t b).rate.header.rpm = b.rate.header.rpm := by unfold closeSpan; (repeat' split) <;> simp
@[simp] theorem closeSpan_header_cut (e : Env) (t : Stamp) (b : Blocks) :
    (closeSpan e t b).rate.header.cut = b.rate.header.cut := by unfold closeSpan; (repeat' split) <;> simp
@[simp] theorem closeSpan_header_load (e : Env) (t : Stamp) (b : Blocks) :
    (closeSpan e t b).rate.header.load = b.rate.header.load := by unfold closeSpan; (repeat' split) <;> simp
@[simp] theorem closeSpan_header_surface (e : Env) (t : Stamp) (b : Blocks) :
    (closeSpan e t b).rate.header.surface = b.rate.header.surface := by unfold closeSpan; (repeat' split) <;> simp
@[simp] theorem judgeSpan_tap_tooth (e : Env) (t : Stamp) (b : Blocks) :
    (judgeSpan e t b).tap.tooth = b.tap.tooth := by unfold judgeSpan; simp
@[simp] theorem judgeSpan_tap_knock (e : Env) (t : Stamp) (b : Blocks) :
    (judgeSpan e t b).tap.knock = b.tap.knock := by unfold judgeSpan; simp
@[simp] theorem judgeSpan_tap_fifo (e : Env) (t : Stamp) (b : Blocks) :
    (judgeSpan e t b).tap.fifo = b.tap.fifo := by unfold judgeSpan; simp
@[simp] theorem judgeSpan_tap_note (e : Env) (t : Stamp) (b : Blocks) :
    (judgeSpan e t b).tap.note = b.tap.note := by unfold judgeSpan; simp
@[simp] theorem judgeSpan_tap_cut (e : Env) (t : Stamp) (b : Blocks) :
    (judgeSpan e t b).tap.cut = b.tap.cut := by unfold judgeSpan; simp
@[simp] theorem judgeSpan_tap_load (e : Env) (t : Stamp) (b : Blocks) :
    (judgeSpan e t b).tap.load = b.tap.load := by unfold judgeSpan; simp
@[simp] theorem judgeSpan_tap_surface (e : Env) (t : Stamp) (b : Blocks) :
    (judgeSpan e t b).tap.surface = b.tap.surface := by unfold judgeSpan; simp
@[simp] theorem judgeSpan_rate_cycles (e : Env) (t : Stamp) (b : Blocks) :
    (judgeSpan e t b).rate.cycles = b.rate.cycles := by unfold judgeSpan; simp
@[simp] theorem judgeSpan_rate_wcur (e : Env) (t : Stamp) (b : Blocks) :
    (judgeSpan e t b).rate.wcur = b.rate.wcur := by unfold judgeSpan; simp
@[simp] theorem judgeSpan_rate_rows (e : Env) (t : Stamp) (b : Blocks) :
    (judgeSpan e t b).rate.rows = b.rate.rows := by unfold judgeSpan; simp
@[simp] theorem judgeSpan_header_op (e : Env) (t : Stamp) (b : Blocks) :
    (judgeSpan e t b).rate.header.op = b.rate.header.op := by unfold judgeSpan; simp
@[simp] theorem judgeSpan_header_cycle (e : Env) (t : Stamp) (b : Blocks) :
    (judgeSpan e t b).rate.header.cycle = b.rate.header.cycle := by unfold judgeSpan; simp
@[simp] theorem judgeSpan_header_rpm (e : Env) (t : Stamp) (b : Blocks) :
    (judgeSpan e t b).rate.header.rpm = b.rate.header.rpm := by unfold judgeSpan; simp
@[simp] theorem judgeSpan_header_cut (e : Env) (t : Stamp) (b : Blocks) :
    (judgeSpan e t b).rate.header.cut = b.rate.header.cut := by unfold judgeSpan; simp
@[simp] theorem judgeSpan_header_load (e : Env) (t : Stamp) (b : Blocks) :
    (judgeSpan e t b).rate.header.load = b.rate.header.load := by unfold judgeSpan; simp
@[simp] theorem judgeSpan_header_surface (e : Env) (t : Stamp) (b : Blocks) :
    (judgeSpan e t b).rate.header.surface = b.rate.header.surface := by unfold judgeSpan; simp
@[simp] theorem cycleStart_knock (e : Env) (t : Stamp) (b : Blocks) :
    (cycleStart e t b).knock = b.knock := by unfold cycleStart; simp
@[simp] theorem cycleStart_tap_tooth (e : Env) (t : Stamp) (b : Blocks) :
    (cycleStart e t b).tap.tooth = b.tap.tooth := by unfold cycleStart; simp
@[simp] theorem cycleStart_tap_knock (e : Env) (t : Stamp) (b : Blocks) :
    (cycleStart e t b).tap.knock = b.tap.knock := by unfold cycleStart; simp
@[simp] theorem cycleStart_tap_fifo (e : Env) (t : Stamp) (b : Blocks) :
    (cycleStart e t b).tap.fifo = b.tap.fifo := by unfold cycleStart; simp
@[simp] theorem cycleStart_tap_note (e : Env) (t : Stamp) (b : Blocks) :
    (cycleStart e t b).tap.note = b.tap.note := by unfold cycleStart; simp
@[simp] theorem cycleStart_tap_cut (e : Env) (t : Stamp) (b : Blocks) :
    (cycleStart e t b).tap.cut = b.tap.cut := by unfold cycleStart; simp
@[simp] theorem cycleStart_tap_load (e : Env) (t : Stamp) (b : Blocks) :
    (cycleStart e t b).tap.load = b.tap.load := by unfold cycleStart; simp
@[simp] theorem cycleStart_tap_surface (e : Env) (t : Stamp) (b : Blocks) :
    (cycleStart e t b).tap.surface = b.tap.surface := by unfold cycleStart; simp
@[simp] theorem cycleStart_header_op (e : Env) (t : Stamp) (b : Blocks) :
    (cycleStart e t b).rate.header.op = b.rate.header.op := by unfold cycleStart; simp
@[simp] theorem cycleStart_header_sync (e : Env) (t : Stamp) (b : Blocks) :
    (cycleStart e t b).rate.header.sync = b.rate.header.sync := by unfold cycleStart; simp
@[simp] theorem cycleStart_header_rpm (e : Env) (t : Stamp) (b : Blocks) :
    (cycleStart e t b).rate.header.rpm = b.rate.header.rpm := by unfold cycleStart; simp
@[simp] theorem cycleStart_header_cut (e : Env) (t : Stamp) (b : Blocks) :
    (cycleStart e t b).rate.header.cut = b.rate.header.cut := by unfold cycleStart; simp
@[simp] theorem cycleStart_header_load (e : Env) (t : Stamp) (b : Blocks) :
    (cycleStart e t b).rate.header.load = b.rate.header.load := by unfold cycleStart; simp
@[simp] theorem cycleStart_header_surface (e : Env) (t : Stamp) (b : Blocks) :
    (cycleStart e t b).rate.header.surface = b.rate.header.surface := by unfold cycleStart; simp
@[simp] theorem handOn_tap_tooth (e : Env) (p : Nat) (t : Stamp) (b : Blocks) :
    (handOn e p t b).tap.tooth = b.tap.tooth := by
  unfold handOn atPosition; dsimp only; repeat' split
  all_goals simp
@[simp] theorem handOn_tap_knock (e : Env) (p : Nat) (t : Stamp) (b : Blocks) :
    (handOn e p t b).tap.knock = b.tap.knock := by
  unfold handOn atPosition; dsimp only; repeat' split
  all_goals simp
@[simp] theorem handOn_tap_fifo (e : Env) (p : Nat) (t : Stamp) (b : Blocks) :
    (handOn e p t b).tap.fifo = b.tap.fifo := by
  unfold handOn atPosition; dsimp only; repeat' split
  all_goals simp
@[simp] theorem handOn_tap_note (e : Env) (p : Nat) (t : Stamp) (b : Blocks) :
    (handOn e p t b).tap.note = b.tap.note := by
  unfold handOn atPosition; dsimp only; repeat' split
  all_goals simp
@[simp] theorem handOn_tap_cut (e : Env) (p : Nat) (t : Stamp) (b : Blocks) :
    (handOn e p t b).tap.cut = b.tap.cut := by
  unfold handOn atPosition; dsimp only; repeat' split
  all_goals simp
@[simp] theorem handOn_tap_load (e : Env) (p : Nat) (t : Stamp) (b : Blocks) :
    (handOn e p t b).tap.load = b.tap.load := by
  unfold handOn atPosition; dsimp only; repeat' split
  all_goals simp
@[simp] theorem handOn_tap_surface (e : Env) (p : Nat) (t : Stamp) (b : Blocks) :
    (handOn e p t b).tap.surface = b.tap.surface := by
  unfold handOn atPosition; dsimp only; repeat' split
  all_goals simp
@[simp] theorem handOn_header_op (e : Env) (p : Nat) (t : Stamp) (b : Blocks) :
    (handOn e p t b).rate.header.op = b.rate.header.op := by
  unfold handOn atPosition; dsimp only; repeat' split
  all_goals simp
@[simp] theorem handOn_header_sync (e : Env) (p : Nat) (t : Stamp) (b : Blocks) :
    (handOn e p t b).rate.header.sync = b.rate.header.sync := by
  unfold handOn atPosition; dsimp only; repeat' split
  all_goals simp
@[simp] theorem handOn_header_cut (e : Env) (p : Nat) (t : Stamp) (b : Blocks) :
    (handOn e p t b).rate.header.cut = b.rate.header.cut := by
  unfold handOn atPosition; dsimp only; repeat' split
  all_goals simp
@[simp] theorem handOn_header_load (e : Env) (p : Nat) (t : Stamp) (b : Blocks) :
    (handOn e p t b).rate.header.load = b.rate.header.load := by
  unfold handOn atPosition; dsimp only; repeat' split
  all_goals simp
@[simp] theorem handOn_header_surface (e : Env) (p : Nat) (t : Stamp) (b : Blocks) :
    (handOn e p t b).rate.header.surface = b.rate.header.surface := by
  unfold handOn atPosition; dsimp only; repeat' split
  all_goals simp
@[simp] theorem toothHunt_tap_tooth (e : Env) (t : Stamp) (p : Nat) (b : Blocks) :
    (toothHunt e t p b).tap.tooth = b.tap.tooth := by unfold toothHunt; (repeat' split) <;> simp
@[simp] theorem toothHunt_tap_knock (e : Env) (t : Stamp) (p : Nat) (b : Blocks) :
    (toothHunt e t p b).tap.knock = b.tap.knock := by unfold toothHunt; (repeat' split) <;> simp
@[simp] theorem toothHunt_tap_fifo (e : Env) (t : Stamp) (p : Nat) (b : Blocks) :
    (toothHunt e t p b).tap.fifo = b.tap.fifo := by unfold toothHunt; (repeat' split) <;> simp
@[simp] theorem toothHunt_tap_note (e : Env) (t : Stamp) (p : Nat) (b : Blocks) :
    (toothHunt e t p b).tap.note = b.tap.note := by unfold toothHunt; (repeat' split) <;> simp
@[simp] theorem toothHunt_tap_cut (e : Env) (t : Stamp) (p : Nat) (b : Blocks) :
    (toothHunt e t p b).tap.cut = b.tap.cut := by unfold toothHunt; (repeat' split) <;> simp
@[simp] theorem toothHunt_tap_load (e : Env) (t : Stamp) (p : Nat) (b : Blocks) :
    (toothHunt e t p b).tap.load = b.tap.load := by unfold toothHunt; (repeat' split) <;> simp
@[simp] theorem toothHunt_tap_surface (e : Env) (t : Stamp) (p : Nat) (b : Blocks) :
    (toothHunt e t p b).tap.surface = b.tap.surface := by unfold toothHunt; (repeat' split) <;> simp
@[simp] theorem toothHunt_rate_cycles (e : Env) (t : Stamp) (p : Nat) (b : Blocks) :
    (toothHunt e t p b).rate.cycles = b.rate.cycles := by unfold toothHunt; (repeat' split) <;> simp
@[simp] theorem toothHunt_rate_wcur (e : Env) (t : Stamp) (p : Nat) (b : Blocks) :
    (toothHunt e t p b).rate.wcur = b.rate.wcur := by unfold toothHunt; (repeat' split) <;> simp
@[simp] theorem toothHunt_rate_rows (e : Env) (t : Stamp) (p : Nat) (b : Blocks) :
    (toothHunt e t p b).rate.rows = b.rate.rows := by unfold toothHunt; (repeat' split) <;> simp
@[simp] theorem toothHunt_header_op (e : Env) (t : Stamp) (p : Nat) (b : Blocks) :
    (toothHunt e t p b).rate.header.op = b.rate.header.op := by unfold toothHunt; (repeat' split) <;> simp
@[simp] theorem toothHunt_header_cycle (e : Env) (t : Stamp) (p : Nat) (b : Blocks) :
    (toothHunt e t p b).rate.header.cycle = b.rate.header.cycle := by unfold toothHunt; (repeat' split) <;> simp
@[simp] theorem toothHunt_header_rpm (e : Env) (t : Stamp) (p : Nat) (b : Blocks) :
    (toothHunt e t p b).rate.header.rpm = b.rate.header.rpm := by unfold toothHunt; (repeat' split) <;> simp
@[simp] theorem toothHunt_header_cut (e : Env) (t : Stamp) (p : Nat) (b : Blocks) :
    (toothHunt e t p b).rate.header.cut = b.rate.header.cut := by unfold toothHunt; (repeat' split) <;> simp
@[simp] theorem toothHunt_header_load (e : Env) (t : Stamp) (p : Nat) (b : Blocks) :
    (toothHunt e t p b).rate.header.load = b.rate.header.load := by unfold toothHunt; (repeat' split) <;> simp
@[simp] theorem toothHunt_header_surface (e : Env) (t : Stamp) (p : Nat) (b : Blocks) :
    (toothHunt e t p b).rate.header.surface = b.rate.header.surface := by unfold toothHunt; (repeat' split) <;> simp
@[simp] theorem toothVerify_tap_tooth (e : Env) (t : Stamp) (p : Nat) (b : Blocks) :
    (toothVerify e t p b).tap.tooth = b.tap.tooth := by unfold toothVerify; (repeat' split) <;> simp
@[simp] theorem toothVerify_tap_knock (e : Env) (t : Stamp) (p : Nat) (b : Blocks) :
    (toothVerify e t p b).tap.knock = b.tap.knock := by unfold toothVerify; (repeat' split) <;> simp
@[simp] theorem toothVerify_tap_fifo (e : Env) (t : Stamp) (p : Nat) (b : Blocks) :
    (toothVerify e t p b).tap.fifo = b.tap.fifo := by unfold toothVerify; (repeat' split) <;> simp
@[simp] theorem toothVerify_tap_note (e : Env) (t : Stamp) (p : Nat) (b : Blocks) :
    (toothVerify e t p b).tap.note = b.tap.note := by unfold toothVerify; (repeat' split) <;> simp
@[simp] theorem toothVerify_tap_cut (e : Env) (t : Stamp) (p : Nat) (b : Blocks) :
    (toothVerify e t p b).tap.cut = b.tap.cut := by unfold toothVerify; (repeat' split) <;> simp
@[simp] theorem toothVerify_tap_load (e : Env) (t : Stamp) (p : Nat) (b : Blocks) :
    (toothVerify e t p b).tap.load = b.tap.load := by unfold toothVerify; (repeat' split) <;> simp
@[simp] theorem toothVerify_tap_surface (e : Env) (t : Stamp) (p : Nat) (b : Blocks) :
    (toothVerify e t p b).tap.surface = b.tap.surface := by unfold toothVerify; (repeat' split) <;> simp
@[simp] theorem toothVerify_rate_cycles (e : Env) (t : Stamp) (p : Nat) (b : Blocks) :
    (toothVerify e t p b).rate.cycles = b.rate.cycles := by unfold toothVerify; (repeat' split) <;> simp
@[simp] theorem toothVerify_rate_wcur (e : Env) (t : Stamp) (p : Nat) (b : Blocks) :
    (toothVerify e t p b).rate.wcur = b.rate.wcur := by unfold toothVerify; (repeat' split) <;> simp
@[simp] theorem toothVerify_rate_rows (e : Env) (t : Stamp) (p : Nat) (b : Blocks) :
    (toothVerify e t p b).rate.rows = b.rate.rows := by unfold toothVerify; (repeat' split) <;> simp
@[simp] theorem toothVerify_header_op (e : Env) (t : Stamp) (p : Nat) (b : Blocks) :
    (toothVerify e t p b).rate.header.op = b.rate.header.op := by unfold toothVerify; (repeat' split) <;> simp
@[simp] theorem toothVerify_header_cycle (e : Env) (t : Stamp) (p : Nat) (b : Blocks) :
    (toothVerify e t p b).rate.header.cycle = b.rate.header.cycle := by unfold toothVerify; (repeat' split) <;> simp
@[simp] theorem toothVerify_header_rpm (e : Env) (t : Stamp) (p : Nat) (b : Blocks) :
    (toothVerify e t p b).rate.header.rpm = b.rate.header.rpm := by unfold toothVerify; (repeat' split) <;> simp
@[simp] theorem toothVerify_header_cut (e : Env) (t : Stamp) (p : Nat) (b : Blocks) :
    (toothVerify e t p b).rate.header.cut = b.rate.header.cut := by unfold toothVerify; (repeat' split) <;> simp
@[simp] theorem toothVerify_header_load (e : Env) (t : Stamp) (p : Nat) (b : Blocks) :
    (toothVerify e t p b).rate.header.load = b.rate.header.load := by unfold toothVerify; (repeat' split) <;> simp
@[simp] theorem toothVerify_header_surface (e : Env) (t : Stamp) (p : Nat) (b : Blocks) :
    (toothVerify e t p b).rate.header.surface = b.rate.header.surface := by unfold toothVerify; (repeat' split) <;> simp
@[simp] theorem toothLoss_tap_tooth (e : Env) (r : LossReason) (t : Stamp) (p : Nat) (b : Blocks) :
    (toothLoss e r t p b).tap.tooth = b.tap.tooth := by unfold toothLoss; simp
@[simp] theorem toothLoss_tap_knock (e : Env) (r : LossReason) (t : Stamp) (p : Nat) (b : Blocks) :
    (toothLoss e r t p b).tap.knock = b.tap.knock := by unfold toothLoss; simp
@[simp] theorem toothLoss_tap_fifo (e : Env) (r : LossReason) (t : Stamp) (p : Nat) (b : Blocks) :
    (toothLoss e r t p b).tap.fifo = b.tap.fifo := by unfold toothLoss; simp
@[simp] theorem toothLoss_tap_note (e : Env) (r : LossReason) (t : Stamp) (p : Nat) (b : Blocks) :
    (toothLoss e r t p b).tap.note = b.tap.note := by unfold toothLoss; simp
@[simp] theorem toothLoss_tap_cut (e : Env) (r : LossReason) (t : Stamp) (p : Nat) (b : Blocks) :
    (toothLoss e r t p b).tap.cut = b.tap.cut := by unfold toothLoss; simp
@[simp] theorem toothLoss_tap_load (e : Env) (r : LossReason) (t : Stamp) (p : Nat) (b : Blocks) :
    (toothLoss e r t p b).tap.load = b.tap.load := by unfold toothLoss; simp
@[simp] theorem toothLoss_tap_surface (e : Env) (r : LossReason) (t : Stamp) (p : Nat) (b : Blocks) :
    (toothLoss e r t p b).tap.surface = b.tap.surface := by unfold toothLoss; simp
@[simp] theorem toothLoss_rate_cycles (e : Env) (r : LossReason) (t : Stamp) (p : Nat) (b : Blocks) :
    (toothLoss e r t p b).rate.cycles = b.rate.cycles := by unfold toothLoss; simp
@[simp] theorem toothLoss_rate_wcur (e : Env) (r : LossReason) (t : Stamp) (p : Nat) (b : Blocks) :
    (toothLoss e r t p b).rate.wcur = b.rate.wcur := by unfold toothLoss; simp
@[simp] theorem toothLoss_rate_rows (e : Env) (r : LossReason) (t : Stamp) (p : Nat) (b : Blocks) :
    (toothLoss e r t p b).rate.rows = b.rate.rows := by unfold toothLoss; simp
@[simp] theorem toothLoss_header_op (e : Env) (r : LossReason) (t : Stamp) (p : Nat) (b : Blocks) :
    (toothLoss e r t p b).rate.header.op = b.rate.header.op := by unfold toothLoss; simp
@[simp] theorem toothLoss_header_cycle (e : Env) (r : LossReason) (t : Stamp) (p : Nat) (b : Blocks) :
    (toothLoss e r t p b).rate.header.cycle = b.rate.header.cycle := by unfold toothLoss; simp
@[simp] theorem toothLoss_header_rpm (e : Env) (r : LossReason) (t : Stamp) (p : Nat) (b : Blocks) :
    (toothLoss e r t p b).rate.header.rpm = b.rate.header.rpm := by unfold toothLoss; simp
@[simp] theorem toothLoss_header_cut (e : Env) (r : LossReason) (t : Stamp) (p : Nat) (b : Blocks) :
    (toothLoss e r t p b).rate.header.cut = b.rate.header.cut := by unfold toothLoss; simp
@[simp] theorem toothLoss_header_load (e : Env) (r : LossReason) (t : Stamp) (p : Nat) (b : Blocks) :
    (toothLoss e r t p b).rate.header.load = b.rate.header.load := by unfold toothLoss; simp
@[simp] theorem toothLoss_header_surface (e : Env) (r : LossReason) (t : Stamp) (p : Nat) (b : Blocks) :
    (toothLoss e r t p b).rate.header.surface = b.rate.header.surface := by unfold toothLoss; simp
@[simp] theorem toothCrankSync_tap_tooth (e : Env) (t : Stamp) (p : Nat) (b : Blocks) :
    (toothCrankSync e t p b).tap.tooth = b.tap.tooth := by unfold toothCrankSync; (repeat' split) <;> simp
@[simp] theorem toothCrankSync_tap_knock (e : Env) (t : Stamp) (p : Nat) (b : Blocks) :
    (toothCrankSync e t p b).tap.knock = b.tap.knock := by unfold toothCrankSync; (repeat' split) <;> simp
@[simp] theorem toothCrankSync_tap_fifo (e : Env) (t : Stamp) (p : Nat) (b : Blocks) :
    (toothCrankSync e t p b).tap.fifo = b.tap.fifo := by unfold toothCrankSync; (repeat' split) <;> simp
@[simp] theorem toothCrankSync_tap_note (e : Env) (t : Stamp) (p : Nat) (b : Blocks) :
    (toothCrankSync e t p b).tap.note = b.tap.note := by unfold toothCrankSync; (repeat' split) <;> simp
@[simp] theorem toothCrankSync_tap_cut (e : Env) (t : Stamp) (p : Nat) (b : Blocks) :
    (toothCrankSync e t p b).tap.cut = b.tap.cut := by unfold toothCrankSync; (repeat' split) <;> simp
@[simp] theorem toothCrankSync_tap_load (e : Env) (t : Stamp) (p : Nat) (b : Blocks) :
    (toothCrankSync e t p b).tap.load = b.tap.load := by unfold toothCrankSync; (repeat' split) <;> simp
@[simp] theorem toothCrankSync_tap_surface (e : Env) (t : Stamp) (p : Nat) (b : Blocks) :
    (toothCrankSync e t p b).tap.surface = b.tap.surface := by unfold toothCrankSync; (repeat' split) <;> simp
@[simp] theorem toothCrankSync_rate_cycles (e : Env) (t : Stamp) (p : Nat) (b : Blocks) :
    (toothCrankSync e t p b).rate.cycles = b.rate.cycles := by unfold toothCrankSync; (repeat' split) <;> simp
@[simp] theorem toothCrankSync_rate_wcur (e : Env) (t : Stamp) (p : Nat) (b : Blocks) :
    (toothCrankSync e t p b).rate.wcur = b.rate.wcur := by unfold toothCrankSync; (repeat' split) <;> simp
@[simp] theorem toothCrankSync_rate_rows (e : Env) (t : Stamp) (p : Nat) (b : Blocks) :
    (toothCrankSync e t p b).rate.rows = b.rate.rows := by unfold toothCrankSync; (repeat' split) <;> simp
@[simp] theorem toothCrankSync_header_op (e : Env) (t : Stamp) (p : Nat) (b : Blocks) :
    (toothCrankSync e t p b).rate.header.op = b.rate.header.op := by unfold toothCrankSync; (repeat' split) <;> simp
@[simp] theorem toothCrankSync_header_cycle (e : Env) (t : Stamp) (p : Nat) (b : Blocks) :
    (toothCrankSync e t p b).rate.header.cycle = b.rate.header.cycle := by unfold toothCrankSync; (repeat' split) <;> simp
@[simp] theorem toothCrankSync_header_rpm (e : Env) (t : Stamp) (p : Nat) (b : Blocks) :
    (toothCrankSync e t p b).rate.header.rpm = b.rate.header.rpm := by unfold toothCrankSync; (repeat' split) <;> simp
@[simp] theorem toothCrankSync_header_cut (e : Env) (t : Stamp) (p : Nat) (b : Blocks) :
    (toothCrankSync e t p b).rate.header.cut = b.rate.header.cut := by unfold toothCrankSync; (repeat' split) <;> simp
@[simp] theorem toothCrankSync_header_load (e : Env) (t : Stamp) (p : Nat) (b : Blocks) :
    (toothCrankSync e t p b).rate.header.load = b.rate.header.load := by unfold toothCrankSync; (repeat' split) <;> simp
@[simp] theorem toothCrankSync_header_surface (e : Env) (t : Stamp) (p : Nat) (b : Blocks) :
    (toothCrankSync e t p b).rate.header.surface = b.rate.header.surface := by unfold toothCrankSync; (repeat' split) <;> simp
@[simp] theorem spanAt_tap_tooth (e : Env) (t : Stamp) (b : Blocks) :
    (spanAt e t b).tap.tooth = b.tap.tooth := by unfold spanAt; (repeat' split) <;> simp
@[simp] theorem spanAt_tap_knock (e : Env) (t : Stamp) (b : Blocks) :
    (spanAt e t b).tap.knock = b.tap.knock := by unfold spanAt; (repeat' split) <;> simp
@[simp] theorem spanAt_tap_fifo (e : Env) (t : Stamp) (b : Blocks) :
    (spanAt e t b).tap.fifo = b.tap.fifo := by unfold spanAt; (repeat' split) <;> simp
@[simp] theorem spanAt_tap_note (e : Env) (t : Stamp) (b : Blocks) :
    (spanAt e t b).tap.note = b.tap.note := by unfold spanAt; (repeat' split) <;> simp
@[simp] theorem spanAt_tap_cut (e : Env) (t : Stamp) (b : Blocks) :
    (spanAt e t b).tap.cut = b.tap.cut := by unfold spanAt; (repeat' split) <;> simp
@[simp] theorem spanAt_tap_load (e : Env) (t : Stamp) (b : Blocks) :
    (spanAt e t b).tap.load = b.tap.load := by unfold spanAt; (repeat' split) <;> simp
@[simp] theorem spanAt_tap_surface (e : Env) (t : Stamp) (b : Blocks) :
    (spanAt e t b).tap.surface = b.tap.surface := by unfold spanAt; (repeat' split) <;> simp
@[simp] theorem spanAt_rate_cycles (e : Env) (t : Stamp) (b : Blocks) :
    (spanAt e t b).rate.cycles = b.rate.cycles := by unfold spanAt; (repeat' split) <;> simp
@[simp] theorem spanAt_rate_wcur (e : Env) (t : Stamp) (b : Blocks) :
    (spanAt e t b).rate.wcur = b.rate.wcur := by unfold spanAt; (repeat' split) <;> simp
@[simp] theorem spanAt_rate_rows (e : Env) (t : Stamp) (b : Blocks) :
    (spanAt e t b).rate.rows = b.rate.rows := by unfold spanAt; (repeat' split) <;> simp
@[simp] theorem spanAt_header_op (e : Env) (t : Stamp) (b : Blocks) :
    (spanAt e t b).rate.header.op = b.rate.header.op := by unfold spanAt; (repeat' split) <;> simp
@[simp] theorem spanAt_header_cycle (e : Env) (t : Stamp) (b : Blocks) :
    (spanAt e t b).rate.header.cycle = b.rate.header.cycle := by unfold spanAt; (repeat' split) <;> simp
@[simp] theorem spanAt_header_rpm (e : Env) (t : Stamp) (b : Blocks) :
    (spanAt e t b).rate.header.rpm = b.rate.header.rpm := by unfold spanAt; (repeat' split) <;> simp
@[simp] theorem spanAt_header_cut (e : Env) (t : Stamp) (b : Blocks) :
    (spanAt e t b).rate.header.cut = b.rate.header.cut := by unfold spanAt; (repeat' split) <;> simp
@[simp] theorem spanAt_header_load (e : Env) (t : Stamp) (b : Blocks) :
    (spanAt e t b).rate.header.load = b.rate.header.load := by unfold spanAt; (repeat' split) <;> simp
@[simp] theorem spanAt_header_surface (e : Env) (t : Stamp) (b : Blocks) :
    (spanAt e t b).rate.header.surface = b.rate.header.surface := by unfold spanAt; (repeat' split) <;> simp
@[simp] theorem handOnIfPhased_tap_tooth (e : Env) (p : Nat) (t : Stamp) (b : Blocks) :
    (handOnIfPhased e p t b).tap.tooth = b.tap.tooth := by unfold handOnIfPhased; (repeat' split) <;> simp
@[simp] theorem handOnIfPhased_tap_knock (e : Env) (p : Nat) (t : Stamp) (b : Blocks) :
    (handOnIfPhased e p t b).tap.knock = b.tap.knock := by unfold handOnIfPhased; (repeat' split) <;> simp
@[simp] theorem handOnIfPhased_tap_fifo (e : Env) (p : Nat) (t : Stamp) (b : Blocks) :
    (handOnIfPhased e p t b).tap.fifo = b.tap.fifo := by unfold handOnIfPhased; (repeat' split) <;> simp
@[simp] theorem handOnIfPhased_tap_note (e : Env) (p : Nat) (t : Stamp) (b : Blocks) :
    (handOnIfPhased e p t b).tap.note = b.tap.note := by unfold handOnIfPhased; (repeat' split) <;> simp
@[simp] theorem handOnIfPhased_tap_cut (e : Env) (p : Nat) (t : Stamp) (b : Blocks) :
    (handOnIfPhased e p t b).tap.cut = b.tap.cut := by unfold handOnIfPhased; (repeat' split) <;> simp
@[simp] theorem handOnIfPhased_tap_load (e : Env) (p : Nat) (t : Stamp) (b : Blocks) :
    (handOnIfPhased e p t b).tap.load = b.tap.load := by unfold handOnIfPhased; (repeat' split) <;> simp
@[simp] theorem handOnIfPhased_tap_surface (e : Env) (p : Nat) (t : Stamp) (b : Blocks) :
    (handOnIfPhased e p t b).tap.surface = b.tap.surface := by unfold handOnIfPhased; (repeat' split) <;> simp
@[simp] theorem handOnIfPhased_header_op (e : Env) (p : Nat) (t : Stamp) (b : Blocks) :
    (handOnIfPhased e p t b).rate.header.op = b.rate.header.op := by unfold handOnIfPhased; (repeat' split) <;> simp
@[simp] theorem handOnIfPhased_header_cut (e : Env) (p : Nat) (t : Stamp) (b : Blocks) :
    (handOnIfPhased e p t b).rate.header.cut = b.rate.header.cut := by unfold handOnIfPhased; (repeat' split) <;> simp
@[simp] theorem handOnIfPhased_header_load (e : Env) (p : Nat) (t : Stamp) (b : Blocks) :
    (handOnIfPhased e p t b).rate.header.load = b.rate.header.load := by unfold handOnIfPhased; (repeat' split) <;> simp
@[simp] theorem handOnIfPhased_header_surface (e : Env) (p : Nat) (t : Stamp) (b : Blocks) :
    (handOnIfPhased e p t b).rate.header.surface = b.rate.header.surface := by unfold handOnIfPhased; (repeat' split) <;> simp
@[simp] theorem toothPhased_tap_tooth (e : Env) (t : Stamp) (p : Nat) (b : Blocks) :
    (toothPhased e t p b).tap.tooth = b.tap.tooth := by unfold toothPhased; (repeat' split) <;> simp
@[simp] theorem toothPhased_tap_knock (e : Env) (t : Stamp) (p : Nat) (b : Blocks) :
    (toothPhased e t p b).tap.knock = b.tap.knock := by unfold toothPhased; (repeat' split) <;> simp
@[simp] theorem toothPhased_tap_fifo (e : Env) (t : Stamp) (p : Nat) (b : Blocks) :
    (toothPhased e t p b).tap.fifo = b.tap.fifo := by unfold toothPhased; (repeat' split) <;> simp
@[simp] theorem toothPhased_tap_note (e : Env) (t : Stamp) (p : Nat) (b : Blocks) :
    (toothPhased e t p b).tap.note = b.tap.note := by unfold toothPhased; (repeat' split) <;> simp
@[simp] theorem toothPhased_tap_cut (e : Env) (t : Stamp) (p : Nat) (b : Blocks) :
    (toothPhased e t p b).tap.cut = b.tap.cut := by unfold toothPhased; (repeat' split) <;> simp
@[simp] theorem toothPhased_tap_load (e : Env) (t : Stamp) (p : Nat) (b : Blocks) :
    (toothPhased e t p b).tap.load = b.tap.load := by unfold toothPhased; (repeat' split) <;> simp
@[simp] theorem toothPhased_tap_surface (e : Env) (t : Stamp) (p : Nat) (b : Blocks) :
    (toothPhased e t p b).tap.surface = b.tap.surface := by unfold toothPhased; (repeat' split) <;> simp
@[simp] theorem toothPhased_header_op (e : Env) (t : Stamp) (p : Nat) (b : Blocks) :
    (toothPhased e t p b).rate.header.op = b.rate.header.op := by unfold toothPhased; (repeat' split) <;> simp
@[simp] theorem toothPhased_header_cut (e : Env) (t : Stamp) (p : Nat) (b : Blocks) :
    (toothPhased e t p b).rate.header.cut = b.rate.header.cut := by unfold toothPhased; (repeat' split) <;> simp
@[simp] theorem toothPhased_header_load (e : Env) (t : Stamp) (p : Nat) (b : Blocks) :
    (toothPhased e t p b).rate.header.load = b.rate.header.load := by unfold toothPhased; (repeat' split) <;> simp
@[simp] theorem toothPhased_header_surface (e : Env) (t : Stamp) (p : Nat) (b : Blocks) :
    (toothPhased e t p b).rate.header.surface = b.rate.header.surface := by unfold toothPhased; (repeat' split) <;> simp
@[simp] theorem toothWide_tap_tooth (e : Env) (t : Stamp) (b : Blocks) :
    (toothWide e t b).tap.tooth = b.tap.tooth := by unfold toothWide; (repeat' split) <;> simp
@[simp] theorem toothWide_tap_knock (e : Env) (t : Stamp) (b : Blocks) :
    (toothWide e t b).tap.knock = b.tap.knock := by unfold toothWide; (repeat' split) <;> simp
@[simp] theorem toothWide_tap_fifo (e : Env) (t : Stamp) (b : Blocks) :
    (toothWide e t b).tap.fifo = b.tap.fifo := by unfold toothWide; (repeat' split) <;> simp
@[simp] theorem toothWide_tap_note (e : Env) (t : Stamp) (b : Blocks) :
    (toothWide e t b).tap.note = b.tap.note := by unfold toothWide; (repeat' split) <;> simp
@[simp] theorem toothWide_tap_cut (e : Env) (t : Stamp) (b : Blocks) :
    (toothWide e t b).tap.cut = b.tap.cut := by unfold toothWide; (repeat' split) <;> simp
@[simp] theorem toothWide_tap_load (e : Env) (t : Stamp) (b : Blocks) :
    (toothWide e t b).tap.load = b.tap.load := by unfold toothWide; (repeat' split) <;> simp
@[simp] theorem toothWide_tap_surface (e : Env) (t : Stamp) (b : Blocks) :
    (toothWide e t b).tap.surface = b.tap.surface := by unfold toothWide; (repeat' split) <;> simp
@[simp] theorem toothWide_header_op (e : Env) (t : Stamp) (b : Blocks) :
    (toothWide e t b).rate.header.op = b.rate.header.op := by unfold toothWide; (repeat' split) <;> simp
@[simp] theorem toothWide_header_cut (e : Env) (t : Stamp) (b : Blocks) :
    (toothWide e t b).rate.header.cut = b.rate.header.cut := by unfold toothWide; (repeat' split) <;> simp
@[simp] theorem toothWide_header_load (e : Env) (t : Stamp) (b : Blocks) :
    (toothWide e t b).rate.header.load = b.rate.header.load := by unfold toothWide; (repeat' split) <;> simp
@[simp] theorem toothWide_header_surface (e : Env) (t : Stamp) (b : Blocks) :
    (toothWide e t b).rate.header.surface = b.rate.header.surface := by unfold toothWide; (repeat' split) <;> simp
@[simp] theorem toothPeriod_tap_tooth (e : Env) (t : Stamp) (p : Nat) (b : Blocks) :
    (toothPeriod e t p b).tap.tooth = b.tap.tooth := by unfold toothPeriod; (repeat' split) <;> simp
@[simp] theorem toothPeriod_tap_knock (e : Env) (t : Stamp) (p : Nat) (b : Blocks) :
    (toothPeriod e t p b).tap.knock = b.tap.knock := by unfold toothPeriod; (repeat' split) <;> simp
@[simp] theorem toothPeriod_tap_fifo (e : Env) (t : Stamp) (p : Nat) (b : Blocks) :
    (toothPeriod e t p b).tap.fifo = b.tap.fifo := by unfold toothPeriod; (repeat' split) <;> simp
@[simp] theorem toothPeriod_tap_note (e : Env) (t : Stamp) (p : Nat) (b : Blocks) :
    (toothPeriod e t p b).tap.note = b.tap.note := by unfold toothPeriod; (repeat' split) <;> simp
@[simp] theorem toothPeriod_tap_cut (e : Env) (t : Stamp) (p : Nat) (b : Blocks) :
    (toothPeriod e t p b).tap.cut = b.tap.cut := by unfold toothPeriod; (repeat' split) <;> simp
@[simp] theorem toothPeriod_tap_load (e : Env) (t : Stamp) (p : Nat) (b : Blocks) :
    (toothPeriod e t p b).tap.load = b.tap.load := by unfold toothPeriod; (repeat' split) <;> simp
@[simp] theorem toothPeriod_tap_surface (e : Env) (t : Stamp) (p : Nat) (b : Blocks) :
    (toothPeriod e t p b).tap.surface = b.tap.surface := by unfold toothPeriod; (repeat' split) <;> simp
@[simp] theorem toothPeriod_header_op (e : Env) (t : Stamp) (p : Nat) (b : Blocks) :
    (toothPeriod e t p b).rate.header.op = b.rate.header.op := by unfold toothPeriod; (repeat' split) <;> simp
@[simp] theorem toothPeriod_header_cut (e : Env) (t : Stamp) (p : Nat) (b : Blocks) :
    (toothPeriod e t p b).rate.header.cut = b.rate.header.cut := by unfold toothPeriod; (repeat' split) <;> simp
@[simp] theorem toothPeriod_header_load (e : Env) (t : Stamp) (p : Nat) (b : Blocks) :
    (toothPeriod e t p b).rate.header.load = b.rate.header.load := by unfold toothPeriod; (repeat' split) <;> simp
@[simp] theorem toothPeriod_header_surface (e : Env) (t : Stamp) (p : Nat) (b : Blocks) :
    (toothPeriod e t p b).rate.header.surface = b.rate.header.surface := by unfold toothPeriod; (repeat' split) <;> simp
@[simp] theorem toothFirst_seg (e : Env) (t : Stamp) (b : Blocks) :
    (toothFirst e t b).seg = b.seg := by unfold toothFirst; (repeat' split) <;> simp
@[simp] theorem toothFirst_knock (e : Env) (t : Stamp) (b : Blocks) :
    (toothFirst e t b).knock = b.knock := by unfold toothFirst; (repeat' split) <;> simp
@[simp] theorem toothFirst_evq (e : Env) (t : Stamp) (b : Blocks) :
    (toothFirst e t b).evq = b.evq := by unfold toothFirst; (repeat' split) <;> simp
@[simp] theorem toothFirst_frz (e : Env) (t : Stamp) (b : Blocks) :
    (toothFirst e t b).frz = b.frz := by unfold toothFirst; (repeat' split) <;> simp
@[simp] theorem toothFirst_tap (e : Env) (t : Stamp) (b : Blocks) :
    (toothFirst e t b).tap = b.tap := by unfold toothFirst; (repeat' split) <;> simp
@[simp] theorem toothFirst_rate_cycles (e : Env) (t : Stamp) (b : Blocks) :
    (toothFirst e t b).rate.cycles = b.rate.cycles := by unfold toothFirst; (repeat' split) <;> simp
@[simp] theorem toothFirst_rate_wcur (e : Env) (t : Stamp) (b : Blocks) :
    (toothFirst e t b).rate.wcur = b.rate.wcur := by unfold toothFirst; (repeat' split) <;> simp
@[simp] theorem toothFirst_rate_rows (e : Env) (t : Stamp) (b : Blocks) :
    (toothFirst e t b).rate.rows = b.rate.rows := by unfold toothFirst; (repeat' split) <;> simp
@[simp] theorem toothFirst_header_op (e : Env) (t : Stamp) (b : Blocks) :
    (toothFirst e t b).rate.header.op = b.rate.header.op := by unfold toothFirst; (repeat' split) <;> simp
@[simp] theorem toothFirst_header_cycle (e : Env) (t : Stamp) (b : Blocks) :
    (toothFirst e t b).rate.header.cycle = b.rate.header.cycle := by unfold toothFirst; (repeat' split) <;> simp
@[simp] theorem toothFirst_header_rpm (e : Env) (t : Stamp) (b : Blocks) :
    (toothFirst e t b).rate.header.rpm = b.rate.header.rpm := by unfold toothFirst; (repeat' split) <;> simp
@[simp] theorem toothFirst_header_cut (e : Env) (t : Stamp) (b : Blocks) :
    (toothFirst e t b).rate.header.cut = b.rate.header.cut := by unfold toothFirst; (repeat' split) <;> simp
@[simp] theorem toothFirst_header_load (e : Env) (t : Stamp) (b : Blocks) :
    (toothFirst e t b).rate.header.load = b.rate.header.load := by unfold toothFirst; (repeat' split) <;> simp
@[simp] theorem toothFirst_header_surface (e : Env) (t : Stamp) (b : Blocks) :
    (toothFirst e t b).rate.header.surface = b.rate.header.surface := by unfold toothFirst; (repeat' split) <;> simp
@[simp] theorem toothFirst_header_flags (e : Env) (t : Stamp) (b : Blocks) :
    (toothFirst e t b).rate.header.flags = b.rate.header.flags := by unfold toothFirst; (repeat' split) <;> simp
@[simp] theorem toothFirst_header_producer (e : Env) (t : Stamp) (b : Blocks) :
    (toothFirst e t b).rate.header.producer = b.rate.header.producer := by unfold toothFirst; (repeat' split) <;> simp
@[simp] theorem toothFirst_header_freeze (e : Env) (t : Stamp) (b : Blocks) :
    (toothFirst e t b).rate.header.freeze = b.rate.header.freeze := by unfold toothFirst; (repeat' split) <;> simp
@[simp] theorem tooth_tap_tooth (e : Env) (t : Stamp) (b : Blocks) :
    (tooth e t b).tap.tooth = b.tap.tooth := by unfold tooth; (repeat' split) <;> simp
@[simp] theorem tooth_tap_knock (e : Env) (t : Stamp) (b : Blocks) :
    (tooth e t b).tap.knock = b.tap.knock := by unfold tooth; (repeat' split) <;> simp
@[simp] theorem tooth_tap_fifo (e : Env) (t : Stamp) (b : Blocks) :
    (tooth e t b).tap.fifo = b.tap.fifo := by unfold tooth; (repeat' split) <;> simp
@[simp] theorem tooth_tap_note (e : Env) (t : Stamp) (b : Blocks) :
    (tooth e t b).tap.note = b.tap.note := by unfold tooth; (repeat' split) <;> simp
@[simp] theorem tooth_tap_cut (e : Env) (t : Stamp) (b : Blocks) :
    (tooth e t b).tap.cut = b.tap.cut := by unfold tooth; (repeat' split) <;> simp
@[simp] theorem tooth_tap_load (e : Env) (t : Stamp) (b : Blocks) :
    (tooth e t b).tap.load = b.tap.load := by unfold tooth; (repeat' split) <;> simp
@[simp] theorem tooth_tap_surface (e : Env) (t : Stamp) (b : Blocks) :
    (tooth e t b).tap.surface = b.tap.surface := by unfold tooth; (repeat' split) <;> simp
@[simp] theorem tooth_header_op (e : Env) (t : Stamp) (b : Blocks) :
    (tooth e t b).rate.header.op = b.rate.header.op := by unfold tooth; (repeat' split) <;> simp
@[simp] theorem tooth_header_cut (e : Env) (t : Stamp) (b : Blocks) :
    (tooth e t b).rate.header.cut = b.rate.header.cut := by unfold tooth; (repeat' split) <;> simp
@[simp] theorem tooth_header_load (e : Env) (t : Stamp) (b : Blocks) :
    (tooth e t b).rate.header.load = b.rate.header.load := by unfold tooth; (repeat' split) <;> simp
@[simp] theorem tooth_header_surface (e : Env) (t : Stamp) (b : Blocks) :
    (tooth e t b).rate.header.surface = b.rate.header.surface := by unfold tooth; (repeat' split) <;> simp
@[simp] theorem enterPhased_knock (e : Env) (t : Stamp) (b : Blocks) :
    (enterPhased e t b).knock = b.knock := by unfold enterPhased; simp
@[simp] theorem enterPhased_tap_tooth (e : Env) (t : Stamp) (b : Blocks) :
    (enterPhased e t b).tap.tooth = b.tap.tooth := by unfold enterPhased; simp
@[simp] theorem enterPhased_tap_knock (e : Env) (t : Stamp) (b : Blocks) :
    (enterPhased e t b).tap.knock = b.tap.knock := by unfold enterPhased; simp
@[simp] theorem enterPhased_tap_fifo (e : Env) (t : Stamp) (b : Blocks) :
    (enterPhased e t b).tap.fifo = b.tap.fifo := by unfold enterPhased; simp
@[simp] theorem enterPhased_tap_note (e : Env) (t : Stamp) (b : Blocks) :
    (enterPhased e t b).tap.note = b.tap.note := by unfold enterPhased; simp
@[simp] theorem enterPhased_tap_cut (e : Env) (t : Stamp) (b : Blocks) :
    (enterPhased e t b).tap.cut = b.tap.cut := by unfold enterPhased; simp
@[simp] theorem enterPhased_tap_load (e : Env) (t : Stamp) (b : Blocks) :
    (enterPhased e t b).tap.load = b.tap.load := by unfold enterPhased; simp
@[simp] theorem enterPhased_tap_surface (e : Env) (t : Stamp) (b : Blocks) :
    (enterPhased e t b).tap.surface = b.tap.surface := by unfold enterPhased; simp
@[simp] theorem enterPhased_rate_cycles (e : Env) (t : Stamp) (b : Blocks) :
    (enterPhased e t b).rate.cycles = b.rate.cycles := by unfold enterPhased; simp
@[simp] theorem enterPhased_rate_wcur (e : Env) (t : Stamp) (b : Blocks) :
    (enterPhased e t b).rate.wcur = b.rate.wcur := by unfold enterPhased; simp
@[simp] theorem enterPhased_rate_rows (e : Env) (t : Stamp) (b : Blocks) :
    (enterPhased e t b).rate.rows = b.rate.rows := by unfold enterPhased; simp
@[simp] theorem enterPhased_header_op (e : Env) (t : Stamp) (b : Blocks) :
    (enterPhased e t b).rate.header.op = b.rate.header.op := by unfold enterPhased; simp
@[simp] theorem enterPhased_header_cycle (e : Env) (t : Stamp) (b : Blocks) :
    (enterPhased e t b).rate.header.cycle = b.rate.header.cycle := by unfold enterPhased; simp
@[simp] theorem enterPhased_header_rpm (e : Env) (t : Stamp) (b : Blocks) :
    (enterPhased e t b).rate.header.rpm = b.rate.header.rpm := by unfold enterPhased; simp
@[simp] theorem enterPhased_header_cut (e : Env) (t : Stamp) (b : Blocks) :
    (enterPhased e t b).rate.header.cut = b.rate.header.cut := by unfold enterPhased; simp
@[simp] theorem enterPhased_header_load (e : Env) (t : Stamp) (b : Blocks) :
    (enterPhased e t b).rate.header.load = b.rate.header.load := by unfold enterPhased; simp
@[simp] theorem enterPhased_header_surface (e : Env) (t : Stamp) (b : Blocks) :
    (enterPhased e t b).rate.header.surface = b.rate.header.surface := by unfold enterPhased; simp
@[simp] theorem edgeRev0_seg (e : Env) (t : Stamp) (p : Nat) (b : Blocks) :
    (edgeRev0 e t p b).seg = b.seg := by unfold edgeRev0; dsimp only; split <;> simp
@[simp] theorem edgeRev0_knock (e : Env) (t : Stamp) (p : Nat) (b : Blocks) :
    (edgeRev0 e t p b).knock = b.knock := by unfold edgeRev0; dsimp only; split <;> simp
@[simp] theorem edgeRev0_tap_tooth (e : Env) (t : Stamp) (p : Nat) (b : Blocks) :
    (edgeRev0 e t p b).tap.tooth = b.tap.tooth := by unfold edgeRev0; dsimp only; split <;> simp
@[simp] theorem edgeRev0_tap_knock (e : Env) (t : Stamp) (p : Nat) (b : Blocks) :
    (edgeRev0 e t p b).tap.knock = b.tap.knock := by unfold edgeRev0; dsimp only; split <;> simp
@[simp] theorem edgeRev0_tap_fifo (e : Env) (t : Stamp) (p : Nat) (b : Blocks) :
    (edgeRev0 e t p b).tap.fifo = b.tap.fifo := by unfold edgeRev0; dsimp only; split <;> simp
@[simp] theorem edgeRev0_tap_note (e : Env) (t : Stamp) (p : Nat) (b : Blocks) :
    (edgeRev0 e t p b).tap.note = b.tap.note := by unfold edgeRev0; dsimp only; split <;> simp
@[simp] theorem edgeRev0_tap_cut (e : Env) (t : Stamp) (p : Nat) (b : Blocks) :
    (edgeRev0 e t p b).tap.cut = b.tap.cut := by unfold edgeRev0; dsimp only; split <;> simp
@[simp] theorem edgeRev0_tap_load (e : Env) (t : Stamp) (p : Nat) (b : Blocks) :
    (edgeRev0 e t p b).tap.load = b.tap.load := by unfold edgeRev0; dsimp only; split <;> simp
@[simp] theorem edgeRev0_tap_surface (e : Env) (t : Stamp) (p : Nat) (b : Blocks) :
    (edgeRev0 e t p b).tap.surface = b.tap.surface := by unfold edgeRev0; dsimp only; split <;> simp
@[simp] theorem edgeRev0_rate_cycles (e : Env) (t : Stamp) (p : Nat) (b : Blocks) :
    (edgeRev0 e t p b).rate.cycles = b.rate.cycles := by unfold edgeRev0; dsimp only; split <;> simp
@[simp] theorem edgeRev0_rate_wcur (e : Env) (t : Stamp) (p : Nat) (b : Blocks) :
    (edgeRev0 e t p b).rate.wcur = b.rate.wcur := by unfold edgeRev0; dsimp only; split <;> simp
@[simp] theorem edgeRev0_rate_rows (e : Env) (t : Stamp) (p : Nat) (b : Blocks) :
    (edgeRev0 e t p b).rate.rows = b.rate.rows := by unfold edgeRev0; dsimp only; split <;> simp
@[simp] theorem edgeRev0_header_op (e : Env) (t : Stamp) (p : Nat) (b : Blocks) :
    (edgeRev0 e t p b).rate.header.op = b.rate.header.op := by unfold edgeRev0; dsimp only; split <;> simp
@[simp] theorem edgeRev0_header_sync (e : Env) (t : Stamp) (p : Nat) (b : Blocks) :
    (edgeRev0 e t p b).rate.header.sync = b.rate.header.sync := by unfold edgeRev0; dsimp only; split <;> simp
@[simp] theorem edgeRev0_header_cycle (e : Env) (t : Stamp) (p : Nat) (b : Blocks) :
    (edgeRev0 e t p b).rate.header.cycle = b.rate.header.cycle := by unfold edgeRev0; dsimp only; split <;> simp
@[simp] theorem edgeRev0_header_rpm (e : Env) (t : Stamp) (p : Nat) (b : Blocks) :
    (edgeRev0 e t p b).rate.header.rpm = b.rate.header.rpm := by unfold edgeRev0; dsimp only; split <;> simp
@[simp] theorem edgeRev0_header_cut (e : Env) (t : Stamp) (p : Nat) (b : Blocks) :
    (edgeRev0 e t p b).rate.header.cut = b.rate.header.cut := by unfold edgeRev0; dsimp only; split <;> simp
@[simp] theorem edgeRev0_header_load (e : Env) (t : Stamp) (p : Nat) (b : Blocks) :
    (edgeRev0 e t p b).rate.header.load = b.rate.header.load := by unfold edgeRev0; dsimp only; split <;> simp
@[simp] theorem edgeRev0_header_surface (e : Env) (t : Stamp) (p : Nat) (b : Blocks) :
    (edgeRev0 e t p b).rate.header.surface = b.rate.header.surface := by unfold edgeRev0; dsimp only; split <;> simp
@[simp] theorem edgeRev1_seg (e : Env) (t : Stamp) (p : Nat) (b : Blocks) :
    (edgeRev1 e t p b).seg = b.seg := by unfold edgeRev1; simp
@[simp] theorem edgeRev1_knock (e : Env) (t : Stamp) (p : Nat) (b : Blocks) :
    (edgeRev1 e t p b).knock = b.knock := by unfold edgeRev1; simp
@[simp] theorem edgeRev1_tap_tooth (e : Env) (t : Stamp) (p : Nat) (b : Blocks) :
    (edgeRev1 e t p b).tap.tooth = b.tap.tooth := by unfold edgeRev1; simp
@[simp] theorem edgeRev1_tap_knock (e : Env) (t : Stamp) (p : Nat) (b : Blocks) :
    (edgeRev1 e t p b).tap.knock = b.tap.knock := by unfold edgeRev1; simp
@[simp] theorem edgeRev1_tap_fifo (e : Env) (t : Stamp) (p : Nat) (b : Blocks) :
    (edgeRev1 e t p b).tap.fifo = b.tap.fifo := by unfold edgeRev1; simp
@[simp] theorem edgeRev1_tap_note (e : Env) (t : Stamp) (p : Nat) (b : Blocks) :
    (edgeRev1 e t p b).tap.note = b.tap.note := by unfold edgeRev1; simp
@[simp] theorem edgeRev1_tap_cut (e : Env) (t : Stamp) (p : Nat) (b : Blocks) :
    (edgeRev1 e t p b).tap.cut = b.tap.cut := by unfold edgeRev1; simp
@[simp] theorem edgeRev1_tap_load (e : Env) (t : Stamp) (p : Nat) (b : Blocks) :
    (edgeRev1 e t p b).tap.load = b.tap.load := by unfold edgeRev1; simp
@[simp] theorem edgeRev1_tap_surface (e : Env) (t : Stamp) (p : Nat) (b : Blocks) :
    (edgeRev1 e t p b).tap.surface = b.tap.surface := by unfold edgeRev1; simp
@[simp] theorem edgeRev1_rate_cycles (e : Env) (t : Stamp) (p : Nat) (b : Blocks) :
    (edgeRev1 e t p b).rate.cycles = b.rate.cycles := by unfold edgeRev1; simp
@[simp] theorem edgeRev1_rate_wcur (e : Env) (t : Stamp) (p : Nat) (b : Blocks) :
    (edgeRev1 e t p b).rate.wcur = b.rate.wcur := by unfold edgeRev1; simp
@[simp] theorem edgeRev1_rate_rows (e : Env) (t : Stamp) (p : Nat) (b : Blocks) :
    (edgeRev1 e t p b).rate.rows = b.rate.rows := by unfold edgeRev1; simp
@[simp] theorem edgeRev1_header_op (e : Env) (t : Stamp) (p : Nat) (b : Blocks) :
    (edgeRev1 e t p b).rate.header.op = b.rate.header.op := by unfold edgeRev1; simp
@[simp] theorem edgeRev1_header_sync (e : Env) (t : Stamp) (p : Nat) (b : Blocks) :
    (edgeRev1 e t p b).rate.header.sync = b.rate.header.sync := by unfold edgeRev1; simp
@[simp] theorem edgeRev1_header_cycle (e : Env) (t : Stamp) (p : Nat) (b : Blocks) :
    (edgeRev1 e t p b).rate.header.cycle = b.rate.header.cycle := by unfold edgeRev1; simp
@[simp] theorem edgeRev1_header_rpm (e : Env) (t : Stamp) (p : Nat) (b : Blocks) :
    (edgeRev1 e t p b).rate.header.rpm = b.rate.header.rpm := by unfold edgeRev1; simp
@[simp] theorem edgeRev1_header_cut (e : Env) (t : Stamp) (p : Nat) (b : Blocks) :
    (edgeRev1 e t p b).rate.header.cut = b.rate.header.cut := by unfold edgeRev1; simp
@[simp] theorem edgeRev1_header_load (e : Env) (t : Stamp) (p : Nat) (b : Blocks) :
    (edgeRev1 e t p b).rate.header.load = b.rate.header.load := by unfold edgeRev1; simp
@[simp] theorem edgeRev1_header_surface (e : Env) (t : Stamp) (p : Nat) (b : Blocks) :
    (edgeRev1 e t p b).rate.header.surface = b.rate.header.surface := by unfold edgeRev1; simp
@[simp] theorem camEdge_knock (e : Env) (k : ToothKind) (t : Stamp) (b : Blocks) :
    (camEdge e k t b).knock = b.knock := by unfold camEdge; dsimp only; (repeat' split) <;> simp
@[simp] theorem camEdge_tap_tooth (e : Env) (k : ToothKind) (t : Stamp) (b : Blocks) :
    (camEdge e k t b).tap.tooth = b.tap.tooth := by unfold camEdge; dsimp only; (repeat' split) <;> simp
@[simp] theorem camEdge_tap_knock (e : Env) (k : ToothKind) (t : Stamp) (b : Blocks) :
    (camEdge e k t b).tap.knock = b.tap.knock := by unfold camEdge; dsimp only; (repeat' split) <;> simp
@[simp] theorem camEdge_tap_fifo (e : Env) (k : ToothKind) (t : Stamp) (b : Blocks) :
    (camEdge e k t b).tap.fifo = b.tap.fifo := by unfold camEdge; dsimp only; (repeat' split) <;> simp
@[simp] theorem camEdge_tap_note (e : Env) (k : ToothKind) (t : Stamp) (b : Blocks) :
    (camEdge e k t b).tap.note = b.tap.note := by unfold camEdge; dsimp only; (repeat' split) <;> simp
@[simp] theorem camEdge_tap_cut (e : Env) (k : ToothKind) (t : Stamp) (b : Blocks) :
    (camEdge e k t b).tap.cut = b.tap.cut := by unfold camEdge; dsimp only; (repeat' split) <;> simp
@[simp] theorem camEdge_tap_load (e : Env) (k : ToothKind) (t : Stamp) (b : Blocks) :
    (camEdge e k t b).tap.load = b.tap.load := by unfold camEdge; dsimp only; (repeat' split) <;> simp
@[simp] theorem camEdge_tap_surface (e : Env) (k : ToothKind) (t : Stamp) (b : Blocks) :
    (camEdge e k t b).tap.surface = b.tap.surface := by unfold camEdge; dsimp only; (repeat' split) <;> simp
@[simp] theorem camEdge_rate_cycles (e : Env) (k : ToothKind) (t : Stamp) (b : Blocks) :
    (camEdge e k t b).rate.cycles = b.rate.cycles := by unfold camEdge; dsimp only; (repeat' split) <;> simp
@[simp] theorem camEdge_rate_wcur (e : Env) (k : ToothKind) (t : Stamp) (b : Blocks) :
    (camEdge e k t b).rate.wcur = b.rate.wcur := by unfold camEdge; dsimp only; (repeat' split) <;> simp
@[simp] theorem camEdge_rate_rows (e : Env) (k : ToothKind) (t : Stamp) (b : Blocks) :
    (camEdge e k t b).rate.rows = b.rate.rows := by unfold camEdge; dsimp only; (repeat' split) <;> simp
@[simp] theorem camEdge_header_op (e : Env) (k : ToothKind) (t : Stamp) (b : Blocks) :
    (camEdge e k t b).rate.header.op = b.rate.header.op := by unfold camEdge; dsimp only; (repeat' split) <;> simp
@[simp] theorem camEdge_header_cycle (e : Env) (k : ToothKind) (t : Stamp) (b : Blocks) :
    (camEdge e k t b).rate.header.cycle = b.rate.header.cycle := by unfold camEdge; dsimp only; (repeat' split) <;> simp
@[simp] theorem camEdge_header_rpm (e : Env) (k : ToothKind) (t : Stamp) (b : Blocks) :
    (camEdge e k t b).rate.header.rpm = b.rate.header.rpm := by unfold camEdge; dsimp only; (repeat' split) <;> simp
@[simp] theorem camEdge_header_cut (e : Env) (k : ToothKind) (t : Stamp) (b : Blocks) :
    (camEdge e k t b).rate.header.cut = b.rate.header.cut := by unfold camEdge; dsimp only; (repeat' split) <;> simp
@[simp] theorem camEdge_header_load (e : Env) (k : ToothKind) (t : Stamp) (b : Blocks) :
    (camEdge e k t b).rate.header.load = b.rate.header.load := by unfold camEdge; dsimp only; (repeat' split) <;> simp
@[simp] theorem camEdge_header_surface (e : Env) (k : ToothKind) (t : Stamp) (b : Blocks) :
    (camEdge e k t b).rate.header.surface = b.rate.header.surface := by unfold camEdge; dsimp only; (repeat' split) <;> simp
@[simp] theorem takeNote_tap_tooth (e : Env) (r : ToothRecord) (b : Blocks) :
    (takeNote e r b).tap.tooth = b.tap.tooth := by unfold takeNote; (repeat' split) <;> simp
@[simp] theorem takeNote_tap_knock (e : Env) (r : ToothRecord) (b : Blocks) :
    (takeNote e r b).tap.knock = b.tap.knock := by unfold takeNote; (repeat' split) <;> simp
@[simp] theorem takeNote_tap_fifo (e : Env) (r : ToothRecord) (b : Blocks) :
    (takeNote e r b).tap.fifo = b.tap.fifo := by unfold takeNote; (repeat' split) <;> simp
@[simp] theorem takeNote_tap_note (e : Env) (r : ToothRecord) (b : Blocks) :
    (takeNote e r b).tap.note = b.tap.note := by unfold takeNote; (repeat' split) <;> simp
@[simp] theorem takeNote_tap_cut (e : Env) (r : ToothRecord) (b : Blocks) :
    (takeNote e r b).tap.cut = b.tap.cut := by unfold takeNote; (repeat' split) <;> simp
@[simp] theorem takeNote_tap_load (e : Env) (r : ToothRecord) (b : Blocks) :
    (takeNote e r b).tap.load = b.tap.load := by unfold takeNote; (repeat' split) <;> simp
@[simp] theorem takeNote_tap_surface (e : Env) (r : ToothRecord) (b : Blocks) :
    (takeNote e r b).tap.surface = b.tap.surface := by unfold takeNote; (repeat' split) <;> simp
@[simp] theorem takeNote_rate_cycles (e : Env) (r : ToothRecord) (b : Blocks) :
    (takeNote e r b).rate.cycles = b.rate.cycles := by unfold takeNote; (repeat' split) <;> simp
@[simp] theorem takeNote_rate_wcur (e : Env) (r : ToothRecord) (b : Blocks) :
    (takeNote e r b).rate.wcur = b.rate.wcur := by unfold takeNote; (repeat' split) <;> simp
@[simp] theorem takeNote_rate_rows (e : Env) (r : ToothRecord) (b : Blocks) :
    (takeNote e r b).rate.rows = b.rate.rows := by unfold takeNote; (repeat' split) <;> simp
@[simp] theorem takeNote_header_op (e : Env) (r : ToothRecord) (b : Blocks) :
    (takeNote e r b).rate.header.op = b.rate.header.op := by unfold takeNote; (repeat' split) <;> simp
@[simp] theorem takeNote_header_cycle (e : Env) (r : ToothRecord) (b : Blocks) :
    (takeNote e r b).rate.header.cycle = b.rate.header.cycle := by unfold takeNote; (repeat' split) <;> simp
@[simp] theorem takeNote_header_rpm (e : Env) (r : ToothRecord) (b : Blocks) :
    (takeNote e r b).rate.header.rpm = b.rate.header.rpm := by unfold takeNote; (repeat' split) <;> simp
@[simp] theorem takeNote_header_cut (e : Env) (r : ToothRecord) (b : Blocks) :
    (takeNote e r b).rate.header.cut = b.rate.header.cut := by unfold takeNote; (repeat' split) <;> simp
@[simp] theorem takeNote_header_load (e : Env) (r : ToothRecord) (b : Blocks) :
    (takeNote e r b).rate.header.load = b.rate.header.load := by unfold takeNote; (repeat' split) <;> simp
@[simp] theorem takeNote_header_surface (e : Env) (r : ToothRecord) (b : Blocks) :
    (takeNote e r b).rate.header.surface = b.rate.header.surface := by unfold takeNote; (repeat' split) <;> simp
@[simp] theorem takeKind_tap_tooth (e : Env) (r : ToothRecord) (b : Blocks) :
    (takeKind e r b).tap.tooth = b.tap.tooth := by unfold takeKind; (repeat' split) <;> simp
@[simp] theorem takeKind_tap_knock (e : Env) (r : ToothRecord) (b : Blocks) :
    (takeKind e r b).tap.knock = b.tap.knock := by unfold takeKind; (repeat' split) <;> simp
@[simp] theorem takeKind_tap_fifo (e : Env) (r : ToothRecord) (b : Blocks) :
    (takeKind e r b).tap.fifo = b.tap.fifo := by unfold takeKind; (repeat' split) <;> simp
@[simp] theorem takeKind_tap_note (e : Env) (r : ToothRecord) (b : Blocks) :
    (takeKind e r b).tap.note = b.tap.note := by unfold takeKind; (repeat' split) <;> simp
@[simp] theorem takeKind_tap_cut (e : Env) (r : ToothRecord) (b : Blocks) :
    (takeKind e r b).tap.cut = b.tap.cut := by unfold takeKind; (repeat' split) <;> simp
@[simp] theorem takeKind_tap_load (e : Env) (r : ToothRecord) (b : Blocks) :
    (takeKind e r b).tap.load = b.tap.load := by unfold takeKind; (repeat' split) <;> simp
@[simp] theorem takeKind_tap_surface (e : Env) (r : ToothRecord) (b : Blocks) :
    (takeKind e r b).tap.surface = b.tap.surface := by unfold takeKind; (repeat' split) <;> simp
@[simp] theorem takeKind_header_op (e : Env) (r : ToothRecord) (b : Blocks) :
    (takeKind e r b).rate.header.op = b.rate.header.op := by unfold takeKind; (repeat' split) <;> simp
@[simp] theorem takeKind_header_cut (e : Env) (r : ToothRecord) (b : Blocks) :
    (takeKind e r b).rate.header.cut = b.rate.header.cut := by unfold takeKind; (repeat' split) <;> simp
@[simp] theorem takeKind_header_load (e : Env) (r : ToothRecord) (b : Blocks) :
    (takeKind e r b).rate.header.load = b.rate.header.load := by unfold takeKind; (repeat' split) <;> simp
@[simp] theorem takeKind_header_surface (e : Env) (r : ToothRecord) (b : Blocks) :
    (takeKind e r b).rate.header.surface = b.rate.header.surface := by unfold takeKind; (repeat' split) <;> simp
@[simp] theorem takeRecord_tap_tooth (e : Env) (r : ToothRecord) (b : Blocks) :
    (takeRecord e r b).tap.tooth = b.tap.tooth := by unfold takeRecord; simp
@[simp] theorem takeRecord_tap_knock (e : Env) (r : ToothRecord) (b : Blocks) :
    (takeRecord e r b).tap.knock = b.tap.knock := by unfold takeRecord; simp
@[simp] theorem takeRecord_tap_fifo (e : Env) (r : ToothRecord) (b : Blocks) :
    (takeRecord e r b).tap.fifo = b.tap.fifo := by unfold takeRecord; simp
@[simp] theorem takeRecord_tap_note (e : Env) (r : ToothRecord) (b : Blocks) :
    (takeRecord e r b).tap.note = b.tap.note := by unfold takeRecord; simp
@[simp] theorem takeRecord_tap_cut (e : Env) (r : ToothRecord) (b : Blocks) :
    (takeRecord e r b).tap.cut = b.tap.cut := by unfold takeRecord; simp
@[simp] theorem takeRecord_tap_load (e : Env) (r : ToothRecord) (b : Blocks) :
    (takeRecord e r b).tap.load = b.tap.load := by unfold takeRecord; simp
@[simp] theorem takeRecord_tap_surface (e : Env) (r : ToothRecord) (b : Blocks) :
    (takeRecord e r b).tap.surface = b.tap.surface := by unfold takeRecord; simp
@[simp] theorem takeRecord_header_op (e : Env) (r : ToothRecord) (b : Blocks) :
    (takeRecord e r b).rate.header.op = b.rate.header.op := by unfold takeRecord; simp
@[simp] theorem takeRecord_header_cut (e : Env) (r : ToothRecord) (b : Blocks) :
    (takeRecord e r b).rate.header.cut = b.rate.header.cut := by unfold takeRecord; simp
@[simp] theorem takeRecord_header_load (e : Env) (r : ToothRecord) (b : Blocks) :
    (takeRecord e r b).rate.header.load = b.rate.header.load := by unfold takeRecord; simp
@[simp] theorem takeRecord_header_surface (e : Env) (r : ToothRecord) (b : Blocks) :
    (takeRecord e r b).rate.header.surface = b.rate.header.surface := by unfold takeRecord; simp
@[simp] theorem stallExpiry_tap_tooth (e : Env) (b : Blocks) :
    (stallExpiry e b).tap.tooth = b.tap.tooth := by unfold stallExpiry; simp
@[simp] theorem stallExpiry_tap_knock (e : Env) (b : Blocks) :
    (stallExpiry e b).tap.knock = b.tap.knock := by unfold stallExpiry; simp
@[simp] theorem stallExpiry_tap_fifo (e : Env) (b : Blocks) :
    (stallExpiry e b).tap.fifo = b.tap.fifo := by unfold stallExpiry; simp
@[simp] theorem stallExpiry_tap_note (e : Env) (b : Blocks) :
    (stallExpiry e b).tap.note = b.tap.note := by unfold stallExpiry; simp
@[simp] theorem stallExpiry_tap_cut (e : Env) (b : Blocks) :
    (stallExpiry e b).tap.cut = b.tap.cut := by unfold stallExpiry; simp
@[simp] theorem stallExpiry_tap_load (e : Env) (b : Blocks) :
    (stallExpiry e b).tap.load = b.tap.load := by unfold stallExpiry; simp
@[simp] theorem stallExpiry_tap_surface (e : Env) (b : Blocks) :
    (stallExpiry e b).tap.surface = b.tap.surface := by unfold stallExpiry; simp
@[simp] theorem stallExpiry_rate_cycles (e : Env) (b : Blocks) :
    (stallExpiry e b).rate.cycles = b.rate.cycles := by unfold stallExpiry; simp
@[simp] theorem stallExpiry_rate_wcur (e : Env) (b : Blocks) :
    (stallExpiry e b).rate.wcur = b.rate.wcur := by unfold stallExpiry; simp
@[simp] theorem stallExpiry_rate_rows (e : Env) (b : Blocks) :
    (stallExpiry e b).rate.rows = b.rate.rows := by unfold stallExpiry; simp
@[simp] theorem stallExpiry_header_op (e : Env) (b : Blocks) :
    (stallExpiry e b).rate.header.op = b.rate.header.op := by unfold stallExpiry; simp
@[simp] theorem stallExpiry_header_cycle (e : Env) (b : Blocks) :
    (stallExpiry e b).rate.header.cycle = b.rate.header.cycle := by unfold stallExpiry; simp
@[simp] theorem stallExpiry_header_rpm (e : Env) (b : Blocks) :
    (stallExpiry e b).rate.header.rpm = b.rate.header.rpm := by unfold stallExpiry; simp
@[simp] theorem stallExpiry_header_cut (e : Env) (b : Blocks) :
    (stallExpiry e b).rate.header.cut = b.rate.header.cut := by unfold stallExpiry; simp
@[simp] theorem stallExpiry_header_load (e : Env) (b : Blocks) :
    (stallExpiry e b).rate.header.load = b.rate.header.load := by unfold stallExpiry; simp
@[simp] theorem stallExpiry_header_surface (e : Env) (b : Blocks) :
    (stallExpiry e b).rate.header.surface = b.rate.header.surface := by unfold stallExpiry; simp
@[simp] theorem expireStall_tap_tooth (e : Env) (b : Blocks) :
    (expireStall e b).tap.tooth = b.tap.tooth := by unfold expireStall; (repeat' split) <;> simp
@[simp] theorem expireStall_tap_knock (e : Env) (b : Blocks) :
    (expireStall e b).tap.knock = b.tap.knock := by unfold expireStall; (repeat' split) <;> simp
@[simp] theorem expireStall_tap_fifo (e : Env) (b : Blocks) :
    (expireStall e b).tap.fifo = b.tap.fifo := by unfold expireStall; (repeat' split) <;> simp
@[simp] theorem expireStall_tap_note (e : Env) (b : Blocks) :
    (expireStall e b).tap.note = b.tap.note := by unfold expireStall; (repeat' split) <;> simp
@[simp] theorem expireStall_tap_cut (e : Env) (b : Blocks) :
    (expireStall e b).tap.cut = b.tap.cut := by unfold expireStall; (repeat' split) <;> simp
@[simp] theorem expireStall_tap_load (e : Env) (b : Blocks) :
    (expireStall e b).tap.load = b.tap.load := by unfold expireStall; (repeat' split) <;> simp
@[simp] theorem expireStall_tap_surface (e : Env) (b : Blocks) :
    (expireStall e b).tap.surface = b.tap.surface := by unfold expireStall; (repeat' split) <;> simp
@[simp] theorem expireStall_rate_cycles (e : Env) (b : Blocks) :
    (expireStall e b).rate.cycles = b.rate.cycles := by unfold expireStall; (repeat' split) <;> simp
@[simp] theorem expireStall_rate_wcur (e : Env) (b : Blocks) :
    (expireStall e b).rate.wcur = b.rate.wcur := by unfold expireStall; (repeat' split) <;> simp
@[simp] theorem expireStall_rate_rows (e : Env) (b : Blocks) :
    (expireStall e b).rate.rows = b.rate.rows := by unfold expireStall; (repeat' split) <;> simp
@[simp] theorem expireStall_header_op (e : Env) (b : Blocks) :
    (expireStall e b).rate.header.op = b.rate.header.op := by unfold expireStall; (repeat' split) <;> simp
@[simp] theorem expireStall_header_cycle (e : Env) (b : Blocks) :
    (expireStall e b).rate.header.cycle = b.rate.header.cycle := by unfold expireStall; (repeat' split) <;> simp
@[simp] theorem expireStall_header_rpm (e : Env) (b : Blocks) :
    (expireStall e b).rate.header.rpm = b.rate.header.rpm := by unfold expireStall; (repeat' split) <;> simp
@[simp] theorem expireStall_header_cut (e : Env) (b : Blocks) :
    (expireStall e b).rate.header.cut = b.rate.header.cut := by unfold expireStall; (repeat' split) <;> simp
@[simp] theorem expireStall_header_load (e : Env) (b : Blocks) :
    (expireStall e b).rate.header.load = b.rate.header.load := by unfold expireStall; (repeat' split) <;> simp
@[simp] theorem expireStall_header_surface (e : Env) (b : Blocks) :
    (expireStall e b).rate.header.surface = b.rate.header.surface := by unfold expireStall; (repeat' split) <;> simp
@[simp] theorem stallTick_tap_tooth (e : Env) (b : Blocks) :
    (stallTick e b).tap.tooth = b.tap.tooth := by unfold stallTick; (repeat' split) <;> simp
@[simp] theorem stallTick_tap_knock (e : Env) (b : Blocks) :
    (stallTick e b).tap.knock = b.tap.knock := by unfold stallTick; (repeat' split) <;> simp
@[simp] theorem stallTick_tap_fifo (e : Env) (b : Blocks) :
    (stallTick e b).tap.fifo = b.tap.fifo := by unfold stallTick; (repeat' split) <;> simp
@[simp] theorem stallTick_tap_note (e : Env) (b : Blocks) :
    (stallTick e b).tap.note = b.tap.note := by unfold stallTick; (repeat' split) <;> simp
@[simp] theorem stallTick_tap_cut (e : Env) (b : Blocks) :
    (stallTick e b).tap.cut = b.tap.cut := by unfold stallTick; (repeat' split) <;> simp
@[simp] theorem stallTick_tap_load (e : Env) (b : Blocks) :
    (stallTick e b).tap.load = b.tap.load := by unfold stallTick; (repeat' split) <;> simp
@[simp] theorem stallTick_tap_surface (e : Env) (b : Blocks) :
    (stallTick e b).tap.surface = b.tap.surface := by unfold stallTick; (repeat' split) <;> simp
@[simp] theorem stallTick_rate_cycles (e : Env) (b : Blocks) :
    (stallTick e b).rate.cycles = b.rate.cycles := by unfold stallTick; (repeat' split) <;> simp
@[simp] theorem stallTick_rate_wcur (e : Env) (b : Blocks) :
    (stallTick e b).rate.wcur = b.rate.wcur := by unfold stallTick; (repeat' split) <;> simp
@[simp] theorem stallTick_rate_rows (e : Env) (b : Blocks) :
    (stallTick e b).rate.rows = b.rate.rows := by unfold stallTick; (repeat' split) <;> simp
@[simp] theorem stallTick_header_op (e : Env) (b : Blocks) :
    (stallTick e b).rate.header.op = b.rate.header.op := by unfold stallTick; (repeat' split) <;> simp
@[simp] theorem stallTick_header_cycle (e : Env) (b : Blocks) :
    (stallTick e b).rate.header.cycle = b.rate.header.cycle := by unfold stallTick; (repeat' split) <;> simp
@[simp] theorem stallTick_header_rpm (e : Env) (b : Blocks) :
    (stallTick e b).rate.header.rpm = b.rate.header.rpm := by unfold stallTick; (repeat' split) <;> simp
@[simp] theorem stallTick_header_cut (e : Env) (b : Blocks) :
    (stallTick e b).rate.header.cut = b.rate.header.cut := by unfold stallTick; (repeat' split) <;> simp
@[simp] theorem stallTick_header_load (e : Env) (b : Blocks) :
    (stallTick e b).rate.header.load = b.rate.header.load := by unfold stallTick; (repeat' split) <;> simp
@[simp] theorem stallTick_header_surface (e : Env) (b : Blocks) :
    (stallTick e b).rate.header.surface = b.rate.header.surface := by unfold stallTick; (repeat' split) <;> simp
@[simp] theorem syncResetRequest_tap_tooth (e : Env) (b : Blocks) :
    (syncResetRequest e b).tap.tooth = b.tap.tooth := by unfold syncResetRequest; (repeat' split) <;> simp
@[simp] theorem syncResetRequest_tap_knock (e : Env) (b : Blocks) :
    (syncResetRequest e b).tap.knock = b.tap.knock := by unfold syncResetRequest; (repeat' split) <;> simp
@[simp] theorem syncResetRequest_tap_fifo (e : Env) (b : Blocks) :
    (syncResetRequest e b).tap.fifo = b.tap.fifo := by unfold syncResetRequest; (repeat' split) <;> simp
@[simp] theorem syncResetRequest_tap_note (e : Env) (b : Blocks) :
    (syncResetRequest e b).tap.note = b.tap.note := by unfold syncResetRequest; (repeat' split) <;> simp
@[simp] theorem syncResetRequest_tap_cut (e : Env) (b : Blocks) :
    (syncResetRequest e b).tap.cut = b.tap.cut := by unfold syncResetRequest; (repeat' split) <;> simp
@[simp] theorem syncResetRequest_tap_load (e : Env) (b : Blocks) :
    (syncResetRequest e b).tap.load = b.tap.load := by unfold syncResetRequest; (repeat' split) <;> simp
@[simp] theorem syncResetRequest_tap_surface (e : Env) (b : Blocks) :
    (syncResetRequest e b).tap.surface = b.tap.surface := by unfold syncResetRequest; (repeat' split) <;> simp
@[simp] theorem syncResetRequest_rate_cycles (e : Env) (b : Blocks) :
    (syncResetRequest e b).rate.cycles = b.rate.cycles := by unfold syncResetRequest; (repeat' split) <;> simp
@[simp] theorem syncResetRequest_rate_wcur (e : Env) (b : Blocks) :
    (syncResetRequest e b).rate.wcur = b.rate.wcur := by unfold syncResetRequest; (repeat' split) <;> simp
@[simp] theorem syncResetRequest_rate_rows (e : Env) (b : Blocks) :
    (syncResetRequest e b).rate.rows = b.rate.rows := by unfold syncResetRequest; (repeat' split) <;> simp
@[simp] theorem syncResetRequest_header_op (e : Env) (b : Blocks) :
    (syncResetRequest e b).rate.header.op = b.rate.header.op := by unfold syncResetRequest; (repeat' split) <;> simp
@[simp] theorem syncResetRequest_header_cycle (e : Env) (b : Blocks) :
    (syncResetRequest e b).rate.header.cycle = b.rate.header.cycle := by unfold syncResetRequest; (repeat' split) <;> simp
@[simp] theorem syncResetRequest_header_rpm (e : Env) (b : Blocks) :
    (syncResetRequest e b).rate.header.rpm = b.rate.header.rpm := by unfold syncResetRequest; (repeat' split) <;> simp
@[simp] theorem syncResetRequest_header_cut (e : Env) (b : Blocks) :
    (syncResetRequest e b).rate.header.cut = b.rate.header.cut := by unfold syncResetRequest; (repeat' split) <;> simp
@[simp] theorem syncResetRequest_header_load (e : Env) (b : Blocks) :
    (syncResetRequest e b).rate.header.load = b.rate.header.load := by unfold syncResetRequest; (repeat' split) <;> simp
@[simp] theorem syncResetRequest_header_surface (e : Env) (b : Blocks) :
    (syncResetRequest e b).rate.header.surface = b.rate.header.surface := by unfold syncResetRequest; (repeat' split) <;> simp
@[simp] theorem crankStop_seg (e : Env) (b : Blocks) : (crankStop e b).seg = b.seg := by unfold crankStop; simp
@[simp] theorem crankStop_knock (e : Env) (b : Blocks) : (crankStop e b).knock = b.knock := by unfold crankStop; simp
@[simp] theorem crankStop_evq (e : Env) (b : Blocks) : (crankStop e b).evq = b.evq := by unfold crankStop; simp
@[simp] theorem crankStop_frz (e : Env) (b : Blocks) : (crankStop e b).frz = b.frz := by unfold crankStop; simp
@[simp] theorem crankStop_tap (e : Env) (b : Blocks) : (crankStop e b).tap = b.tap := by unfold crankStop; simp
@[simp] theorem crankStop_rate_cycles (e : Env) (b : Blocks) :
    (crankStop e b).rate.cycles = b.rate.cycles := by unfold crankStop; simp
@[simp] theorem crankStop_rate_wcur (e : Env) (b : Blocks) :
    (crankStop e b).rate.wcur = b.rate.wcur := by unfold crankStop; simp
@[simp] theorem crankStop_rate_rows (e : Env) (b : Blocks) :
    (crankStop e b).rate.rows = b.rate.rows := by unfold crankStop; simp
@[simp] theorem crankStop_header_op (e : Env) (b : Blocks) :
    (crankStop e b).rate.header.op = b.rate.header.op := by unfold crankStop; simp
@[simp] theorem crankStop_header_cycle (e : Env) (b : Blocks) :
    (crankStop e b).rate.header.cycle = b.rate.header.cycle := by unfold crankStop; simp
@[simp] theorem crankStop_header_rpm (e : Env) (b : Blocks) :
    (crankStop e b).rate.header.rpm = b.rate.header.rpm := by unfold crankStop; simp
@[simp] theorem crankStop_header_cut (e : Env) (b : Blocks) :
    (crankStop e b).rate.header.cut = b.rate.header.cut := by unfold crankStop; simp
@[simp] theorem crankStop_header_load (e : Env) (b : Blocks) :
    (crankStop e b).rate.header.load = b.rate.header.load := by unfold crankStop; simp
@[simp] theorem crankStop_header_surface (e : Env) (b : Blocks) :
    (crankStop e b).rate.header.surface = b.rate.header.surface := by unfold crankStop; simp
@[simp] theorem crankStop_header_flags (e : Env) (b : Blocks) :
    (crankStop e b).rate.header.flags = b.rate.header.flags := by unfold crankStop; simp
@[simp] theorem crankStop_header_producer (e : Env) (b : Blocks) :
    (crankStop e b).rate.header.producer = b.rate.header.producer := by unfold crankStop; simp
@[simp] theorem crankStop_header_freeze (e : Env) (b : Blocks) :
    (crankStop e b).rate.header.freeze = b.rate.header.freeze := by unfold crankStop; simp
/-- Taking the head of the tooth FIFO leaves the rest of TAP but the flags. -/
@[simp] theorem takeHead_tap_tooth (e : Env) (b : Blocks) :
    (takeHead e b).tap.tooth = b.tap.tooth := by unfold takeHead; (repeat' split) <;> simp [setFifo]
@[simp] theorem takeHead_tap_knock (e : Env) (b : Blocks) :
    (takeHead e b).tap.knock = b.tap.knock := by unfold takeHead; (repeat' split) <;> simp [setFifo]
@[simp] theorem takeHead_tap_note (e : Env) (b : Blocks) :
    (takeHead e b).tap.note = b.tap.note := by unfold takeHead; (repeat' split) <;> simp [setFifo]
@[simp] theorem takeHead_tap_cut (e : Env) (b : Blocks) :
    (takeHead e b).tap.cut = b.tap.cut := by unfold takeHead; (repeat' split) <;> simp [setFifo]
@[simp] theorem takeHead_tap_load (e : Env) (b : Blocks) :
    (takeHead e b).tap.load = b.tap.load := by unfold takeHead; (repeat' split) <;> simp [setFifo]
@[simp] theorem takeHead_tap_surface (e : Env) (b : Blocks) :
    (takeHead e b).tap.surface = b.tap.surface := by unfold takeHead; (repeat' split) <;> simp [setFifo]

/-! ### TAP -/

@[simp] theorem streamFault_crank (e : Env) (f : StreamFaultKind) (v l : Word) (b : Blocks) :
    (streamFault e f v l b).crank = b.crank := by unfold streamFault; (repeat' split) <;> simp
@[simp] theorem streamFault_seg (e : Env) (f : StreamFaultKind) (v l : Word) (b : Blocks) :
    (streamFault e f v l b).seg = b.seg := by unfold streamFault; (repeat' split) <;> simp
@[simp] theorem streamFault_tap_tooth (e : Env) (f : StreamFaultKind) (v l : Word) (b : Blocks) :
    (streamFault e f v l b).tap.tooth = b.tap.tooth := by unfold streamFault; (repeat' split) <;> simp
@[simp] theorem streamFault_tap_knock (e : Env) (f : StreamFaultKind) (v l : Word) (b : Blocks) :
    (streamFault e f v l b).tap.knock = b.tap.knock := by unfold streamFault; (repeat' split) <;> simp
@[simp] theorem streamFault_tap_fifo (e : Env) (f : StreamFaultKind) (v l : Word) (b : Blocks) :
    (streamFault e f v l b).tap.fifo = b.tap.fifo := by unfold streamFault; (repeat' split) <;> simp
@[simp] theorem streamFault_tap_note (e : Env) (f : StreamFaultKind) (v l : Word) (b : Blocks) :
    (streamFault e f v l b).tap.note = b.tap.note := by unfold streamFault; (repeat' split) <;> simp
@[simp] theorem streamFault_tap_cut (e : Env) (f : StreamFaultKind) (v l : Word) (b : Blocks) :
    (streamFault e f v l b).tap.cut = b.tap.cut := by unfold streamFault; (repeat' split) <;> simp
@[simp] theorem streamFault_tap_load (e : Env) (f : StreamFaultKind) (v l : Word) (b : Blocks) :
    (streamFault e f v l b).tap.load = b.tap.load := by unfold streamFault; (repeat' split) <;> simp
@[simp] theorem streamFault_tap_surface (e : Env) (f : StreamFaultKind) (v l : Word) (b : Blocks) :
    (streamFault e f v l b).tap.surface = b.tap.surface := by unfold streamFault; (repeat' split) <;> simp
@[simp] theorem streamFault_rate_cycles (e : Env) (f : StreamFaultKind) (v l : Word) (b : Blocks) :
    (streamFault e f v l b).rate.cycles = b.rate.cycles := by unfold streamFault; (repeat' split) <;> simp
@[simp] theorem streamFault_rate_wcur (e : Env) (f : StreamFaultKind) (v l : Word) (b : Blocks) :
    (streamFault e f v l b).rate.wcur = b.rate.wcur := by unfold streamFault; (repeat' split) <;> simp
@[simp] theorem streamFault_rate_rows (e : Env) (f : StreamFaultKind) (v l : Word) (b : Blocks) :
    (streamFault e f v l b).rate.rows = b.rate.rows := by unfold streamFault; (repeat' split) <;> simp
@[simp] theorem streamFault_header_op (e : Env) (f : StreamFaultKind) (v l : Word) (b : Blocks) :
    (streamFault e f v l b).rate.header.op = b.rate.header.op := by unfold streamFault; (repeat' split) <;> simp
@[simp] theorem streamFault_header_sync (e : Env) (f : StreamFaultKind) (v l : Word) (b : Blocks) :
    (streamFault e f v l b).rate.header.sync = b.rate.header.sync := by unfold streamFault; (repeat' split) <;> simp
@[simp] theorem streamFault_header_cycle (e : Env) (f : StreamFaultKind) (v l : Word) (b : Blocks) :
    (streamFault e f v l b).rate.header.cycle = b.rate.header.cycle := by unfold streamFault; (repeat' split) <;> simp
@[simp] theorem streamFault_header_rpm (e : Env) (f : StreamFaultKind) (v l : Word) (b : Blocks) :
    (streamFault e f v l b).rate.header.rpm = b.rate.header.rpm := by unfold streamFault; (repeat' split) <;> simp
@[simp] theorem streamFault_header_cut (e : Env) (f : StreamFaultKind) (v l : Word) (b : Blocks) :
    (streamFault e f v l b).rate.header.cut = b.rate.header.cut := by unfold streamFault; (repeat' split) <;> simp
@[simp] theorem streamFault_header_load (e : Env) (f : StreamFaultKind) (v l : Word) (b : Blocks) :
    (streamFault e f v l b).rate.header.load = b.rate.header.load := by unfold streamFault; (repeat' split) <;> simp
@[simp] theorem streamFault_header_surface (e : Env) (f : StreamFaultKind) (v l : Word) (b : Blocks) :
    (streamFault e f v l b).rate.header.surface = b.rate.header.surface := by unfold streamFault; (repeat' split) <;> simp
@[simp] theorem sizeFault_crank (e : Env) (n : Nat) (l : Lanes) (b : Blocks) :
    (sizeFault e n l b).crank = b.crank := by unfold sizeFault; simp
@[simp] theorem sizeFault_seg (e : Env) (n : Nat) (l : Lanes) (b : Blocks) :
    (sizeFault e n l b).seg = b.seg := by unfold sizeFault; simp
@[simp] theorem sizeFault_tap_tooth (e : Env) (n : Nat) (l : Lanes) (b : Blocks) :
    (sizeFault e n l b).tap.tooth = b.tap.tooth := by unfold sizeFault; simp
@[simp] theorem sizeFault_tap_knock (e : Env) (n : Nat) (l : Lanes) (b : Blocks) :
    (sizeFault e n l b).tap.knock = b.tap.knock := by unfold sizeFault; simp
@[simp] theorem sizeFault_tap_fifo (e : Env) (n : Nat) (l : Lanes) (b : Blocks) :
    (sizeFault e n l b).tap.fifo = b.tap.fifo := by unfold sizeFault; simp
@[simp] theorem sizeFault_tap_note (e : Env) (n : Nat) (l : Lanes) (b : Blocks) :
    (sizeFault e n l b).tap.note = b.tap.note := by unfold sizeFault; simp
@[simp] theorem sizeFault_tap_cut (e : Env) (n : Nat) (l : Lanes) (b : Blocks) :
    (sizeFault e n l b).tap.cut = b.tap.cut := by unfold sizeFault; simp
@[simp] theorem sizeFault_tap_load (e : Env) (n : Nat) (l : Lanes) (b : Blocks) :
    (sizeFault e n l b).tap.load = b.tap.load := by unfold sizeFault; simp
@[simp] theorem sizeFault_tap_surface (e : Env) (n : Nat) (l : Lanes) (b : Blocks) :
    (sizeFault e n l b).tap.surface = b.tap.surface := by unfold sizeFault; simp
@[simp] theorem sizeFault_rate_cycles (e : Env) (n : Nat) (l : Lanes) (b : Blocks) :
    (sizeFault e n l b).rate.cycles = b.rate.cycles := by unfold sizeFault; simp
@[simp] theorem sizeFault_rate_wcur (e : Env) (n : Nat) (l : Lanes) (b : Blocks) :
    (sizeFault e n l b).rate.wcur = b.rate.wcur := by unfold sizeFault; simp
@[simp] theorem sizeFault_rate_rows (e : Env) (n : Nat) (l : Lanes) (b : Blocks) :
    (sizeFault e n l b).rate.rows = b.rate.rows := by unfold sizeFault; simp
@[simp] theorem sizeFault_header_op (e : Env) (n : Nat) (l : Lanes) (b : Blocks) :
    (sizeFault e n l b).rate.header.op = b.rate.header.op := by unfold sizeFault; simp
@[simp] theorem sizeFault_header_sync (e : Env) (n : Nat) (l : Lanes) (b : Blocks) :
    (sizeFault e n l b).rate.header.sync = b.rate.header.sync := by unfold sizeFault; simp
@[simp] theorem sizeFault_header_cycle (e : Env) (n : Nat) (l : Lanes) (b : Blocks) :
    (sizeFault e n l b).rate.header.cycle = b.rate.header.cycle := by unfold sizeFault; simp
@[simp] theorem sizeFault_header_rpm (e : Env) (n : Nat) (l : Lanes) (b : Blocks) :
    (sizeFault e n l b).rate.header.rpm = b.rate.header.rpm := by unfold sizeFault; simp
@[simp] theorem sizeFault_header_cut (e : Env) (n : Nat) (l : Lanes) (b : Blocks) :
    (sizeFault e n l b).rate.header.cut = b.rate.header.cut := by unfold sizeFault; simp
@[simp] theorem sizeFault_header_load (e : Env) (n : Nat) (l : Lanes) (b : Blocks) :
    (sizeFault e n l b).rate.header.load = b.rate.header.load := by unfold sizeFault; simp
@[simp] theorem sizeFault_header_surface (e : Env) (n : Nat) (l : Lanes) (b : Blocks) :
    (sizeFault e n l b).rate.header.surface = b.rate.header.surface := by unfold sizeFault; simp

end Sys2Proof.Machine
end

