-- ==== Sys2Proof/Laws/Ram.lean ====
section
/-! SUPPORT. What a write to RAM does to every byte, and that it keeps the canonical form. -/

namespace Sys2Proof.Machine

theorem ramWfFrom_mono {lo lo' : Nat} (h : lo' ≤ lo) : ∀ {m : Ram}, ramWfFrom lo m = true → ramWfFrom lo' m = true
  | [], _ => rfl
  | (a, v) :: rest, w => by
    simp only [ramWfFrom, Bool.and_eq_true, decide_eq_true_eq] at w ⊢
    exact ⟨⟨Nat.le_trans h w.1.1, w.1.2⟩, w.2⟩

/-- Below the lowest listed address every byte is the unlisted one. -/
theorem ramByte_below {lo a : Nat} (h : a < lo) : ∀ {m : Ram}, ramWfFrom lo m = true → ramByte m a = Config.unlistedByte
  | [], _ => rfl
  | (b, v) :: rest, w => by
    simp only [ramWfFrom, Bool.and_eq_true, decide_eq_true_eq] at w
    have hb : lo ≤ b := w.1.1
    rw [ramByte, if_neg (by omega)]
    exact ramByte_below (lo := b + 1) (by omega) w.2

theorem ramWriteByte_wfFrom {lo a : Nat} (v : Byte) (h : lo ≤ a) :
    ∀ {m : Ram}, ramWfFrom lo m = true → ramWfFrom lo (ramWriteByte m a v) = true
  | [], _ => by
    unfold ramWriteByte; split
    · rfl
    · next hv => simp [ramWfFrom, h, hv]
  | (b, w) :: rest, hw => by
    have hw' := hw
    simp only [ramWfFrom, Bool.and_eq_true, decide_eq_true_eq, bne_iff_ne] at hw'
    obtain ⟨⟨hlo, hne⟩, hrest⟩ := hw'
    unfold ramWriteByte; split
    · split
      · exact hw
      · next hab hv =>
        have : a + 1 ≤ b := hab
        simp [ramWfFrom, h, hv, hne, hrest, this]
    · split
      · next hab =>
        split
        · exact ramWfFrom_mono (by omega) hrest
        · next hv => simp only [ramWfFrom, Bool.and_eq_true, decide_eq_true_eq, bne_iff_ne]; exact ⟨⟨h, hv⟩, hab ▸ hrest⟩
      · next h1 h2 =>
        simp only [ramWfFrom, Bool.and_eq_true, decide_eq_true_eq, bne_iff_ne]
        exact ⟨⟨hlo, hne⟩, ramWriteByte_wfFrom v (by omega) hrest⟩

/-- Writing a byte keeps the canonical form. -/
theorem ramWriteByte_wf {m : Ram} (a : Nat) (v : Byte) (h : ramWf m = true) : ramWf (ramWriteByte m a v) = true :=
  ramWriteByte_wfFrom v (Nat.zero_le a) h

/-- A byte other than the one written reads as before. -/
theorem ramByte_write_ne {a b : Nat} (v : Byte) (h : b ≠ a) : ∀ (m : Ram), ramByte (ramWriteByte m a v) b = ramByte m b
  | [] => by unfold ramWriteByte; split <;> simp [ramByte, h]
  | (c, w) :: rest => by
    unfold ramWriteByte; split
    · split <;> simp [ramByte, h]
    · split
      · next hac => subst hac; split <;> simp [ramByte, h]
      · simp only [ramByte]; rw [ramByte_write_ne v h rest]

theorem ramByte_write_sameFrom {lo a : Nat} (v : Byte) :
    ∀ {m : Ram}, ramWfFrom lo m = true → ramByte (ramWriteByte m a v) a = v
  | [], _ => by
    unfold ramWriteByte; split
    · next h => simp [ramByte, h]
    · simp [ramByte]
  | (b, w) :: rest, hw => by
    simp only [ramWfFrom, Bool.and_eq_true, decide_eq_true_eq, bne_iff_ne] at hw
    obtain ⟨⟨hlo, hne⟩, hrest⟩ := hw
    unfold ramWriteByte; split
    · next hab =>
      split
      · next hv =>
        rw [hv, ramByte, if_neg (by omega)]
        exact ramByte_below (lo := b + 1) (by omega) hrest
      · simp [ramByte]
    · split
      · next hab =>
        split
        · next hv => rw [hv]; exact ramByte_below (lo := b + 1) (by omega) hrest
        · simp [ramByte]
      · next h1 h2 => rw [ramByte, if_neg h2]; exact ramByte_write_sameFrom v hrest

/-- The byte written reads as written, in canonical RAM. -/
theorem ramByte_write_same {m : Ram} (a : Nat) (v : Byte) (h : ramWf m = true) : ramByte (ramWriteByte m a v) a = v :=
  ramByte_write_sameFrom v h

/-- Writing lanes keeps the canonical form. -/
theorem ramWriteLanes_wf (w : WordAddr) (d : Word) : ∀ (l : List Nat) {m : Ram}, ramWf m = true →
    ramWf (ramWriteLanes m w d l) = true
  | [], _, h => h
  | _ :: ks, _, h => ramWriteLanes_wf w d ks (ramWriteByte_wf _ _ h)

/-- A byte outside the lanes written reads as before. -/
theorem ramByte_lanes_ne (w : WordAddr) (d : Word) (n : Nat) : ∀ (l : List Nat) (m : Ram),
    (∀ k ∈ l, n ≠ 4 * w.toNat + k) → ramByte (ramWriteLanes m w d l) n = ramByte m n
  | [], _, _ => rfl
  | k :: ks, m, h => by
    rw [ramWriteLanes, ramByte_lanes_ne w d n ks _ (fun j hj => h j (List.mem_cons_of_mem _ hj))]
    exact ramByte_write_ne _ (h k (List.mem_cons_self)) m

/-- A byte in a lane written reads as the data's byte in that lane. -/
theorem ramByte_lanes_same (w : WordAddr) (d : Word) (k : Nat) : ∀ (l : List Nat) {m : Ram}, ramWf m = true →
    k ∈ l → ramByte (ramWriteLanes m w d l) (4 * w.toNat + k) = laneByte d k
  | j :: ks, m, h, hk => by
    by_cases hks : k ∈ ks
    · exact ramByte_lanes_same w d k ks (ramWriteByte_wf _ _ h) hks
    · have hj : k = j := (List.mem_cons.mp hk).resolve_right hks
      subst hj
      rw [ramWriteLanes, ramByte_lanes_ne w d _ ks _ (fun i hi heq => hks (by
        have : k = i := by omega
        exact this ▸ hi))]
      exact ramByte_write_same _ _ h

/-- The lanes an access enables are those of the bytes it names. -/
theorem mem_enabledLanes (l : Lanes) (k : Nat) :
    k ∈ enabledLanes l ↔ lowestLane l ≤ k ∧ k < lowestLane l + sizeBytes l := by
  cases l with
  | word => simp [enabledLanes, lowestLane, sizeBytes]; omega
  | half high => cases high <;> simp [enabledLanes, lowestLane, sizeBytes] <;> omega
  | byte j => simp [enabledLanes, lowestLane, sizeBytes]; omega

/-- A memory-side access keeps RAM in canonical form. -/
theorem ramAfter_wf {m : Ram} (a : Access) (h : ramWf m = true) : ramWf (ramAfter m a) = true := by
  unfold ramAfter; split
  · exact h
  · exact ramWriteLanes_wf _ _ _ h

/-- A read leaves RAM. -/
theorem ramAfter_read {a : Access} (h : a.dir = .read) (m : Ram) : ramAfter m a = m := by
  unfold ramAfter; simp [h]

/-- A byte that an access does not name reads as before. -/
theorem ramAfter_ne {a : Access} {n : Nat} (h : ¬ names a n) (m : Ram) : ramByte (ramAfter m a) n = ramByte m n := by
  unfold ramAfter; split
  · rfl
  · refine ramByte_lanes_ne _ _ n _ m fun k hk heq => h ?_
    rw [mem_enabledLanes] at hk
    simp only [names, byteAddr]; omega

/-- A byte that a write names reads as its lane's byte of the data. -/
theorem ramAfter_same {a : Access} {d : Word} {n : Nat} (hd : a.dir = .write d) (hn : names a n) {m : Ram}
    (h : ramWf m = true) : ramByte (ramAfter m a) n = writtenByte a d n := by
  unfold ramAfter; rw [hd]
  simp only [names, byteAddr] at hn
  obtain ⟨k, hk⟩ : ∃ k, n = 4 * a.addr.toNat + k := ⟨n - 4 * a.addr.toNat, by omega⟩
  subst hk
  have := ramByte_lanes_same a.addr d k (enabledLanes a.lanes) h ((mem_enabledLanes _ _).mpr (by omega))
  simpa [writtenByte] using this

end Sys2Proof.Machine
end

