-- ==== Sys2Proof/Laws/Path.lean ====
section
/-! SUPPORT. Turns of system accesses, and the principle by which a property passes through every command. -/

namespace Sys2Proof.Machine

/-! ### What decides a fate -/

/-- The parts of a state that decide a write's fate. -/
structure SameView (s t : State) : Prop where
  resetPin : s.resetPin = t.resetPin
  loader : s.loader = t.loader
  blocks : s.blocks = t.blocks
  table : s.path.table = t.path.table
  protection : s.path.protection = t.path.protection
  setupSel : s.path.setupSel = t.path.setupSel

theorem SameView.refl (s : State) : SameView s s := ⟨rfl, rfl, rfl, rfl, rfl, rfl⟩

theorem windowOf_congr {p q : Path} (h1 : p.setupSel = q.setupSel) (h2 : p.table = q.table) (n : Nat) :
    windowOf p n = windowOf q n := by
  have e : ∀ r : Path, windowOf r n =
      if within (setupBaseByte r.setupSel) (4 * Config.setupWords) n then
        .setup ((n - setupBaseByte r.setupSel) / 4)
      else if r.table.valid then tableWindow r.table n else .none := fun _ => rfl
  rw [e p, e q, h1, h2]

theorem windowOf_view {s t : State} (h : SameView s t) (n : Nat) : windowOf s.path n = windowOf t.path n :=
  windowOf_congr h.setupSel h.table n

theorem setupFate_view {s t : State} (h : SameView s t) (o : Nat) (l : Lanes) (d : Word) :
    setupFate s o l d = setupFate t o l d := by
  unfold setupFate; rw [h.loader, h.setupSel]

theorem slotFate_view {s t : State} (h : SameView s t) (i : Nat) (l : Lanes) (d : Word) :
    slotFate s i l d = slotFate t i l d := by
  unfold slotFate; rw [h.blocks]

theorem reportFate_view {s t : State} (h : SameView s t) (w : Nat) (l : Lanes) (d : Word) :
    reportFate s w l d = reportFate t w l d := by
  unfold reportFate; rw [h.table, slotFate_view h]

theorem freezeFate_view {s t : State} (h : SameView s t) (w : Nat) (l : Lanes) (d : Word) :
    freezeFate s w l d = freezeFate t w l d := by
  unfold freezeFate; rw [h.blocks]

theorem windowFate_view {s t : State} (h : SameView s t) (l : Lanes) (d : Word) (w : Window) :
    windowFate s l d w = windowFate t l d w := by
  cases w <;> simp only [windowFate, streamFate, setupFate_view h, reportFate_view h, freezeFate_view h, h.loader,
    h.protection]

theorem writeFate_view {s t : State} (h : SameView s t) (a : Access) (d : Word) : writeFate s a d = writeFate t a d := by
  unfold writeFate; rw [windowOf_view h, h.resetPin, windowFate_view h]

theorem firstInternal_view {s t : State} (h : SameView s t) : firstInternal s = firstInternal t := by
  unfold firstInternal; rw [h.resetPin, h.loader, h.blocks]

/-! ### Commands as accesses -/

/-- A command that is a system access sends that access to the bus. -/
theorem exec_access {c : Instr} {s : State} {a : Access} (h : accessOf s c = some a) :
    exec c s = .next (systemAccess a s) := by
  cases c <;> simp only [accessOf, Option.some.injEq, reduceCtorEq] at h <;> subst h <;> rfl

/-- An access that arrives while the system bus is held waits for it. -/
theorem systemAccess_waits {a : Access} {s : State} (hb : s.path.bus = []) (ha : s.path.access = none)
    (h : busHeld s = true) : systemAccess a s = { s with path := { s.path with bus := [a] } } := by
  simp [systemAccess, hb, settle, ha, h]

/-- A write that arrives while an internal access is in progress waits for its turn. -/
theorem systemAccess_holds {a : Access} {s : State} {u : PortUse} (hb : s.path.bus = []) (ha : s.path.access = none)
    (hp : s.path.port = some u) (hu : u.user ≠ .system) (hr : protectedRead s a = none) :
    systemAccess a s = hold a s := by
  have hheld : busHeld s = false := by simp [busHeld, ha, hp, hu]
  have hbus : { (hold a s) with path := { (hold a s).path with bus := [] } } = hold a s := by
    simp [hold, ← hb]
  simp only [systemAccess, hb, settle, List.nil_append, ha, Option.isSome_none, Bool.false_eq_true, if_false, hheld,
    arrive, hr]
  rw [hbus]; simp [arbitrate, hold, hp]

theorem systemAccess_turn {a : Access} {s : State} (h : onTurn s) (hr : protectedRead s a = none) :
    systemAccess a s = decideSystem a (hold a s) := by
  obtain ⟨hp, ha, hb, _⟩ := h
  have hheld : busHeld s = false := by simp [busHeld, ha, hp]
  have hbus : { (hold a s) with path := { (hold a s).path with bus := [] } } = hold a s := by
    simp [hold, ← hb]
  simp only [systemAccess, hb, settle, List.nil_append, ha, Option.isSome_none, Bool.false_eq_true, if_false, hheld,
    arrive, hr]
  rw [hbus]; simp [arbitrate, hold, hp]

theorem hold_view (a : Access) (s : State) : SameView (hold a s) s := ⟨rfl, rfl, rfl, rfl, rfl, rfl⟩

/-- Where the port is in use, a decision for the internal claimants changes nothing. -/
theorem decideInternal_busy {s : State} {u : PortUse} (h : s.path.port = some u) : decideInternal s = s := by
  simp [decideInternal, h]

/-- Nothing is claimed: a decision for the internal claimants changes nothing. -/
theorem decideInternal_none {s : State} (h : firstInternal s = none) : decideInternal s = s := by
  unfold decideInternal; rw [h]; split <;> first | rfl | simp_all

/-- The path of a state after a block took a granted or dropped write. -/
theorem takeWrite_port (a : Access) (d : Word) (s : State) (f : Fate) : (takeWrite a d s f).path.port = s.path.port := by
  cases f <;> try rfl
  · unfold takeWrite takeCommand; dsimp only; split <;> try rfl
    · unfold commandStart; split <;> rfl
    · unfold commandStop; split <;> rfl
  · unfold takeWrite takeSetup; dsimp only; split <;> rfl

theorem grantSystem_eq_forwarded {a : Access} {s : State} {w : Bool} (ha : s.path.access = none)
    (hw : w = (firstInternal s).isSome) : grantSystem w a (hold a s) = forwarded a s := by
  subst hw
  unfold forwarded patienceAfter grantSystem grant hold
  cases h : firstInternal s <;> simp [ha]

theorem decideSystem_onTurn {a : Access} {s : State} (h : onTurn s) :
    decideSystem a (hold a s) = decideInternal (turn (firstInternal s).isSome a (hold a s)) := by
  unfold decideSystem
  rw [firstInternal_view (hold_view a s)]
  cases hf : firstInternal s with
  | none => rfl
  | some c =>
    have hp := h.2.2.2.resolve_left (by simp [hf])
    simp [hold, Nat.not_le.mpr hp]

/-- A write whose fate is a grant, at its turn as it arrives: it is forwarded, and the block that takes it takes it. -/
theorem systemAccess_granted {a : Access} {d : Word} {s : State} (h : onTurn s) (hd : a.dir = .write d)
    (hf : (writeFate s a d).granted = true) :
    systemAccess a s = takeWrite a d (forwarded a s) (writeFate s a d) := by
  have hr : protectedRead s a = none := by simp [protectedRead, hd]
  rw [systemAccess_turn h hr, decideSystem_onTurn h]
  simp only [turn, hd, turnWrite, writeFate_view (hold_view a s), hf, if_true]
  rw [grantSystem_eq_forwarded h.2.1 rfl]
  exact decideInternal_busy (u := ⟨.system, a, true⟩) (by rw [takeWrite_port]; rfl)

theorem endAccess_eq_endedBy {a : Access} {how : Ending} {d : Word} {s : State} (ha : s.path.access = none) :
    endAccess a how d (hold a s) = endedBy a how d s := by
  unfold endedBy endAccess hold; simp [ha]

/-- A write whose fate is no grant, at its turn as it arrives: it ends, its data is consumed where it is, and the
arbiter decides again. -/
theorem systemAccess_ended {a : Access} {d : Word} {s : State} (h : onTurn s) (hd : a.dir = .write d)
    (hf : (writeFate s a d).granted = false) :
    systemAccess a s = decideInternal
      (takeWrite a d (endedBy a (writeFate s a d).ending d s) (writeFate s a d)) := by
  have hr : protectedRead s a = none := by simp [protectedRead, hd]
  rw [systemAccess_turn h hr, decideSystem_onTurn h]
  simp only [turn, hd, turnWrite, writeFate_view (hold_view a s), hf, Bool.false_eq_true, if_false]
  rw [endAccess_eq_endedBy h.2.1]

/-- A read that is not answered, at its turn as it arrives: it is forwarded. -/
theorem systemAccess_read {a : Access} {s : State} (h : onTurn s) (hd : a.dir = .read)
    (hr : protectedRead s a = none) : systemAccess a s = forwarded a s := by
  rw [systemAccess_turn h hr, decideSystem_onTurn h]
  simp only [turn, hd]
  rw [grantSystem_eq_forwarded h.2.1 rfl]
  exact decideInternal_busy (u := ⟨.system, a, true⟩) rfl

/-! ### The principle of invariance -/

/-- A property of states that every primitive change made by a command passes on. -/
structure Kept (P : State → Prop) : Prop where
  bus : ∀ s b, P s → P { s with path := { s.path with bus := b } }
  hold : ∀ s a, P s → P (hold a s)
  endAccess : ∀ s a h d, P s → P (endAccess a h d s)
  snapshot : ∀ s x, P s → P { s with path := { s.path with snapshot := x } }
  patience : ∀ s, P s → P { s with path := { s.path with patience := 0 } }
  grantSystem : ∀ s w a, s.path.port = none → (w = true → s.path.patience < bound s.path.table) → P s →
    P (grantSystem w a s)
  grantReport : ∀ s, s.path.port = none → s.resetPin = false → P s → P (grantReport s)
  grantLoader : ∀ s, s.path.port = none → s.resetPin = false → loaderClaims s.loader = true → P s → P (grantLoader s)
  grantFreeze : ∀ s, s.path.port = none → s.resetPin = false → P s → P (grantFreeze s)
  command : ∀ s d, P s → P (takeCommand d s)
  setup : ∀ s off l d, decideSetup (setupBaseByte s.path.setupSel) off l d s.loader = .take → P s →
    P (takeSetup off l d s)
  tooth : ∀ s a d, s.loader.op = .running → P s → P (onBlocks (fun e => takeTooth e a d) s)
  knock : ∀ s x a d, s.loader.op = .running → P s → P (onBlocks (fun e => takeKnock e x a d) s)
  marker : ∀ s a d, s.loader.op = .running → P s → P (onBlocks (fun e => takeMarker e a d) s)
  slotRelease : ∀ s i k, s.blocks.evq.slots[i]? = some (.ready k) → P s → P (onBlocks (fun e => releaseSlot e.op i) s)
  frameRelease : ∀ s, s.blocks.frz.state = .held → P s → P (onBlocks releaseFrame s)
  protect : ∀ s, P s → P (onBlocks (fun e => setFlag e .protect) s)
  refuseSetup : ∀ s r off, P s → P (onBlocks (refuseSetup r off) s)
  flagClear : ∀ s m, P s → P (onBlocks (fun e => clearFlags e m) s)
  freePort : ∀ s, P s → P (freePort s)
  loaderRead : ∀ s u, s.path.port = some u → u.user = .loader → u.live = true → P s →
    P (loaderRead (ramWord s.ram u.access.addr) (Machine.freePort s))
  headDone : ∀ s, P s → P (headDone s)
  frameWordDone : ∀ s, P s → P (frameWordDone s)
  takeHead : ∀ s, P s → P (onBlocks takeHead s)
  expireStall : ∀ s, P s → P (onBlocks expireStall s)
  stallTick : ∀ s, P s → P (onBlocks stallTick s)
  assertReset : ∀ s, P s → P (assertReset s)
  releaseReset : ∀ s sel auto, s.resetPin = true → P s → P (releaseReset sel auto s)
  autoStart : ∀ s, s.loader = Loader.reset → P s → P (autoStart s)
  pending : ∀ s l, P s → P { s with pending := l }

theorem slotFate_release {s : State} {j : Nat} {l : Lanes} {d : Word} {i : Nat} (hf : slotFate s j l d = .slotRelease i) :
    ∃ k, s.blocks.evq.slots[i]? = some (.ready k) := by
  unfold slotFate at hf
  split at hf
  · split at hf
    · next k hk => cases hf; exact ⟨k, hk⟩
    · cases hf
    · cases hf
    · cases hf
  · cases hf

theorem reportFate_release {s : State} {w : Nat} {l : Lanes} {d : Word} {i : Nat} (hf : reportFate s w l d = .slotRelease i) :
    ∃ k, s.blocks.evq.slots[i]? = some (.ready k) := by
  unfold reportFate at hf
  split at hf
  · cases hf
  · split at hf
    · exact slotFate_release hf
    · cases hf

theorem freezeFate_release {s : State} {w : Nat} {l : Lanes} {d : Word} (hf : freezeFate s w l d = .frameRelease) :
    s.blocks.frz.state = .held := by
  unfold freezeFate at hf
  split at hf
  · next h => exact h.2.2
  · cases hf

theorem setupFate_take {s : State} {off n : Nat} {l : Lanes} {d : Word} (hf : setupFate s off l d = .setup n) :
    decideSetup (setupBaseByte s.path.setupSel) n l d s.loader = .take := by
  unfold setupFate at hf
  split at hf
  · split at hf <;> cases hf
  · split at hf
    · cases hf
    · split at hf
      · next h => cases hf; exact h
      · cases hf
      · cases hf

theorem setupFate_cases (s : State) (off : Nat) (l : Lanes) (d : Word) :
    setupFate s off l d = .command ∨ setupFate s off l d = .forward ∨ setupFate s off l d = .drop ∨
      (∃ n, setupFate s off l d = .setup n) ∨ ∃ r n, setupFate s off l d = .refuseSetup r n := by
  unfold setupFate
  split
  · split <;> simp
  · split
    · simp
    · split <;> simp

theorem slotFate_cases (s : State) (i : Nat) (l : Lanes) (d : Word) :
    slotFate s i l d = .slotRelease i ∨ slotFate s i l d = .forward ∨ slotFate s i l d = .protect := by
  unfold slotFate
  split
  · split <;> simp
  · simp

theorem reportFate_cases (s : State) (w : Nat) (l : Lanes) (d : Word) :
    reportFate s w l d = .flagClear ∨ reportFate s w l d = .protect ∨ reportFate s w l d = .forward ∨
      ∃ i, reportFate s w l d = .slotRelease i := by
  unfold reportFate
  split
  · simp
  · split
    · rcases slotFate_cases s ((w - Config.firstSlotWord) / 8) l d with h | h | h <;> simp [h]
    · simp

theorem freezeFate_cases (s : State) (w : Nat) (l : Lanes) (d : Word) :
    freezeFate s w l d = .frameRelease ∨ freezeFate s w l d = .protect := by
  unfold freezeFate; split <;> simp

/-- A block takes a write by the fate its turn decided. -/
theorem Kept.takeWrite {P : State → Prop} (K : Kept P) {s t : State} (v : SameView t s) (a : Access) (d : Word)
    (h : P t) : P (takeWrite a d t (writeFate s a d)) := by
  rw [← writeFate_view v]
  unfold writeFate
  split
  · exact h
  · cases hw : windowOf t.path (byteAddr a) with
    | setup off =>
      have := setupFate_cases t off a.lanes d
      simp only [windowFate]
      rcases this with e | e | e | ⟨n, e⟩ | ⟨r, n, e⟩ <;> rw [e]
      · exact K.command t d h
      · exact h
      · exact h
      · exact K.setup t n a.lanes d (setupFate_take e) h
      · exact K.refuseSetup t r n h
    | tooth =>
      simp only [windowFate, streamFate]; split
      · next hr => exact K.tooth t a d hr h
      · exact h
    | knock x =>
      simp only [windowFate, streamFate]; split
      · next hr => exact K.knock t x a d hr h
      · exact h
    | marker =>
      simp only [windowFate, streamFate]; split
      · next hr => exact K.marker t a d hr h
      · exact h
    | report w =>
      simp only [windowFate]; split
      · rcases reportFate_cases t w a.lanes d with e | e | e | ⟨i, e⟩ <;> rw [e]
        · exact K.flagClear t _ h
        · exact K.protect t h
        · exact h
        · obtain ⟨k, hk⟩ := reportFate_release e
          exact K.slotRelease t i k hk h
      · exact h
    | freeze w =>
      simp only [windowFate]; split
      · rcases freezeFate_cases t w a.lanes d with e | e <;> rw [e]
        · exact K.frameRelease t (freezeFate_release e) h
        · exact K.protect t h
      · exact h
    | none => exact h

theorem Kept.turn {P : State → Prop} (K : Kept P) {s : State} (w : Bool) (a : Access) (hp : s.path.port = none)
    (hw : w = true → s.path.patience < bound s.path.table) (h : P s) : P (turn w a s) := by
  unfold Machine.turn
  split
  · exact K.grantSystem s w a hp hw h
  · next d _ =>
    unfold turnWrite; dsimp only
    split
    · exact K.takeWrite (s := s) (t := Machine.grantSystem w a s) ⟨rfl, rfl, rfl, rfl, rfl, rfl⟩ a d
        (K.grantSystem s w a hp hw h)
    · exact K.takeWrite (s := s) (t := Machine.endAccess a _ d s) ⟨rfl, rfl, rfl, rfl, rfl, rfl⟩ a d
        (K.endAccess s a _ d h)

theorem firstInternal_reset {s : State} {c : Claimant} (h : firstInternal s = some c) : s.resetPin = false := by
  unfold firstInternal at h; split at h
  · cases h
  · next hr => simpa using hr

theorem firstInternal_loader {s : State} (h : firstInternal s = some .loader) : loaderClaims s.loader = true := by
  unfold firstInternal at h; repeat' split at h
  all_goals first | cases h; done | assumption | simp_all

theorem Kept.grantInternal {P : State → Prop} (K : Kept P) {s : State} {c : Claimant} (hp : s.path.port = none)
    (hc : firstInternal s = some c) (h : P s) : P (grantInternal c s) := by
  have hr := firstInternal_reset hc
  unfold Machine.grantInternal
  cases c with
  | report => exact K.grantReport _ hp hr (K.patience s h)
  | loader => exact K.grantLoader _ hp hr (firstInternal_loader hc) (K.patience s h)
  | freeze => exact K.grantFreeze _ hp hr (K.patience s h)
  | system => exact K.patience s h

theorem Kept.decideInternal {P : State → Prop} (K : Kept P) {s : State} (h : P s) : P (decideInternal s) := by
  unfold Machine.decideInternal
  split
  · next hp hc => exact K.grantInternal hp hc h
  · exact h

theorem Kept.arbitrate {P : State → Prop} (K : Kept P) {s : State} (h : P s) : P (arbitrate s) := by
  unfold Machine.arbitrate
  split
  · exact h
  · next hp =>
    split
    · unfold decideSystem
      split
      · exact K.decideInternal (K.turn false _ hp (by simp) h)
      · next hc =>
        split
        · exact K.grantInternal hp hc h
        · next hb => exact K.decideInternal (K.turn true _ hp (fun _ => Nat.not_le.mp hb) h)
    · exact K.decideInternal h

theorem Kept.arrive {P : State → Prop} (K : Kept P) {s : State} (a : Access) (h : P s) : P (arrive a s) := by
  unfold Machine.arrive
  split
  · exact K.endAccess _ _ _ _ (K.snapshot s _ h)
  · split
    · exact K.endAccess _ _ _ _ h
    · exact K.hold s a h
  · exact K.hold s a h

theorem Kept.settle {P : State → Prop} (K : Kept P) : ∀ (l : List Access) {s : State}, P s → P (settle l s)
  | [], s, h => K.arbitrate (K.bus s [] h)
  | a :: rest, s, h => by
    have h1 : P (if s.path.access.isSome then Machine.arbitrate s else s) := by
      split
      · exact K.arbitrate h
      · exact h
    unfold Machine.settle; dsimp only
    generalize (if s.path.access.isSome then Machine.arbitrate s else s) = s1 at h1
    split
    · exact K.bus _ _ h1
    · exact K.settle rest (K.arrive a h1)

theorem Kept.accessDone {P : State → Prop} (K : Kept P) {s : State} (user : Claimant) (f : Bool → Access → State → State)
    (hf : ∀ u, s.path.port = some u → u.user = user → P (f u.live u.access s)) (h : P s) : P (accessDone user f s) := by
  unfold Machine.accessDone
  split
  · next u hu =>
    split
    · next hx => exact K.settle _ (hf u hu hx)
    · exact h
  · exact h

theorem Kept.crankEvent {P : State → Prop} (K : Kept P) {s : State} (f : Env → Blocks → Blocks)
    (hf : P (onBlocks f s)) (h : P s) : P (crankEvent f s) := by
  unfold Machine.crankEvent
  split
  · exact h
  · exact K.settle _ hf

/-- A property that every primitive change passes on is passed on by every command. -/
theorem Kept.exec {P : State → Prop} (K : Kept P) {c : Instr} {s t : State} (h : P s) (ht : exec c s = .next t) : P t := by
  cases ha : accessOf s c with
  | some a =>
    rw [exec_access ha] at ht; cases ht
    exact K.settle _ h
  | none =>
    cases c <;> simp only [accessOf, reduceCtorEq] at ha <;> simp only [Machine.exec] at ht <;> cases ht
    · split
      · exact h
      · exact K.settle _ (K.assertReset s h)
    · split
      · next hr =>
        refine K.settle _ ?_
        unfold autoStartIf; split
        · exact K.autoStart _ rfl (K.releaseReset s _ _ hr h)
        · exact K.releaseReset s _ _ hr h
      · exact h
    · exact K.accessDone _ _ (fun u _ _ => K.endAccess _ _ _ _ (K.freePort s h)) h
    · refine K.accessDone _ _ (fun u hu hx => ?_) h
      unfold loaderDone; split
      · next hl => exact K.loaderRead s u hu hx hl h
      · exact K.freePort s h
    · refine K.accessDone _ _ (fun u hu hx => ?_) h
      unfold reportDone; split
      · exact K.headDone _ (K.freePort s h)
      · exact K.freePort s h
    · refine K.accessDone _ _ (fun u hu hx => ?_) h
      unfold freezeDone; split
      · exact K.frameWordDone _ (K.freePort s h)
      · exact K.freePort s h
    · exact K.crankEvent _ (K.takeHead s h) h
    · exact K.crankEvent _ (K.expireStall s h) h

/-- A property that every primitive change passes on is passed on by every step. -/
theorem Kept.step {P : State → Prop} (K : Kept P) {s t : State} (h : P s) (ht : step s = .next t) : P t := by
  unfold Machine.step at ht
  split at ht
  · cases ht; exact K.crankEvent _ (K.stallTick s h) h
  · next c rest _ => exact K.exec (K.pending s rest h) ht

end Sys2Proof.Machine
end

