-- ==== Sys2Proof/Laws/PerInstr.lean ====
section
/-! SUPPORT. Every command's access is naturally aligned and lies in the 24-bit address space (00_scope.md). -/

namespace Sys2Proof.Laws.Aligned

open Sys2Proof.Machine

/-- Every access names bytes that are naturally aligned and lie in the address space. -/
theorem ofAccess (a : Access) : byteAddr a % sizeBytes a.lanes = 0 ∧ byteAddr a + sizeBytes a.lanes ≤ 0x1000000 := by
  have h := a.addr.isLt
  unfold byteAddr
  cases a.lanes with
  | word => simp only [lowestLane, sizeBytes]; omega
  | half b => cases b <;> (simp only [lowestLane, sizeBytes]; omega)
  | byte k => have := k.isLt; simp only [lowestLane, sizeBytes]; omega

/-- The access a command sends, if it sends one, is naturally aligned and lies in the address space. -/
def Statement (i : Instr) : Prop :=
  ∀ (s : State) (a : Access), accessOf s i = some a →
    byteAddr a % sizeBytes a.lanes = 0 ∧ byteAddr a + sizeBytes a.lanes ≤ 0x1000000

theorem resetAssert : Statement .resetAssert := fun _ a _ => ofAccess a
theorem resetRelease (setupSel : BitVec 4) (autostart : Bool) : Statement (.resetRelease setupSel autostart) := fun _ a _ => ofAccess a
theorem start : Statement .start := fun _ a _ => ofAccess a
theorem stop : Statement .stop := fun _ a _ => ofAccess a
theorem noneCommand : Statement .noneCommand := fun _ a _ => ofAccess a
theorem unknownCommand (value : Word) : Statement (.unknownCommand value) := fun _ a _ => ofAccess a
theorem loadStatusWrite (lanes : Lanes) (data : Word) : Statement (.loadStatusWrite lanes data) := fun _ a _ => ofAccess a
theorem setupWrite (offset : BitVec 7) (lanes : Lanes) (data : Word) : Statement (.setupWrite offset lanes data) := fun _ a _ => ofAccess a
theorem toothWrite (addr : WordAddr) (lanes : Lanes) (data : Word) : Statement (.toothWrite addr lanes data) := fun _ a _ => ofAccess a
theorem knockWrite (addr : WordAddr) (lanes : Lanes) (data : Word) : Statement (.knockWrite addr lanes data) := fun _ a _ => ofAccess a
theorem ignCut (mask : BitVec 16) : Statement (.ignCut mask) := fun _ a _ => ofAccess a
theorem load (band : BitVec 16) : Statement (.load band) := fun _ a _ => ofAccess a
theorem surface (level : BitVec 16) : Statement (.surface level) := fun _ a _ => ofAccess a
theorem syncReset : Statement .syncReset := fun _ a _ => ofAccess a
theorem freeze : Statement .freeze := fun _ a _ => ofAccess a
theorem markerFault (lanes : Lanes) (data : Word) : Statement (.markerFault lanes data) := fun _ a _ => ofAccess a
theorem flagClear (lanes : Lanes) (data : Word) : Statement (.flagClear lanes data) := fun _ a _ => ofAccess a
theorem slotRelease (slot : BitVec 6) (lanes : Lanes) (data : Word) : Statement (.slotRelease slot lanes data) := fun _ a _ => ofAccess a
theorem frameRelease (lanes : Lanes) (data : Word) : Statement (.frameRelease lanes data) := fun _ a _ => ofAccess a
theorem protectedWriteDrop (addr : WordAddr) (lanes : Lanes) (data : Word) : Statement (.protectedWriteDrop addr lanes data) := fun _ a _ => ofAccess a
theorem plainWrite (addr : WordAddr) (lanes : Lanes) (data : Word) : Statement (.plainWrite addr lanes data) := fun _ a _ => ofAccess a
theorem word0Read (addr : WordAddr) (lanes : Lanes) : Statement (.word0Read addr lanes) := fun _ a _ => ofAccess a
theorem snapshotRead (addr : WordAddr) (lanes : Lanes) : Statement (.snapshotRead addr lanes) := fun _ a _ => ofAccess a
theorem forwardedAccessDone : Statement .forwardedAccessDone := fun _ a _ => ofAccess a
theorem loaderReadDone : Statement .loaderReadDone := fun _ a _ => ofAccess a
theorem reportWriteDone : Statement .reportWriteDone := fun _ a _ => ofAccess a
theorem freezeWriteDone : Statement .freezeWriteDone := fun _ a _ => ofAccess a
theorem toothRecordTake : Statement .toothRecordTake := fun _ a _ => ofAccess a
theorem stallExpiry : Statement .stallExpiry := fun _ a _ => ofAccess a

end Sys2Proof.Laws.Aligned
end

