-- ==== Sys2Proof/Laws/Ring.lean ====
section
/-! SUPPORT. The history ring under each of SEG's and KNOCK's operations: what every record holds after it. -/

namespace Sys2Proof.Machine

/-! ### One record -/

theorem setRecord_get (i j : Fin 24) (r : CycleRecord) (g : Seg) :
    (setRecord i r g).ring.get j = if j = i then r else g.ring.get j := by
  show (g.ring.set i r)[j.val] = _
  by_cases h : j = i
  · subst h; rw [if_pos rfl]; exact Vector.getElem_set_self ..
  · rw [if_neg h]; exact Vector.getElem_set_ne i.isLt j.isLt (fun e => h (Fin.ext e.symm))

theorem setRecord_frame (i : Fin 24) (r : CycleRecord) (g : Seg) :
    setRecord i r g = { g with ring := (setRecord i r g).ring } := rfl

theorem fileInto_get (i j : Fin 24) (k : Nat) (f : PositionResult → PositionResult) (g : Seg) :
    (fileInto i k f g).ring.get j = if j = i then filePosition k f (g.ring.get i) else g.ring.get j :=
  setRecord_get i j _ g

/-- A position of a record that has one changed: that one, or as before. -/
theorem filePosition_get (k : Nat) (j : Fin 8) (f : PositionResult → PositionResult) (r : CycleRecord) :
    (filePosition k f r).positions.get j = if j.val = k then f (r.positions.get j) else r.positions.get j := by
  show (r.positions.setIfInBounds k (f (positionOf r k)))[j.val] = if j.val = k then f r.positions[j.val] else
    r.positions[j.val]
  by_cases h : j.val = k
  · subst h; simp [positionOf]
  · rw [if_neg h]; exact Vector.getElem_setIfInBounds_ne j.isLt (fun e => h e.symm)

/-! ### The order of the ring -/

theorem mem_ringOrder (last : Option (Fin 24)) (i : Fin 24) : i ∈ ringOrder last := by
  have h : ∀ m j : Fin 24, j ∈ (List.range 24).map (fun d => m + Fin.ofNat 24 d) := by decide
  exact h _ i

theorem ringOrder_nodup (last : Option (Fin 24)) : (ringOrder last).Nodup := by
  have h : ∀ m : Fin 24, ((List.range 24).map (fun d => m + Fin.ofNat 24 d)).Nodup := by decide
  exact h _

/-! ### FINAL notices -/

/-- A FINAL notice leaves SEG, and does not read it. -/
theorem finalNotice_with_seg (e : Env) (r : CycleRecord) (g : Seg) (b : Blocks) :
    finalNotice e r { b with seg := g } = { finalNotice e r b with seg := g } := by
  simp only [finalNotice]
  split
  · split
    · split
      · simp only [writeOut, setFreezeState, tellFreeze, tellHeader, requestMirror, request]
        (repeat' split) <;> rfl
      · rfl
    · rfl
  · rfl

/-- A record becomes FINAL in the ring, and FRZ is told (R106). -/
theorem makeFinal_eq (e : Env) (i : Fin 24) (b : Blocks) :
    makeFinal e i b =
      { finalNotice e { b.seg.ring.get i with state := .final } b with
        seg := setRecord i { b.seg.ring.get i with state := .final } b.seg } :=
  finalNotice_with_seg e _ _ b

/-- The records that `finaliseClosed` changes: those of its list that are CLOSED, other than `keep`. -/
theorem finaliseClosed_get (e : Env) (keep : Option (Fin 24)) (j : Fin 24) :
    ∀ (l : List (Fin 24)), l.Nodup → ∀ b : Blocks,
      (finaliseClosed e keep l b).seg.ring.get j =
        if j ∈ l ∧ (b.seg.ring.get j).state = .closed ∧ keep ≠ some j then
          { b.seg.ring.get j with state := .final }
        else b.seg.ring.get j
  | [], _, b => by simp [finaliseClosed]
  | i :: l, h, b => by
    have hl := List.nodup_cons.1 h
    rw [finaliseClosed, finaliseClosed_get e keep j l hl.2]
    by_cases hij : j = i
    · subst hij
      by_cases hc : (b.seg.ring.get j).state = .closed ∧ keep ≠ some j
      · simp [hc, hl.1, makeFinal_eq, setRecord_get]
      · simp only [if_neg hc]; simp [hl.1, hc]
    · have hk : (if (b.seg.ring.get i).state = .closed ∧ keep ≠ some i then makeFinal e i b else b).seg.ring.get j =
          b.seg.ring.get j := by
        split
        · simp [makeFinal_eq, setRecord_get, hij]
        · rfl
      rw [hk]; simp [hij]

theorem finaliseClosed_seg (e : Env) (keep : Option (Fin 24)) :
    ∀ (l : List (Fin 24)) (b : Blocks),
      (finaliseClosed e keep l b).seg = { b.seg with ring := (finaliseClosed e keep l b).seg.ring }
  | [], _ => rfl
  | i :: l, b => by
    rw [finaliseClosed, finaliseClosed_seg e keep l]
    split
    · rw [makeFinal_eq]; rfl
    · rfl

/-- Where no record of the list is CLOSED, other than `keep`, nothing changes. -/
theorem finaliseClosed_none (e : Env) (keep : Option (Fin 24)) :
    ∀ (l : List (Fin 24)) (b : Blocks),
      (∀ i ∈ l, (b.seg.ring.get i).state = .closed → keep = some i) → finaliseClosed e keep l b = b
  | [], _, _ => rfl
  | i :: l, b, h => by
    have hi : ¬ ((b.seg.ring.get i).state = .closed ∧ keep ≠ some i) :=
      fun c => c.2 (h i (List.mem_cons_self ..) c.1)
    rw [finaliseClosed, if_neg hi]
    exact finaliseClosed_none e keep l b (fun j hj => h j (List.mem_cons_of_mem i hj))

/-- The first CLOSED record of a list becomes FINAL first. -/
theorem finaliseClosed_first (e : Env) (keep : Option (Fin 24)) (i : Fin 24) (l : List (Fin 24)) :
    ∀ (before : List (Fin 24)) (b : Blocks),
      (∀ j ∈ before, (b.seg.ring.get j).state = .closed → keep = some j) → (b.seg.ring.get i).state = .closed →
      keep ≠ some i → finaliseClosed e keep (before ++ i :: l) b = finaliseClosed e keep l (makeFinal e i b)
  | [], b, _, hi, hk => by
    show finaliseClosed e keep (i :: l) b = _
    rw [finaliseClosed, if_pos ⟨hi, hk⟩]
  | j :: before, b, h, hi, hk => by
    have hj : ¬ ((b.seg.ring.get j).state = .closed ∧ keep ≠ some j) :=
      fun c => c.2 (h j (List.mem_cons_self ..) c.1)
    show finaliseClosed e keep (j :: (before ++ i :: l)) b = _
    rw [finaliseClosed, if_neg hj]
    exact finaliseClosed_first e keep i l before b (fun m hm => h m (List.mem_cons_of_mem j hm)) hi hk

/-! ### Closing, settling, filing -/

theorem closePartial_get (g : Seg) (i : Fin 24) : (closePartial g).ring.get i = closeIfOpen (g.ring.get i) := by
  show (g.ring.map closeIfOpen)[i.val] = closeIfOpen g.ring[i.val]
  simp

/-- The ring after the OPEN record has closed and every CLOSED one has become FINAL (R106). -/
theorem settleRing_get (e : Env) (b : Blocks) (i : Fin 24) :
    (settleRing e b).seg.ring.get i =
      if (b.seg.ring.get i).state = .opened ∨ (b.seg.ring.get i).state = .closed then
        { b.seg.ring.get i with state := .final }
      else b.seg.ring.get i := by
  rw [settleRing, finaliseClosed_get e none i _ (ringOrder_nodup _)]
  simp only [closePartial_get, closeIfOpen, mem_ringOrder, true_and]
  rcases h : (b.seg.ring.get i).state <;> simp [h]

theorem settleRing_seg (e : Env) (b : Blocks) :
    (settleRing e b).seg = { b.seg with ring := (settleRing e b).seg.ring } := by
  unfold settleRing; exact finaliseClosed_seg e none (ringOrder b.seg.last) { b with seg := closePartial b.seg }

theorem segLoss_seg (e : Env) (b : Blocks) :
    (segLoss e b).seg = { b.seg with openSeg := none, ring := (segLoss e b).seg.ring } := by
  unfold segLoss; exact settleRing_seg e (dropSegment b)

/-- The ring after a record has closed: it is CLOSED, and each other CLOSED record is FINAL (R106). -/
theorem closeRecord_get (e : Env) (i j : Fin 24) (b : Blocks) :
    (closeRecord e i b).seg.ring.get j =
      if j = i then { b.seg.ring.get i with state := .closed }
      else if (b.seg.ring.get j).state = .closed then { b.seg.ring.get j with state := .final }
      else b.seg.ring.get j := by
  rw [closeRecord, finaliseClosed_get e (some i) j _ (ringOrder_nodup _)]
  by_cases h : j = i
  · subst h; simp [setRecord_get]
  · have h' : i ≠ j := fun e => h e.symm
    simp [setRecord_get, h, h', mem_ringOrder]

theorem closeRecord_seg (e : Env) (i : Fin 24) (b : Blocks) :
    (closeRecord e i b).seg = { b.seg with ring := (closeRecord e i b).seg.ring } := by
  unfold closeRecord; exact finaliseClosed_seg e (some i) (ringOrder b.seg.last) _

/-- The ring after a segment's result has been filed (R105, R106). -/
theorem fileSegment_get (e : Env) (i j : Fin 24) (m : Measures) (c : SegClass) (b : Blocks) :
    (fileSegment e (some i) m c b).seg.ring.get j =
      let filed := filePosition m.position (filedSegment m.time c m.metric) (b.seg.ring.get i)
      let closes := m.position + 1 = fNcyl e.reader
      if j = i then (if closes then { filed with state := .closed } else filed)
      else if closes ∧ (b.seg.ring.get j).state = .closed then { b.seg.ring.get j with state := .final }
      else b.seg.ring.get j := by
  simp only [fileSegment]
  by_cases hc : m.position + 1 = fNcyl e.reader
  · by_cases h : j = i
    · simp [hc, h, closeRecord_get, fileInto_get]
    · simp [hc, h, closeRecord_get, fileInto_get]
  · by_cases h : j = i
    · simp [hc, h, fileInto_get]
    · simp [hc, h, fileInto_get]

/-! ### The OPEN record -/

theorem openRecord_none {g : Seg} (h : ∀ i, (g.ring.get i).state ≠ .opened) : openRecord g = none :=
  List.find?_eq_none.2 (fun i _ => by simpa using h i)

theorem openRecord_some {g : Seg} {i : Fin 24} (hi : (g.ring.get i).state = .opened)
    (h : ∀ j, j ≠ i → (g.ring.get j).state ≠ .opened) : openRecord g = some i := by
  cases hf : openRecord g with
  | none =>
    have := List.find?_eq_none.1 hf i (mem_ringOrder _ i)
    simp [hi] at this
  | some j =>
    have hj : (g.ring.get j).state = .opened := by simpa using List.find?_some hf
    by_cases e : j = i
    · rw [e]
    · exact absurd hj (h j e)

end Sys2Proof.Machine
end

