-- ==== Sys2Proof/Laws/Settle.lean ====
section
/-! SUPPORT. What the arbiter's decisions leave: everything but the port, the patience count, RAM and the requests' progress. -/

namespace Sys2Proof.Machine

/-- Two lists of requests that differ in their progress alone. -/
def sameRequests (l m : List Request) : Prop :=
  l.map (fun r => (r.kind, r.initial)) = m.map (fun r => (r.kind, r.initial))

theorem sameRequests.kinds {l m : List Request} (h : sameRequests l m) : l.map Request.kind = m.map Request.kind := by
  have := congrArg (List.map Prod.fst) h
  simpa [Function.comp_def] using this

theorem sameRequests.requested_iff {s t : State} (h : sameRequests s.blocks.rpw t.blocks.rpw) {k : RequestKind} :
    Machine.requested s k ↔ Machine.requested t k := by
  have e : ∀ l : List Request, (∃ r ∈ l, r.kind = k) ↔ k ∈ l.map Request.kind := fun l => by simp
  unfold Machine.requested; rw [e, e, h.kinds]

/-- What a decision of the arbiter for the internal claimants leaves. -/
structure Granted (s t : State) : Prop where
  resetPin : t.resetPin = s.resetPin
  pending : t.pending = s.pending
  path : t.path = { s.path with port := t.path.port, patience := t.path.patience }
  loader : t.loader = { s.loader with shadow := t.loader.shadow }
  shadow : ∀ i, i ≠ 2 → shadowWord t.loader.shadow i = shadowWord s.loader.shadow i
  blocks : sameBlocks s.blocks t.blocks
  requests : sameRequests s.blocks.rpw t.blocks.rpw
  ram : ∀ n, (∀ u, t.path.port = some u → ¬ writes u n) → ramByte t.ram n = ramByte s.ram n

theorem Granted.refl (s : State) : Granted s s :=
  ⟨rfl, rfl, rfl, rfl, fun _ _ => rfl, ⟨rfl, rfl, rfl, rfl, rfl, rfl, rfl⟩, rfl, fun _ _ => rfl⟩

theorem Granted.outside {s t : State} (h : Granted s t) : outsideKept s t :=
  ⟨h.resetPin, h.pending, by rw [h.path], h.loader, h.shadow, h.ram⟩

theorem shadowWord_set_ne (sh : Shadow) {i j : Nat} (w : Word) (h : i ≠ j) :
    shadowWord (sh.setIfInBounds j w) i = shadowWord sh i := by
  unfold shadowWord; rw [Vector.getElem?_setIfInBounds, if_neg (Ne.symm h)]

theorem shadowSet_two_ne (sh : Shadow) (w : Word) {i : Nat} (h : i ≠ 2) :
    shadowWord (shadowSet 2 w sh) i = shadowWord sh i := by
  unfold shadowSet; rw [if_neg (by decide)]; exact shadowWord_set_ne sh w h

theorem grant_ram_kept {s : State} {c : Claimant} {a : Access} (n : Nat)
    (h : ∀ u, (grant c a s).path.port = some u → ¬ writes u n) : ramByte (grant c a s).ram n = ramByte s.ram n := by
  have := h ⟨c, a, true⟩ rfl
  unfold grant; dsimp only
  by_cases hd : a.dir = .read
  · rw [ramAfter_read hd]
  · exact ramAfter_ne (fun hn => this ⟨hd, hn⟩) _

theorem shadowAtReport_loader (k : RequestKind) (d : Word) (l : Loader) :
    shadowAtReport k d l = { l with shadow := (shadowAtReport k d l).shadow } := by
  unfold shadowAtReport; split <;> rfl

theorem shadowAtReport_ne (k : RequestKind) (d : Word) (l : Loader) {i : Nat} (h : i ≠ 2) :
    shadowWord (shadowAtReport k d l).shadow i = shadowWord l.shadow i := by
  unfold shadowAtReport; split
  · exact shadowSet_two_ne _ _ h
  · rfl

/-- A grant to an internal claimant leaves all but the port, RAM, and the progress of the request at the head. -/
theorem grantTo_kept (s : State) (c : Claimant) : Granted s (grantTo s c) := by
  cases c
  · exact Granted.refl s
  · unfold grantTo grantReport; dsimp only
    split
    · exact Granted.refl s
    · next r rest h =>
      exact ⟨rfl, rfl, rfl, shadowAtReport_loader _ _ _, fun i hi => shadowAtReport_ne _ _ _ hi,
        ⟨rfl, rfl, rfl, rfl, rfl, rfl, rfl⟩, by simp [sameRequests, h, grant], fun n hn => grant_ram_kept n hn⟩
  · exact ⟨rfl, rfl, rfl, rfl, fun _ _ => rfl, ⟨rfl, rfl, rfl, rfl, rfl, rfl, rfl⟩, rfl, fun n hn => grant_ram_kept n hn⟩
  · unfold grantTo grantFreeze; dsimp only
    split
    · exact Granted.refl s
    · exact ⟨rfl, rfl, rfl, rfl, fun _ _ => rfl, ⟨rfl, rfl, rfl, rfl, rfl, rfl, rfl⟩, rfl,
        fun n hn => grant_ram_kept n hn⟩

theorem grantInternal_kept (c : Claimant) (s : State) : Granted s (grantInternal c s) := by
  have h := grantTo_kept { s with path := { s.path with patience := 0 } } c
  exact ⟨h.resetPin, h.pending, by rw [show grantInternal c s = grantTo { s with path := { s.path with patience := 0 } } c
    from rfl, h.path], h.loader, h.shadow, h.blocks, h.requests, h.ram⟩

/-- A decision for the internal claimants leaves all but the port, the patience count, RAM and the requests' progress. -/
theorem decideInternal_kept (s : State) : Granted s (decideInternal s) := by
  unfold decideInternal
  split
  · exact grantInternal_kept _ _
  · exact Granted.refl s

/-- With a calm bus, the buses settle by a decision for the internal claimants at most. -/
theorem settled_calm {s : State} (h : calmBus s) : settled s = decideInternal s := by
  obtain ⟨hb, hp⟩ := h
  have key : s.path.access.isSome = true → arbitrate s = s := by
    intro ha
    rcases hp with hp | hp
    · unfold arbitrate; split
      · rfl
      · next hn => exact absurd hn hp
    · simp [hp] at ha
  have bus : ∀ l, s.path.bus = l → { s with path := { s.path with bus := l } } = s := by rintro _ rfl; rfl
  cases hl : s.path.bus with
  | nil =>
    unfold settled; rw [hl, settle, bus _ hl]
    unfold arbitrate
    split
    · next u hu => exact (decideInternal_busy hu).symm
    · next hn =>
      split
      · next a ha => exact absurd hn (hp.resolve_right (by simp [ha]))
      · rfl
  | cons a rest =>
    have hheld := hb.resolve_left (by simp [hl])
    unfold settled; rw [hl]
    have hs1 : (if s.path.access.isSome then arbitrate s else s) = s := by
      split
      · next ha => exact key ha
      · rfl
    simp only [settle, hs1, hheld, if_true]
    rw [bus _ hl]
    unfold busHeld at hheld
    rcases (Bool.or_eq_true _ _).mp hheld with ha | hu
    · have : s.path.port ≠ none := hp.resolve_right (by intro h0; simp [h0] at ha)
      obtain ⟨u, hu⟩ := Option.ne_none_iff_exists'.mp this
      exact (decideInternal_busy hu).symm
    · cases hq : s.path.port with
      | none => simp [hq] at hu
      | some u => exact (decideInternal_busy hq).symm

/-- Where the arbiter has nothing to decide, the buses are settled. -/
theorem settled_quiet {s : State} (h : quietPorts s) : settled s = s := by
  rw [settled_calm h.1]
  rcases h.2 with hp | hn
  · obtain ⟨u, hu⟩ := Option.ne_none_iff_exists'.mp hp
    exact decideInternal_busy hu
  · exact decideInternal_none hn

/-- A change of the blocks leaves a calm bus calm. -/
theorem calmBus_blocks {s t : State} (h : calmBus s) (hp : t.path.port = s.path.port)
    (ha : t.path.access = s.path.access) (hb : t.path.bus = s.path.bus) : calmBus t := by
  unfold calmBus busHeld at *; rw [hp, ha, hb]; exact h

/-- A write that takes no grant, at its turn as it arrives, ends, and what the arbiter grants then changes no block. -/
theorem systemAccess_ended_kept {a : Access} {d : Word} {s : State} (h : onTurn s) (hd : a.dir = .write d)
    (hf : (writeFate s a d).granted = false) :
    Granted (takeWrite a d (endedBy a (writeFate s a d).ending d s) (writeFate s a d)) (systemAccess a s) := by
  rw [systemAccess_ended h hd hf]; exact decideInternal_kept _

end Sys2Proof.Machine
end

