-- ==== Sys2Proof/WellFormed.lean ====
section
/-! DEFINITION. Which commands are what their row says they are, whatever the state. -/

namespace Sys2Proof

/-- A marker word whose kind and value no setup finds faulty (R48): SYNC_RESET and FREEZE of value 0,
LOAD and SURFACE of value 0 to 3, IGN_CUT of cylinders 1 and 2 (`ncyl` is at least 2, R28). -/
def markerAlwaysGood (data : Word) : Bool :=
  match data.toNat / 0x10000, data.toNat % 0x10000 with
  | 1, v => v < 4
  | 2, v => v < 4
  | 3, v => v < 4
  | 4, v => v == 0
  | 5, v => v == 0
  | _, _ => false

/-- The static checks of a command. A command that fails one is another row's command under this
row's name; its meaning is still decided by its address, size and data. -/
def Instr.wellFormed : Instr → Bool
  | .resetAssert => true
  | .resetRelease _ _ => true
  | .start => true
  | .stop => true
  | .noneCommand => true
  | .unknownCommand v => 2 < v.toNat
  | .loadStatusWrite _ _ => true
  | .setupWrite off _ _ => off != 1 && off != 2
  | .toothWrite _ _ _ => true
  | .knockWrite _ _ _ => true
  | .ignCut m => m.toNat < 256
  | .load v => v.toNat < 4
  | .surface v => v.toNat < 4
  | .syncReset => true
  | .freeze => true
  | .markerFault l d => l != .word || !markerAlwaysGood d
  | .flagClear _ _ => true
  | .slotRelease _ _ _ => true
  | .frameRelease _ _ => true
  | .protectedWriteDrop _ _ _ => true
  | .plainWrite _ _ _ => true
  | .word0Read _ _ => true
  | .snapshotRead _ _ => true
  | .forwardedAccessDone => true
  | .loaderReadDone => true
  | .reportWriteDone => true
  | .freezeWriteDone => true
  | .toothRecordTake => true
  | .stallExpiry => true

end Sys2Proof
end

