-- ==== Sys2Proof/Tests/Slice0.lean ====
section
/-! SUPPORT. The model's own tests: ill-formed commands, one step of each command, worked values of the spec, and a state
that meets the hypotheses of each statement. -/

namespace Sys2Proof.Tests

open Sys2Proof.Machine

set_option Elab.async false

/-! ### Ill-formed commands -/

theorem test_unknown_command_of_known_value : (Instr.unknownCommand 2).wellFormed = false := by decide
theorem test_unknown_command_of_value_three : (Instr.unknownCommand 3).wellFormed = true := by decide
theorem test_setup_write_of_control_word : (Instr.setupWrite 1 .word 0).wellFormed = false := by decide
theorem test_setup_write_of_load_status_word : (Instr.setupWrite 2 (.byte 0) 0).wellFormed = false := by decide
theorem test_setup_write_of_word_three : (Instr.setupWrite 3 .word 0).wellFormed = true := by decide
theorem test_ign_cut_above_eight_cylinders : (Instr.ignCut 256).wellFormed = false := by decide
theorem test_load_band_four : (Instr.load 4).wellFormed = false := by decide
theorem test_surface_level_four : (Instr.surface 4).wellFormed = false := by decide
theorem test_marker_fault_of_a_good_word : (Instr.markerFault .word 0x00050000).wellFormed = false := by decide
theorem test_marker_fault_of_a_bad_value : (Instr.markerFault .word 0x00050001).wellFormed = true := by decide

/-! ### The setup of the worked sequences (chapter 11) -/

/-- Four bytes as a word, lowest first. -/
def bytes4 (a b c d : Nat) : Word := BitVec.ofNat 32 (a + 0x100 * b + 0x10000 * c + 0x1000000 * d)

/-- Two halfwords as a word, low first. -/
def halves (a b : Nat) : Word := BitVec.ofNat 32 (a + 0x10000 * b)

/-- The words 0 to 64 of the setup block. -/
def setupWords : List Word :=
  [ 0x56430620, 0, 0, 0x5AD8EBC5, bytes4 4 60 2 2, bytes4 1 3 4 2, 0, halves 20 10, halves 100 2000,
    bytes4 10 20 0 4, bytes4 32 64 8 3, bytes4 2 0 0 0, 0x100000, 64, 0x101000, 64, 0x101100, 64, 0x101200, 0x102000,
    144, 0x103000, 76, bytes4 2 18 32 0, bytes4 0 1 3 0, bytes4 8 2 1 0, 0, 0, 0, 0, 0, 0 ] ++
  List.replicate 16 (halves 120 120) ++
  [ halves 1000 2000, halves 3000 4000, halves 5000 6000, 7000, bytes4 8 12 16 0, bytes4 144 1 1 1, 100, 20, 50, 24,
    40, bytes4 0xB8 0x0B 3 4, 50, 100, halves 0x3FFE 2, 0x3FFE, 0 ]

/-- The setup shadow. -/
def sh : Shadow := ⟨(setupWords ++ List.replicate 63 0).toArray, by decide +kernel⟩

/-- The shadow with a checksum word such that the block sums to 0 (R27). -/
def sealed (v : Shadow) : Shadow := v.setIfInBounds 3 (shadowWord v 3 - blockSum v)

/-- The window table of that setup. -/
def table : WindowTable := tableOf (shadowWord sh)

/-- The state RUNNING under that setup, with SETUP_SEL 2, nothing on the buses and every block at its START values. -/
def live : State :=
  { State.reset with
    path := { Path.reset 2 false with table := table, protection := true }
    loader := { Loader.reset with op := .running, result := .ok, shadow := sh }
    blocks := { Blocks.reset with
      rate := { rateStart (shadowWord sh) with header := { Header.reset with op := .running } }
      evq := { Evq.reset with slots := List.replicate 8 .free, alertMask := 2 } } }

/-- A state with its blocks changed. -/
def withBlocks (f : Blocks → Blocks) (s : State) : State := { s with blocks := f s.blocks }

/-- A state with its CRANK changed, the header showing its sync state. -/
def withCrank (c : Crank) (s : State) : State :=
  withBlocks (fun b => { b with
    crank := c, rate := { b.rate with header := { b.rate.header with sync := c.sync, cycle := c.cycle } } }) s

/-- A state in another operating state, protection following it (R7). -/
def inOp (op : OpState) (s : State) : State :=
  { s with
    loader := { s.loader with op := op }
    path := { s.path with protection := inCharge op }
    blocks := { s.blocks with rate := { s.blocks.rate with header := { s.blocks.rate.header with op := op } } } }

/-- A state with an access of a claimant in progress. -/
def busy (u : Claimant) (a : Access) (s : State) : State :=
  { s with path := { s.path with port := some ⟨u, a, true⟩ } }

/-- A state with these requests in the report writer's list. -/
def withList (l : List Request) (s : State) : State := withBlocks (fun b => { b with rpw := l }) s

/-- The state a command answers. -/
def after (c : Instr) (s : State) : State :=
  match exec c s with
  | .next t => t
  | .fault _ => s
  | .refused _ => s

/-- The kinds in the report writer's list, head first. -/
def kinds (s : State) : List RequestKind := s.blocks.rpw.map Request.kind

/-- A word address. -/
def at_ (byte : Nat) : WordAddr := wordAddrOf byte

/-- CRANK in PHASED at an engine position, its last tooth at time 1000 and its reference 1600. -/
def phased (position : Nat) : Crank :=
  { Crank.reset with
    sync := .phased, tPrev := some 1000, pPrev := some 1600, position := position, spanEdges := 1, cycle := 7
    stall := .running 0 }

/-- A CRANK record p ticks after the last tooth of `phased`. -/
def toothAfter (p : Nat) : ToothRecord := ⟨BitVec.ofNat 24 (1000 + p), .crank, .none⟩

/-- The state with one record in the tooth FIFO. -/
def withRecord (r : ToothRecord) (s : State) : State :=
  withBlocks (fun b => { b with tap := { b.tap with fifo := [r] } }) s

theorem test_setup_is_valid : validate (setupBaseByte 2) sh = none := by decide +kernel

/-- R29: every base is a multiple of 4, whatever the size, and only an absent KNOCK_B's is not checked. -/
theorem test_window_bases :
    let block (i : Nat) (v : Word) (j : Nat) (w : Word) := sealed ((sh.setIfInBounds i v).setIfInBounds j w)
    validate (setupBaseByte 2) (block 12 0x100001 13 0) = some (.badWindows, 12) ∧
      validate (setupBaseByte 2) (block 12 0x100000 13 0) = some (.badWindows, 13) ∧
      validate (setupBaseByte 2) (block 21 0x103002 22 0) = some (.badWindows, 21) ∧
      validate (setupBaseByte 2) (block 16 0x101101 17 0) = none := by decide +kernel

/-! ### The commands, one step each -/

theorem test_reset_assert : (after .resetAssert live).resetPin = true ∧ alertPin (after .resetAssert live) = .high := by
  decide +kernel

theorem test_reset_release :
    let t := after (.resetRelease 3 true) { live with resetPin := true }
    t.loader.op = .loading ∧ t.path.setupSel = 3 ∧ kinds t = [.loadStatus] := by decide +kernel

/-- 11.1, the START word write granted. -/
theorem test_start :
    let t := after .start (inOp .unconfigured live)
    t.loader.op = .loading ∧ t.loader.result = .none ∧ kinds t = [.controlNone, .loadStatus] ∧
      t.path.protection = false ∧ t.path.table.valid = false := by decide +kernel

theorem test_stop :
    let t := after .stop (withCrank (phased 40) live)
    t.loader.op = .stopping ∧ t.blocks.crank.sync = .stopped ∧ t.blocks.crank.cycle = 7 ∧ t.blocks.crank.position = 40 ∧
      kinds t = [.controlNone, .loadStatus, .header] := by decide +kernel

theorem test_none : kinds (after .noneCommand live) = [] ∧ (after .noneCommand live).loader = live.loader := by
  decide +kernel

theorem test_unknown_command : (after (.unknownCommand 3) live).loader.result = .unknownCommand := by decide +kernel

theorem test_load_status_write :
    (after (.loadStatusWrite .word 7) live).path.done.map Completion.ending = some .dropped := by decide +kernel

/-- 2.9: a write to a GEOMETRY word is refused in RUNNING. -/
theorem test_setup_write_refused :
    let t := after (.setupWrite 4 .word 0) live
    flagIn t .setupRefused = true ∧ slotIn t 0 = some (.filling .setupRefused) := by decide +kernel

theorem test_setup_write_taken :
    shadowWord (after (.setupWrite 54 (.byte 0) 200) live).loader.shadow 54 = 200 := by decide +kernel

/-- 3.7, the word to slot 16 after slot 14: TOOTH_SKIP is set and the pending OVERRUN goes with the record. -/
theorem test_tooth_write :
    let s := withBlocks (fun b => { b with tap := { b.tap with
      tooth := ⟨true, 15⟩, note := .overrun, fifo := List.replicate 7 ⟨0, .crank, .none⟩ } }) live
    let t := after (.toothWrite (at_ (0x100000 + 64)) .word 5) s
    t.blocks.tap.tooth = ⟨true, 17⟩ ∧ t.blocks.tap.fifo.getLast? = some ⟨5, .crank, .overrun⟩ ∧
      t.blocks.tap.note = .none ∧ flagIn t .toothSkip = true := by decide +kernel

/-- Two samples in order: the bias moves by the difference shifted right by 4, rounding down (R113). -/
theorem test_knock_write :
    let t := after (.knockWrite (at_ 0x101000) .word (halves 160 0xFFFF)) live
    t.blocks.knock.bias.a = 9 ∧ t.blocks.tap.knock.a = ⟨true, 2⟩ := by decide +kernel

theorem test_ign_cut : (after (.ignCut 4) live).blocks.tap.cut = 4 := by decide +kernel
theorem test_load : (after (.load 3) live).blocks.tap.load = 3 := by decide +kernel
theorem test_surface : (after (.surface 2) live).blocks.rate.header.surface = 2 := by decide +kernel

theorem test_sync_reset :
    let t := after .syncReset (withCrank (phased 40) live)
    t.blocks.crank.sync = .hunt ∧ t.blocks.crank.position = 40 ∧ slotIn t 0 = some (.filling .syncLost) := by
  decide +kernel

theorem test_freeze_ignored : (after .freeze live).blocks = live.blocks := by decide +kernel

theorem test_marker_fault : flagIn (after (.markerFault .word 0x00020004) live) .marker = true := by decide +kernel

theorem test_flag_clear :
    let s := withBlocks (fun b => { b with tap := { b.tap with flags := 0x204 } }) live
    let t := after (.flagClear (.byte 1) 0xFFFFFFFF) s
    t.blocks.tap.flags = 4 ∧ t.path.done.map Completion.ending = some .consumed := by decide +kernel

/-- 11.4: with the release of the last READY MISFIRE slot ALERT goes inactive. -/
theorem test_slot_release :
    let s := withBlocks (fun b => { b with evq := { b.evq with
      slots := [.ready .knock, .free, .ready .misfire] ++ List.replicate 5 .free, alert := true } }) live
    let t := after (.slotRelease 2 .word 0) s
    slotIn t 2 = some .free ∧ alertPin s = .low ∧ alertPin t = .high := by decide +kernel

theorem test_frame_release :
    let s := withBlocks (fun b => { b with frz := { b.frz with state := .held, mode := .rearm } }) live
    (after (.frameRelease .word 0) s).blocks.frz.state = .armed := by decide +kernel

theorem test_protected_write_drop :
    let t := after (.protectedWriteDrop (at_ 0x102020) .word 1) live
    flagIn t .protect = true ∧ t.path.done.map Completion.ending = some .dropped := by decide +kernel

theorem test_plain_write :
    (after (.plainWrite (at_ 0x300000) (.half true) 0xABCD1234) live).ram = [(0x300002, 0xCD), (0x300003, 0xAB)] := by
  decide +kernel

theorem test_word0_read :
    let t := after (.word0Read (at_ 0x102000) .word) live
    t.path.snapshot.valid = true ∧ t.path.done.map Completion.data = some 0x00020000 := by decide +kernel

theorem test_snapshot_read :
    let s := { live with path := { live.path with snapshot := ⟨true, .row 2, Vector.replicate 8 9⟩ } }
    (after (.snapshotRead (at_ (0x102000 + 4 * 25)) .word) s).path.done.map Completion.data = some 9 := by decide +kernel

theorem test_forwarded_access_done :
    let s := busy .system ⟨at_ 0x300000, .byte 1, .read⟩ { live with ram := [(0x300000, 1), (0x300001, 2)] }
    (after .forwardedAccessDone s).path.done.map Completion.data = some 0x200 := by decide +kernel

/-- 1.6, decision 2: read B waits in line while read A is in progress; at A's end B arrives before the arbiter decides
(log 1), and has its turn before the report writer. -/
theorem test_waiting_access_arrives_first :
    let read (n : Nat) : Access := ⟨at_ n, .word, .read⟩
    let s := busy .system (read 0x300000) (withList [⟨.header, 0, false⟩] live)
    let t := after .forwardedAccessDone { s with path := { s.path with bus := [read 0x300004], patience := 1 } }
    t.path.port = some ⟨.system, read 0x300004, true⟩ ∧ t.path.patience = 2 := by decide +kernel

theorem test_loader_read_done :
    let s := inOp .loading { live with ram := [(0x200000, 5)], loader := { live.loader with readsDone := 0 } }
    let t := after .loaderReadDone (busy .loader ⟨at_ 0x200000, .word, .read⟩ s)
    t.loader.readsDone = 1 ∧ shadowWord t.loader.shadow 0 = 5 := by decide +kernel

/-- 11.1: with the frame's OWNERSHIP-EMPTY request RUNNING is entered, LOAD-STATUS coalesces and HEADER follows. -/
theorem test_report_write_done :
    let s := withList [⟨.frameEmpty, 1, true⟩, ⟨.loadStatus, 0, false⟩]
      (inOp .loading { live with loader := { live.loader with phase := .initialising } })
    let t := after .reportWriteDone (busy .report ⟨at_ 0x103000, .word, .write 0⟩ s)
    t.loader.op = .running ∧ kinds t = [.loadStatus, .header] := by decide +kernel

theorem test_freeze_write_done :
    let s := withBlocks (fun b => { b with frz := { b.frz with state := .writing, writeList := [⟨0, 0xA5⟩] } }) live
    let t := after .freezeWriteDone (busy .freeze ⟨at_ 0x103000, .word, .write 0xA5⟩ s)
    t.blocks.frz.state = .held ∧ slotIn t 0 = some (.filling .freezeReady) := by decide +kernel

/-- 4.2: the gap tooth of a 60-2 wheel has ratio 48, class GAP, and leaves the reference 3333. -/
theorem test_tooth_record_take :
    let c := { Crank.reset with
      sync := .crankSync, tPrev := some 103333, pPrev := some 3333, position := 57, stall := .running 9 }
    let t := after .toothRecordTake (withRecord ⟨113333, .crank, .none⟩ (withCrank c live))
    t.blocks.crank.position = 0 ∧ t.blocks.crank.pPrev = some 3333 ∧ t.blocks.crank.stall = .running 0 := by
  decide +kernel

theorem test_stall_expiry :
    let t := after .stallExpiry (withCrank (phased 40) live)
    t.blocks.crank.sync = .stopped ∧ t.blocks.crank.stall = .halted ∧ slotIn t 0 = some (.filling .stall) := by
  decide +kernel

/-! ### Worked values of the spec -/

/-- 10, the example words: an event record's word 1, a slot's ownership word, a cycle record's two words. -/
theorem test_event_word : (eventWords ⟨.misfire, some 3, .none, 0xB1, 0x78, 0⟩ (contextOf live.blocks) 0 0).get 0 =
    0x00000301 := by decide +kernel
theorem test_cam_fault_word : (eventWords ⟨.camFault, none, .camFault .missing, 0, 0, 0⟩ (contextOf live.blocks) 0 0).get
    0 = 0x0002000A := by decide +kernel
theorem test_ownership_word : slotReadyWord 2 18 = 0x001202A5 := by decide +kernel
theorem test_cycle_words :
    let p : PositionResult := ⟨53000, .misfire, 177, 14, .quiet⟩
    positionWord1 p 1 true = 0x3600CF08 ∧ positionWord2 p = 0x000E00B1 := by decide +kernel
theorem test_negative_metric : place (twos16 (-40)) 0 16 = 0x0000FFD8 := by decide +kernel

/-- 6.6: five windows on one sensor. -/
theorem test_five_windows :
    let f (bg acc n : Nat) :=
      let r := classPart (shadowWord sh) false (some bg) ⟨acc, n, false⟩
      (r.knockClass, r.ratio, r.background)
    f 200 48000 150 = (.knock, some 25, some 200) ∧ f 200 31500 150 = (.quiet, some 16, some 201) ∧
      f 201 22200 148 = (.quiet, some 11, some 194) ∧ f 194 760000 152 = (.impact, none, some 194) ∧
      f 194 3000 20 = (.short, none, some 194) := by decide +kernel

/-- 7.12: closes 1 to 3 of cylinder 3. -/
theorem test_rating_windows :
    let row (e m : Nat) (st : MisfireState) (f : Bool) :=
      closeRow (shadowWord sh) 100
        { Row.start 2 with evaluated := e, misfires := m, misfireState := st, faultRun := f }
    let seen (r : Row) := (r.misfireState, r.faultRun, r.misfireLevel, r.misfireRate)
    seen (row 98 6 .clean false) = (.suspect, true, .high, some 61) ∧
      seen (row 40 5 .suspect true) = (.suspect, true, .none, none) ∧
      seen (row 99 7 .suspect true) = (.misfiring, false, .high, some 70) := by decide +kernel

/-! ### A state and operands that meet the hypotheses of each statement -/

/-- A word write outside every window. -/
def plain : Access := ⟨at_ 0x300000, .word, .write 1⟩

/-- A word read of a REPORT word. -/
def reportRead (w : Nat) : Access := ⟨at_ (0x102000 + 4 * w), .word, .read⟩

/-- A state with the stall timer RUNNING. -/
def ticking (n : Nat) : State := withCrank { Crank.reset with stall := .running n } live

/-- LOADING in READING with n reads ended and the next in progress. -/
def reading (n : Nat) : State :=
  busy .loader ⟨setupWordAddr 2 n, .word, .read⟩
    (inOp .loading { live with loader := { live.loader with phase := .reading, readsDone := n } })

/-- LOADING in INITIALISING. -/
def initialising : State := inOp .loading { live with loader := { live.loader with phase := .initialising } }

/-- The report writer has an access in progress, for the request at the head of a list. -/
def reporting (l : List Request) (s : State) : State := busy .report ⟨at_ 0x102000, .word, .write 0⟩ (withList l s)

/-- The tooth FIFO with n records. -/
def queued (n : Nat) : State :=
  withBlocks (fun b => { b with tap := { b.tap with fifo := List.replicate n ⟨0, .crank, .none⟩ } }) live

/-- The freeze state and words left to write. -/
def frozen (st : FreezeState) (l : List FrameWord) : State :=
  withBlocks (fun b => { b with
    frz := { b.frz with state := st, writeList := l }
    rate := { b.rate with header := { b.rate.header with freeze := st } } }) live

/-- CRANK in a sync state with a last tooth at 1000 and a reference of 1600. -/
def crankIn (st : SyncState) (position : Nat) : Crank := { phased position with sync := st, verify := position }

/-- A record for CRANK in a given state. -/
def take (r : ToothRecord) (c : Crank) : State := withRecord r (withCrank c live)

/-- A write to this byte address has its turn at once in a live state. -/
abbrev turnAt (s : State) : Prop := onTurn s ∧ s.resetPin = false

theorem test_hyps_IdleAndImpossibleSteps_idle :
    (live.pending = [] ∧ live.resetPin = false ∧ quietPorts live ∧ live.blocks.crank.stall = .halted) ∧
    (quietPorts (ticking 1998) ∧ 1998 + 1 < fStallTimeout (ticking 1998).setup) ∧
    (quietPorts (ticking 1999) ∧ fStallTimeout (ticking 1999).setup ≤ 1999 + 1) := by decide +kernel

theorem test_hyps_EveryCommandAnswersNext :
    accessOf live .start = some (setupAccess live 1 .word 1) ∧
      accessOf live (.setupWrite 1 .word 1) = some (setupAccess live 1 .word 1) := by decide +kernel

theorem test_hyps_IdleAndImpossibleSteps_impossible :
    ({ live with resetPin := true }).resetPin = true ∧ live.resetPin = false ∧
    (∀ u, (busy .report plain live).path.port = some u →
      u.user ≠ .system ∧ u.user ≠ .loader ∧ u.user ≠ .freeze) ∧
    (∀ u, live.path.port = some u → u.user ≠ .report) ∧
    (quietPorts live ∧ live.blocks.tap.fifo = [] ∧ live.blocks.crank.stall = .halted) := by
  refine ⟨rfl, rfl, ?_, ?_, by decide +kernel⟩
  · intro u h; cases h; decide
  · intro u h; cases h

theorem test_hyps_ReleaseOfReset :
    let s := { live with resetPin := true }
    s.resetPin = true ∧ calmBus s := by decide +kernel

theorem test_hyps_AssertionOfReset :
    (live.resetPin = false ∧ calmBus live ∧ calmBus (busy .report plain live)) ∧
    accessOf { live with resetPin := true } (.plainWrite (at_ 0x300000) .word 1) = some plain ∧
      portsIdle { live with resetPin := true } := by decide +kernel

theorem test_hyps_AccessesWait :
    accessOf live (.plainWrite (at_ 0x300000) .word 1) = some plain ∧
    (busHeld (busy .system plain live) = true ∧ (busy .system plain live).path.port ≠ none) ∧
    (let s := busy .loader plain live
     s.path.port = some ⟨.loader, plain, true⟩ ∧ s.path.access = none ∧ s.path.bus = [] ∧
       protectedRead s plain = none) := by decide +kernel

/-- Both ends of every window, and the addresses beside them. -/
theorem test_hyps_WindowsOfAddresses :
    (inSetup live.path 0x200000 ∧ inSetup live.path 0x2001FF ∧ ¬ inSetup live.path 0x1FFFFF ∧
      ¬ inSetup live.path 0x200200) ∧
    State.reset.path.table.valid = false ∧ table.valid = true ∧
    (windowsAt table 0x0FFFFF = [] ∧ windowsAt table 0x100000 = [.tooth] ∧ windowsAt table 0x1000FF = [.tooth] ∧
      windowsAt table 0x100100 = []) ∧
    (windowsAt table 0x101000 = [.knock .A] ∧ windowsAt table 0x10107F = [.knock .A] ∧
      windowsAt table 0x101100 = [.knock .B] ∧ windowsAt table 0x101200 = [.marker] ∧
      windowsAt table 0x101203 = [.marker] ∧ windowsAt table 0x101204 = []) ∧
    (windowsAt table 0x102000 = [.report 0] ∧ windowsAt table 0x10223F = [.report 143] ∧
      windowsAt table 0x103000 = [.freeze 0] ∧ windowsAt table 0x10312F = [.freeze 75] ∧
      windowsAt table 0x103130 = []) ∧
    validate (setupBaseByte 2) sh = none ∧ within (setupBaseByte 2) 512 0x2001FF = true := by decide +kernel

theorem test_hyps_WritesForwarded :
    turnAt live ∧ accessOf live (.plainWrite (at_ 0x300000) .word 1) = some plain ∧ windowOfAccess live plain = .none ∧
    (turnAt (inOp .stopped live) ∧ windowOfAccess (inOp .stopped live) ⟨at_ 0x100000, .word, .write 1⟩ = .tooth) ∧
    (turnAt (inOp .unconfigured live) ∧ (inOp .unconfigured live).path.protection = false ∧
      windowOfAccess (inOp .unconfigured live) ⟨at_ 0x102000, .word, .write 1⟩ = .report 0) ∧
    windowOfAccess live ⟨at_ 0x200004, .byte 3, .write 1⟩ = .setup 1 := by decide +kernel

theorem test_hyps_ForwardedAccessEnds :
    (let s := busy .system plain live
     s.path.port = some ⟨.system, plain, true⟩ ∧ s.path.access = none ∧ s.path.bus = [] ∧ firstInternal s = none) ∧
    (let s := busy .system (reportRead 80) (withList [⟨.header, 0, false⟩] live)
     firstInternal s = some .report ∧ (reportRead 80).dir = .read) := by decide +kernel

theorem test_hyps_ArbiterDecides :
    let waits (a : Access) (n : Nat) (s : State) : State :=
      { s with path := { s.path with access := some a, patience := n } }
    let mirror := withList [⟨.header, 0, false⟩] live
    (live.path.port = none ∧ live.path.access = none ∧ firstInternal live = none) ∧
    firstInternal mirror = some .report ∧
    (bound (waits plain 2 mirror).path.table ≤ (waits plain 2 mirror).path.patience) ∧
    ((waits plain 1 mirror).path.patience < bound (waits plain 1 mirror).path.table ∧
      (writeFate (waits plain 1 mirror) plain 1).granted = true) ∧
    (writeFate live ⟨at_ 0x200008, .word, .write 1⟩ 1).granted = false ∧ (reportRead 80).dir = .read ∧
    (let s := { reading 0 with path := live.path }
     s.blocks.rpw = [] ∧ loaderClaims s.loader = true ∧ s.resetPin = false) ∧
    ((frozen .writing [⟨0, 0xA5⟩]).blocks.frz.writeList ≠ [] ∧ loaderClaims live.loader = false) := by decide +kernel

/-- The premises of the statements on what every step keeps hold of a state that runs, with a command to take. -/
theorem test_hyps_invariants :
    let s := { live with pending := [.stop] }
    (∃ t, step s = .next t) ∧ ramCanonical s ∧ fifoBounded s ∧ patienceBounded s ∧ protectionAgrees s ∧
      headerShows s ∧ countsAgree s ∧ backgroundsGood s ∧ alertDecided s ∧ suspensionFollows s ∧ pendingOnce s ∧
      readsBelong s ∧ shadowGuarded s := by
  refine ⟨⟨_, rfl⟩, ?_, ?_, ?_, ?_, ?_, ?_, ?_, ?_, ?_, ?_, ?_, ?_⟩
  · decide +kernel
  · decide +kernel
  · decide +kernel
  · decide +kernel
  · decide +kernel
  · decide +kernel
  · have h : ∀ i : Fin 8, live.blocks.knock.background.a.get i = none ∧
        live.blocks.knock.background.b.get i = none := by decide +kernel
    intro i
    constructor
    · intro v hv; rw [(h i).1] at hv; cases hv
    · intro v hv; rw [(h i).2] at hv; cases hv
  · decide +kernel
  · intro x; cases x <;> decide +kernel
  · intro k _; exact Nat.zero_le 1
  · intro u h; cases h
  · decide +kernel

theorem test_hyps_RamChangesAtGrants : (∃ t, exec .start live = .next t) ∧ ramCanonical live := ⟨⟨_, rfl⟩, rfl⟩

/-- The header and the row of cylinder 8. -/
theorem test_hyps_ProtectedReads_word0 :
    busFree live ∧ live.resetPin = false ∧ live.path.protection = true ∧
      windowOfAccess live (reportRead 0) = .report (8 * 0) ∧ windowOfAccess live (reportRead 64) = .report (8 * 8) := by
  decide +kernel

theorem test_hyps_ProtectedReads_snapshot :
    let s := { live with path := { live.path with snapshot := ⟨true, .row 7, Vector.replicate 8 9⟩ } }
    (busFree s ∧ s.path.protection = true ∧ windowOfAccess s (reportRead 71) = .report (8 * 8 + 7) ∧
      s.path.snapshot.valid = true ∧ s.path.snapshot.tag = .row (Fin.ofNat 8 (8 - 1))) ∧
    (onTurn s ∧ windowOfAccess s (reportRead 1) = .report (8 * 0 + 1) ∧ s.path.snapshot.tag ≠ .header) ∧
    (onTurn live ∧ live.path.snapshot.valid = false) ∧
    (onTurn live ∧ ∀ n, windowOfAccess live (reportRead 72) = .report n → 72 ≤ n) ∧
    (onTurn (inOp .loading live) ∧ (inOp .loading live).path.protection = false) := by
  refine ⟨by decide +kernel, by decide +kernel, by decide +kernel, ⟨by decide +kernel, ?_⟩, by decide +kernel⟩
  intro n h
  have e : windowOfAccess live (reportRead 72) = .report 72 := by decide +kernel
  rw [e] at h; cases h; exact Nat.le_refl 72

theorem test_hyps_RequestsCoalesce :
    (coalesces .header = true ∧ pendingCount .header [⟨.header, 0, true⟩] ≠ 0) ∧
    (coalesces .header = true ∧ pendingCount .header [⟨.header, 1, false⟩] = 0) ∧
    (coalesces .frameEmpty = false ∧ pendingCount .frameEmpty [⟨.frameEmpty, 0, true⟩] ≠ 0) := by decide +kernel

theorem test_hyps_ReportWordWritten :
    let s := reporting [⟨.header, 7, false⟩] live
    s.resetPin = false ∧ s.path.port = some ⟨.report, ⟨at_ 0x102000, .word, .write 0⟩, true⟩ ∧
      s.blocks.rpw = [⟨.header, 7, false⟩] ∧ 7 < requestWords .header ∧ s.path.access = none ∧ s.path.bus = [] := by
  decide +kernel

/-- The last initialisation request, the last request of STOPPING, and another request. -/
theorem test_hyps_RequestLeavesList :
    (let s := reporting [⟨.frameEmpty, 1, true⟩, ⟨.loadStatus, 0, false⟩] initialising
     s.resetPin = false ∧ s.blocks.rpw = [⟨.frameEmpty, 1, true⟩, ⟨.loadStatus, 0, false⟩] ∧
       requestWords .frameEmpty ≤ 1 ∧ s.loader.op = .loading ∧ s.loader.phase = .initialising ∧
       (∀ q ∈ [(⟨.loadStatus, 0, false⟩ : Request)], q.initial = false)) ∧
    (let s := reporting [⟨.loadStatus, 1, false⟩] (inOp .stopping live)
     s.loader.op = .stopping ∧ s.blocks.frz.writeList = [] ∧ requestWords .loadStatus ≤ 1) ∧
    (reporting [⟨.header, 8, false⟩] live).loader.op = .running ∧ requestWords .header ≤ 8 ∧
    ∀ n words, RequestKind.header ≠ .event n words ∧ RequestKind.frameEmpty ≠ .event n words ∧
      RequestKind.loadStatus ≠ .event n words :=
  ⟨by decide +kernel, by decide +kernel, by decide +kernel, by decide,
    fun _ _ => ⟨nofun, nofun, nofun⟩⟩

theorem test_hyps_EventRecordReady :
    let w : Vector Word 8 := Vector.replicate 8 0
    let slots : List SlotState := .filling .misfire :: List.replicate 7 .free
    let s := reporting [⟨.event 0 w, 8, false⟩] (withBlocks (fun b => { b with evq := { b.evq with slots := slots } }) live)
    (s.resetPin = false ∧ s.blocks.rpw = [⟨.event 0 w, 8, false⟩] ∧ slotIn s 0 = some (.filling .misfire) ∧
      inCharge s.loader.op = true ∧ maskNames s.blocks.evq.alertMask .misfire = true) ∧
    inCharge (inOp .loading s).loader.op = false ∧
    ((inOp .stopping s).loader.op = .stopping ∧ (inOp .stopping s).blocks.frz.writeList = []) := by decide +kernel

theorem test_hyps_StartBeginsLoad :
    (turnAt (inOp .unconfigured live) ∧ (inOp .unconfigured live).loader.op = .unconfigured) ∧
    (turnAt (inOp .stopped live) ∧ (inOp .stopped live).loader.op = .stopped) := by decide +kernel

theorem test_hyps_CommandTable :
    turnAt live ∧ 2 < (3 : Word).toNat ∧ 2 < (0xFFFFFFFF : Word).toNat ∧ live.loader.op = .running ∧
    (turnAt (inOp .stopping live) ∧ (inOp .stopping live).loader.op ≠ .running) ∧
    (inOp .unconfigured live).loader.op = .unconfigured ∧ (inOp .loading live).loader.op = .loading := by decide +kernel

theorem test_hyps_StopDrains :
    (turnAt live ∧ live.loader.op = .running ∧ live.blocks.frz.state ≠ .collecting) ∧
    (turnAt (frozen .collecting []) ∧ (frozen .collecting []).blocks.frz.state = .collecting) := by decide +kernel

/-- The first read and the last but one. -/
theorem test_hyps_LoaderReads_next :
    let met (n : Nat) : Prop :=
      let s := reading n
      s.resetPin = false ∧ s.path.port = some ⟨.loader, ⟨setupWordAddr 2 n, .word, .read⟩, true⟩ ∧
        s.path.access = none ∧ s.path.bus = [] ∧ s.blocks.rpw = [] ∧ s.loader.op = .loading ∧
        s.loader.phase = .reading ∧ s.loader.readsDone + 1 < 128
    met 0 ∧ met 126 := by decide +kernel

theorem test_hyps_LoaderReads_end :
    let s := reading 127
    let a : Access := ⟨setupWordAddr 2 127, .word, .read⟩
    (s.resetPin = false ∧ s.path.port = some ⟨.loader, a, true⟩ ∧ s.path.access = none ∧ s.path.bus = [] ∧
      s.blocks.rpw = [] ∧ s.loader.op = .loading ∧ s.loader.phase = .reading ∧ s.loader.readsDone = 127) ∧
    validate (setupBaseByte s.path.setupSel) (s.loader.shadow.setIfInBounds 127 (ramWord s.ram a.addr)) = none ∧
    validate (setupBaseByte s.path.setupSel) (s.loader.shadow.setIfInBounds 127 1) = some (.badChecksum, 3) := by
  decide +kernel

/-- 11.1: a `freeze_size` of 60 fails group FREEZE with offset 22. -/
theorem test_hyps_ValidationOrder :
    shadowWord (Vector.replicate 128 0) 0 ≠ 0x56430620 ∧
    (shadowWord (sh.setIfInBounds 5 0) 0 = 0x56430620 ∧ blockSum (sh.setIfInBounds 5 0) ≠ 0) ∧
    (shadowWord sh 0 = 0x56430620 ∧ blockSum sh = 0) ∧
    validate (setupBaseByte 2) (sealed (sh.setIfInBounds 22 60)) = some (.badFreeze, 22) := by decide +kernel

theorem test_hyps_ValidatedFields :
    validate (setupBaseByte 2) sh = none ∧ fKnockBSize (shadowWord sh) ≠ 0 := by decide +kernel

/-- Words 0, 3 and 127, in the three states. -/
theorem test_hyps_SetupWriteOpen :
    (turnAt (inOp .unconfigured live) ∧ (0 : BitVec 7) ≠ 1 ∧ (0 : BitVec 7) ≠ 2) ∧
    (turnAt (inOp .stopped live) ∧ (3 : BitVec 7) ≠ 1 ∧ (3 : BitVec 7) ≠ 2) ∧
    (let s := { reading 128 with path := live.path }
     turnAt s ∧ s.loader.op = .loading ∧ s.loader.phase = .reading ∧ (127 : BitVec 7) ≠ 1 ∧ (127 : BitVec 7) ≠ 2) := by
  decide +kernel

/-- A shadow with a word written whole. -/
def written (off : Nat) (d : Word) : Shadow := sh.setIfInBounds off (mergeLanes (shadowWord sh off) d .word)

theorem test_hyps_SetupWriteRefused :
    (turnAt live ∧ live.loader.op = .running ∧ geometryWord 0 = true ∧ geometryWord 4 = true ∧
      geometryWord 25 = true ∧ flagIn live .setupRefused = false ∧
      maskNames (fEventMask live.setup) .setupRefused = true ∧ slotIn live live.blocks.evq.producer = some .free) ∧
    (geometryWord 64 = false ∧ tunableAccepted (setupBaseByte live.path.setupSel) 64 (written 64 3) = false) ∧
    (turnAt initialising ∧ initialising.loader.phase = .initialising ∧ initialising.loader.op ≠ .running) ∧
    (turnAt (inOp .stopping live) ∧ (inOp .stopping live).loader.op = .stopping) ∧
    (let s := withBlocks (fun b => { b with tap := { b.tap with flags := 0x80 } }) live
     flagIn s .setupRefused = true) := by decide +kernel

theorem test_hyps_TunableWriteAccepted :
    turnAt live ∧
    (geometryWord 26 = false ∧ tunableAccepted (setupBaseByte live.path.setupSel) 26 (written 26 5) = true) ∧
    (geometryWord 63 = false ∧ tunableAccepted (setupBaseByte live.path.setupSel) 63 (written 63 2) = true) ∧
    (geometryWord 62 = false ∧ tunableAccepted (setupBaseByte live.path.setupSel) 62 (written 62 2) = true) ∧
    (geometryWord 64 = false ∧ tunableAccepted (setupBaseByte live.path.setupSel) 64 (written 64 2) = true ∧
      live.blocks.rate.header.freeze = live.blocks.frz.state) ∧
    (tunableAccepted (setupBaseByte live.path.setupSel) 64 (written 64 0) = true ∧
      (frozen .collecting []).blocks.rate.header.freeze = (frozen .collecting []).blocks.frz.state ∧
      (frozen .collecting []).blocks.frz.state = .collecting) := by decide +kernel

/-- The first and the last slot; a good word, a full FIFO, a word with a FORMAT fault; a ring in step and one that skips. -/
theorem test_hyps_ToothWriteTaken :
    (turnAt live ∧ live.loader.op = .running ∧ windowOfAccess live ⟨at_ 0x100000, .word, .write 5⟩ = .tooth ∧
      windowOfAccess live ⟨at_ 0x1000FC, .byte 3, .write 5⟩ = .tooth) ∧
    (toothKind 5 = some .crank ∧ (queued 7).blocks.tap.fifo.length < 8) ∧
    (turnAt (queued 8) ∧ toothKind 5 ≠ none ∧ 8 ≤ (queued 8).blocks.tap.fifo.length) ∧ toothKind 0x03000000 = none ∧
    (let s := withBlocks (fun b => { b with tap := { b.tap with tooth := ⟨true, 63⟩ } }) live
     s.blocks.tap.tooth.aligned = true ∧ (byteAddr ⟨at_ 0x100000, .word, .write 5⟩ - 0x100000) / 4 ≠
       s.blocks.tap.tooth.expected) := by decide +kernel

theorem test_hyps_KnockWriteTaken :
    turnAt live ∧ live.loader.op = .running ∧
    windowOfAccess live ⟨at_ 0x101000, .word, .write 5⟩ = .knock .A ∧
    windowOfAccess live ⟨at_ 0x10107C, .half true, .write 5⟩ = .knock .A ∧
    windowOfAccess live ⟨at_ 0x101100, .byte 1, .write 5⟩ = .knock .B ∧
    (let s := withBlocks (fun b => { b with tap := { b.tap with knock := ⟨⟨true, 2⟩, ⟨true, 0⟩⟩ } }) live
     turnAt s ∧ (s.blocks.tap.knock.get .A).expected ≠ 0 ∧ (s.blocks.tap.knock.get .B).expected = 0) := by decide +kernel

/-- A window of cylinder 1 that both sensors cover, and one that sensor B does not. -/
def window (b : Option SensorPart) : KnockWindow := ⟨0, 1, false, ⟨some ⟨48000, 150, false⟩, b⟩⟩

theorem test_hyps_SampleTaken :
    (let k := { Knock.reset with openWin := some (window none) }
     k.openWin = some (window none) ∧ k.suspended.get .A = false ∧ (window none).parts.get .B = none ∧
       (window none).parts.get .A = some ⟨48000, 150, false⟩) ∧
    Knock.reset.openWin = none ∧ ({ Knock.reset with suspended := ⟨true, false⟩ }).suspended.get .A = true := by
  decide +kernel

theorem test_hyps_ContextMarkers :
    turnAt live ∧ live.loader.op = .running ∧ windowOf live.path (4 * (markerAddr live).toNat) = .marker ∧
      live.blocks.rate.header.cut = live.blocks.tap.cut ∧ live.blocks.rate.header.load = live.blocks.tap.load ∧
      live.blocks.rate.header.surface = live.blocks.tap.surface ∧ (15 : BitVec 16).toNat < 2 ^ fNcyl live.setup ∧
      (3 : BitVec 16).toNat ≤ 3 := by decide +kernel

/-- A state in PHASED with the freeze state given and a record of the current cycle in the ring. -/
def armedAt (st : FreezeState) (ring : Vector CycleRecord 24) : State :=
  withBlocks (fun b => { b with seg := { b.seg with ring := ring } })
    (withCrank (phased 40) (frozen st []))

theorem test_hyps_ActingMarkers :
    (turnAt live ∧ live.loader.op = .running ∧ windowOf live.path (4 * (markerAddr live).toNat) = .marker ∧
      live.blocks.crank.sync = .stopped) ∧
    (turnAt (withCrank (crankIn .verify 3) live) ∧ (withCrank (crankIn .verify 3) live).blocks.crank.sync = .verify) ∧
    (let s := withCrank (phased 40) live
     turnAt s ∧ s.blocks.crank.sync = .phased ∧ maskNames (fEventMask s.setup) .syncLost = true ∧
       slotIn s s.blocks.evq.producer = some .free) ∧
    live.blocks.frz.state = .idle ∧ (turnAt (frozen .held []) ∧ (frozen .held []).blocks.frz.state = .held) ∧
    (turnAt (frozen .armed []) ∧ (frozen .armed []).blocks.frz.state = .armed ∧
      (frozen .armed []).blocks.crank.sync ≠ .phased) ∧
    (let ring := CycleRecord.empty
     let s := armedAt .armed (Vector.replicate 24 { ring with state := .opened, cycle := 7 })
     turnAt s ∧ s.blocks.frz.state = .armed ∧ s.blocks.crank.sync = .phased ∧
       (s.blocks.seg.ring.get 0).state ≠ .empty ∧ (s.blocks.seg.ring.get 0).cycle = s.blocks.crank.cycle) := by
  decide +kernel

theorem test_hyps_MarkerFaults :
    turnAt live ∧ live.loader.op = .running ∧
    windowOfAccess live (writeAccess (markerAddr live) (.byte 3) 0x00050000) = .marker ∧ markerKind 0x00060000 = none ∧
    (markerKind 0x00010010 = some .ignCut ∧
      markerInRange (fNcyl live.setup) .ignCut (bitField 0x00010010 0 16) = false) ∧
    flagIn live .marker = false ∧ maskNames (fEventMask live.setup) .streamFault = true ∧
    slotIn live live.blocks.evq.producer = some .free ∧
    flagIn (withBlocks (fun b => { b with tap := { b.tap with flags := 0x40 } }) live) .marker = true := by decide +kernel

theorem test_hyps_FlagClearConsumed :
    turnAt live ∧ live.path.protection = true ∧
    windowOfAccess live (writeAccess (reportWordAddr live.path.table 4) (.half true) 1) = .report 4 ∧
    live.blocks.tap.flags &&& (0x3FF : Word).setWidth 10 = 0 := by decide +kernel

/-- Header, row, slot body, spare and frame words at the ends of their ranges. -/
theorem test_hyps_WritesDropped :
    (turnAt live ∧ firstInternal live = none ∧ live.path.protection = true) ∧
    (let win (n : Nat) := windowOfAccess live (writeAccess (at_ n) .word 1)
     win 0x102000 = .report 0 ∧ win 0x10200C = .report 3 ∧ win 0x102014 = .report 5 ∧ win 0x10211C = .report 71 ∧
       win 0x102124 = .report 73 ∧ win 0x10221C = .report 135 ∧ win 0x102220 = .report 136 ∧
       win 0x10223C = .report 143 ∧ win 0x103004 = .freeze 1 ∧ win 0x10312C = .freeze 75) ∧
    72 + 8 * live.path.table.queueCapacity = 136 ∧
    flagIn (withBlocks (fun b => { b with tap := { b.tap with flags := 0x100 } }) live) .protect = true := by
  decide +kernel

/-- Slots 0 and 7, READY, FREE and FILLING. -/
theorem test_hyps_SlotReleased :
    let s := withBlocks (fun b => { b with evq := { b.evq with
      slots := [.ready .knock] ++ List.replicate 6 .free ++ [.filling .misfire] } }) live
    turnAt s ∧ s.path.protection = true ∧ (7 : BitVec 6).toNat < s.path.table.queueCapacity ∧
    windowOfAccess s (writeAccess (reportWordAddr s.path.table (72 + 8 * 0)) .word 0) = .report 72 ∧
    windowOfAccess s (writeAccess (reportWordAddr s.path.table (72 + 8 * 7)) .word 0) = .report (72 + 8 * 7) ∧
    slotIn s 0 = some (.ready .knock) ∧ slotIn s 1 = some .free ∧ slotIn s 7 = some (.filling .misfire) := by
  decide +kernel

theorem test_hyps_FrameReleased :
    let s := frozen .held []
    (turnAt s ∧ s.path.protection = true ∧
      windowOfAccess s (writeAccess (freezeWordAddr s.path.table 0) .word 0) = .freeze 0 ∧
      s.blocks.frz.state = .held ∧ s.blocks.rate.header.freeze = .held) ∧
    (turnAt live ∧ live.blocks.frz.state ≠ .held) := by decide +kernel

theorem test_hyps_FreezeWordWritten :
    let a : Access := ⟨at_ 0x103004, .word, .write 0⟩
    let two := busy .freeze a (frozen .writing [⟨1, 0⟩, ⟨0, 0xA5⟩])
    let one := busy .freeze a (frozen .writing [⟨0, 0xA5⟩])
    (two.resetPin = false ∧ two.path.port = some ⟨.freeze, a, true⟩ ∧ two.path.access = none ∧ two.path.bus = [] ∧
      two.blocks.rpw = [] ∧ loaderClaims two.loader = false) ∧
    (one.blocks.frz.writeList = [⟨0, 0xA5⟩] ∧ one.loader.op = .running ∧
      maskNames (fFreezeTriggerMask one.setup) .freezeReady = true ∧
      maskNames (fEventMask one.setup) .freezeReady = true ∧ slotIn one one.blocks.evq.producer = some .free) ∧
    ((inOp .stopping one).loader.op = .stopping ∧ one.path.table.valid = true ∧
      one.blocks.rate.header.freeze = .writing) := by decide +kernel

/-- The ratio's bounds of each class, and CRANK records that a state takes. -/
theorem test_hyps_TeethBeforePhasing :
    let r := shadowWord sh
    let period (p : Nat) := classOfPeriod r p (some 1600)
    (period 799 = .glitch ∧ period 800 = .normal ∧ period 3199 = .normal ∧ period 3200 = .gap ∧ period 6499 = .gap ∧
      period 6500 = .erratic) ∧
    (let met (s : State) : Prop := quietPorts s ∧ s.resetPin = false ∧ s.loader.op = .running ∧
       s.blocks.tap.fifo.length = 1
     met (take (toothAfter 1600) Crank.reset) ∧ met (take (toothAfter 4800) (crankIn .verify 57)) ∧
       met (take (toothAfter 4800) (crankIn .crankSync 57))) ∧
    (toothAfter 1600).kind = .crank ∧ (crankIn .verify 57).verify = fTeethN r - fMissingM r - 1 ∧
    (2 ^ 23 ≤ ((toothAfter (2 ^ 23)).stamp - 1000).toNat ∧ ((toothAfter (2 ^ 23 - 1)).stamp - 1000).toNat < 2 ^ 23) ∧
    (1 + 2 ≤ fGlitchLimit r ∧ fGlitchLimit r < 1 + 3) ∧
    ((after .toothRecordTake (take (toothAfter 4800) (crankIn .crankSync 57))).blocks.crank.sync = .crankSync ∧
      (after .toothRecordTake (take (toothAfter 1600) (crankIn .crankSync 57))).blocks.crank.sync = .hunt) := by
  decide +kernel

/-- Positions where the gap is due, the gap that ends the span, and both runs of the span. -/
theorem test_hyps_PhasedTeeth :
    let r := shadowWord sh
    let N := fTeethN r
    let m := fMissingM r
    let s := take (toothAfter 4800) (phased 117)
    (quietPorts s ∧ s.resetPin = false ∧ s.loader.op = .running ∧ s.blocks.tap.fifo = [toothAfter 4800] ∧
      (toothAfter 4800).note = .none ∧ s.blocks.crank.sync = .phased ∧ s.blocks.crank.tPrev = some 1000 ∧
      ((toothAfter 4800).stamp - 1000).toNat < 2 ^ 23) ∧
    classOfPeriod r 4800 (some 1600) = .gap ∧ classOfPeriod r 1600 (some 1600) = .normal ∧
    (57 = N - m - 1 ∧ 117 = N + (N - m - 1) ∧ (117 + m + 1) % (2 * N) = 0 ∧ (57 + m + 1) % (2 * N) ≠ 0) ∧
    ({ phased 117 with spanEdges := 0 }).camRun < 2 ∧ ({ phased 117 with spanError := true }).camRun < 2 ∧
    (phased 117).spanEdges ≠ 0 ∧ ({ phased 117 with spanEdges := 0, camRun := 2 }).camRun = 2 := by decide +kernel

/-- The setup with this `seg_offset`, `kw_start` and `kw_width`. -/
def geometry (seg start width : Nat) : Reader :=
  shadowWord (sealed ((sh.setIfInBounds 7 (halves 20 seg)).setIfInBounds 23 (bytes4 start width 32 0)))

/-- No boundary, boundary 1 and boundary 0, each with and without a close and an open at the same position. -/
theorem test_hyps_ToothHandsOn :
    let seen (r : Reader) (p : Nat) :=
      let matches_ (f : Reader → Nat → Nat) : Bool := (List.range (fNcyl r)).any (fun k => f r k == p)
      (matches_ segmentBoundary, matches_ windowClose, matches_ windowOpen)
    let first (r : Reader) (f : Reader → Nat → Nat) (k p : Nat) : Prop :=
      k < fNcyl r ∧ f r k = p ∧ ∀ i, i < k → f r i ≠ p
    (seen (geometry 10 2 18) 5 = (false, false, false) ∧ seen (geometry 10 2 18) 22 = (false, false, true) ∧
      seen (geometry 10 2 18) 40 = (false, true, false) ∧ seen (geometry 10 0 30) 20 = (false, true, true)) ∧
    (seen (geometry 10 2 18) 60 = (true, false, false) ∧ seen (geometry 2 2 18) 52 = (true, false, true) ∧
      seen (geometry 20 2 18) 70 = (true, true, false) ∧ seen (geometry 0 0 30) 50 = (true, true, true)) ∧
    (seen (geometry 10 2 18) 30 = (true, false, false) ∧ seen (geometry 2 2 18) 22 = (true, false, true) ∧
      seen (geometry 20 2 18) 40 = (true, true, false) ∧ seen (geometry 0 0 30) 20 = (true, true, true)) ∧
    (first (geometry 0 0 30) segmentBoundary 1 50 ∧ first (geometry 0 0 30) windowOpen 1 50 ∧
      first (geometry 0 0 30) segmentBoundary 0 20 ∧ first (geometry 0 0 30) windowOpen 0 20) := by decide +kernel

/-- The ring of 5.9: record 1 CLOSED, record 2 OPEN and the most recently opened, the others EMPTY. -/
def ringBlocks (first second : RecordState) : Blocks :=
  { live.blocks with seg := { Seg.reset with
      ring := (Seg.reset.ring.set 1 { CycleRecord.empty with state := first, cycle := 41 }).set 2
        { CycleRecord.empty with state := second, cycle := 42 }
      last := some 2 } }

/-- A record that alone is OPEN, and none; a coverage in order and one that wraps, with KNOCK_B present. -/
theorem test_hyps_NoticesOpen :
    (((ringBlocks .closed .opened).seg.ring.get 2).state = .opened ∧
      ∀ j, j ≠ 2 → ((ringBlocks .closed .opened).seg.ring.get j).state ≠ .opened) ∧
    (∀ i, ((ringBlocks .final .closed).seg.ring.get i).state ≠ .opened) ∧
    (let r := shadowWord sh
     fSensAFirst r = 0 ∧ fSensALast r = 1 ∧ fSensBFirst r = 3 ∧ fSensBLast r = 0 ∧ table.knockSize.b ≠ 0) := by
  decide +kernel

/-- 5.9: at the loss 41 becomes FINAL and then 42. -/
theorem test_ring_at_a_loss :
    let b := segLoss live.env (ringBlocks .closed .opened)
    (b.seg.ring.get 1).state = .final ∧ (b.seg.ring.get 2).state = .final ∧ b.seg.openSeg = none := by decide +kernel

theorem test_hyps_CamEdges :
    let s := take ⟨2000, .camRise, .none⟩ (crankIn .crankSync 20)
    (quietPorts s ∧ s.resetPin = false ∧ s.loader.op = .running ∧ s.blocks.tap.fifo = [⟨2000, .camRise, .none⟩] ∧
      fCamEdge s.setup = 0 ∧ fCamLo s.setup ≤ 10 ∧ 20 ≤ fCamHi s.setup ∧
      maskNames (fEventMask s.setup) .syncGained = true ∧ maskNames (fEventMask s.setup) .camFault = true ∧
      slotIn s s.blocks.evq.producer = some .free) ∧
    ((phased 10).position < fTeethN s.setup ∧ fTeethN s.setup ≤ (phased 70).position) := by decide +kernel

theorem test_hyps_StallExpires :
    (let s := withCrank (phased 40) live
     quietPorts s ∧ s.resetPin = false ∧ s.blocks.crank.stall = .running 0 ∧ s.blocks.crank.sync = .phased ∧
       maskNames (fEventMask s.setup) .stall = true ∧ slotIn s s.blocks.evq.producer = some .free) ∧
    (ticking 5).blocks.crank.sync = .stopped := by decide +kernel

/-- 5.6: the segment of cylinder 4 with T 53000, in blocks where it is MISFIRE on tarmac. -/
def segmentBlocks (cut : Bool) (warmup holdoff : Nat) (surface : BitVec 2) (prev : SegClass) (back : Nat) : Blocks :=
  { live.blocks with
    tap := { live.blocks.tap with load := 2, surface := surface }
    seg := { Seg.reset with
      openSeg := some ⟨2, 0, cut, none⟩, warmup := warmup, holdoff := holdoff
      list := [⟨back, .fired⟩, ⟨50000, .fired⟩, ⟨50000, .fired⟩, ⟨50000, prev⟩] } }

/-- The class SEG gives that segment. -/
def segmentClass (b : Blocks) : Option SegClass :=
  (segEnd live.env 53000 b).seg.list.getLast?.map SegEntry.segClass

/-- Each class of R90 is reached, in the order of precedence, and the example's M is 177. -/
theorem test_hyps_SegmentCompletes :
    segmentClass (segmentBlocks true 4 0 0 .fired 50200) = some .cut ∧
    segmentClass (segmentBlocks false 3 0 0 .fired 50200) = some .warmup ∧
    segmentClass (segmentBlocks false 4 0 3 .fired 50200) = some .rough ∧
    segmentClass (segmentBlocks false 4 0 0 .cut 50200) = some .shadow ∧
    segmentClass (segmentBlocks false 4 1 0 .fired 50200) = some .transient ∧
    segmentClass (segmentBlocks false 4 0 0 .fired 40000) = some .transient ∧
    segmentClass (segmentBlocks false 4 0 0 .fired 50200) = some .misfire ∧
    segmentClass (segmentBlocks false 4 0 1 .fired 50200) = some .fired ∧
    (rowOf (segEnd live.env 53000 (segmentBlocks false 4 0 0 .fired 50200)).rate 4).lastMetric = some 177 := by
  decide +kernel

/-- The last segment of cycle 42 is open, the record before CLOSED, and the segment is a misfire; records that settle. -/
theorem test_hyps_RingFiledAndSettled :
    let o : OpenSegment := ⟨3, 0, false, some 2⟩
    let b := { segmentBlocks false 4 0 0 .fired 50200 with seg :=
      { (segmentBlocks false 4 0 0 .fired 50200).seg with
        openSeg := some o, ring := (ringBlocks .closed .opened).seg.ring, last := some 2 } }
    (b.seg.openSeg = some o ∧ o.record = some 2 ∧ o.position + 1 = fNcyl live.env.reader ∧
      segmentClass b = some .misfire ∧ live.env.op = .running) ∧
    ((b.seg.ring.get 1).state = .closed ∧ ∀ l, l ≠ 2 → l ≠ 1 → (b.seg.ring.get l).state ≠ .closed) ∧
    (∀ j, j ≠ 2 → ((ringBlocks .final .opened).seg.ring.get j).state ≠ .closed) ∧
    ((segmentBlocks false 4 0 0 .fired 50200).seg.openSeg = some ⟨2, 0, false, none⟩ ∧
      2 + 1 ≠ fNcyl live.env.reader ∧ (3 : Fin 8).val = o.position ∧ (2 : Fin 8).val ≠ o.position) ∧
    (let settles (i : Fin 24) : Prop := (b.seg.ring.get i).state = .opened ∨ (b.seg.ring.get i).state = .closed
     settles 1 ∧ settles 2 ∧ b.seg.last = some 2 ∧ ∀ l, l ≠ 1 → l ≠ 2 → ¬ settles l) ∧
    (∀ i, ((ringBlocks .final .final).seg.ring.get i).state ≠ .opened ∧
      ((ringBlocks .final .final).seg.ring.get i).state ≠ .closed) ∧
    (∀ j, j ≠ 2 → ((ringBlocks .final .closed).seg.ring.get j).state ≠ .opened ∧
      ((ringBlocks .final .closed).seg.ring.get j).state ≠ .closed) := by decide +kernel

theorem test_hyps_KnockPartsAndVerdict :
    let r := shadowWord sh
    (fKnockMinSamples r ≤ 32 ∧ fImpactCeiling r ≤ 96000 / 32 ∧ 95999 / 32 < fImpactCeiling r) ∧
    (fHeavyThr r ≤ min 65535 (500 * 16 / 200) ∧ min 65535 (499 * 16 / 200) < fHeavyThr r ∧
      fKnockThr r ≤ min 65535 (300 * 16 / 200) ∧ min 65535 (299 * 16 / 200) < fKnockThr r) ∧
    (let q (c : KnockClass) (o : Option Nat) : PartResult := ⟨c, o, 5, none⟩
     (q .impact none).ratio = none ∧ (q .quiet (some 3)).ratio = some 3 ∧
       ((q .invalid none).knockClass, (q .cut none).knockClass) ∈ [(KnockClass.invalid, KnockClass.cut)]) := by
  decide +kernel

/-- 11.5: window 0 closes HEAVY on A and IMPACT on B, so IMPACT. -/
theorem test_hyps_KnockWindowCloses :
    let w : KnockWindow := ⟨0, 1, false, ⟨some ⟨135000, 150, false⟩, some ⟨630000, 150, false⟩⟩⟩
    let b := { live.blocks with knock := { Knock.reset with
      openWin := some w, background := ⟨Vector.replicate 8 (some 250), Vector.replicate 8 (some 300)⟩ } }
    b.knock.openWin = some w ∧
      (combine (some (classPart (shadowWord sh) false (some 250) ⟨135000, 150, false⟩))
        (some (classPart (shadowWord sh) false (some 300) ⟨630000, 150, false⟩))).knockClass = .impact ∧
      live.env.op = .running ∧ maskNames (fEventMask live.env.reader) .impact = true ∧
      b.evq.slots[b.evq.producer]? = some .free ∧ (0 : Fin 8).val = w.position ∧ b.seg.starts.get 0 = none ∧
      (Seg.reset.starts.set 0 (some 5)).get 0 = some 5 := by decide +kernel

/-- Levels at the ends of their ranges, for each misfire state. -/
theorem test_hyps_RatingLevelsAndStates :
    let r := shadowWord sh
    let level (e m : Nat) := (closeRow r 100 { Row.start 0 with evaluated := e, misfires := m }).misfireLevel
    let knock (n k h : Nat) :=
      (closeRow r 100 { Row.start 0 with knockEvaluated := n, knockCount := k, heavyCount := h }).knockLevel
    (level 49 9 = .none ∧ level 50 0 = .low ∧ level 1000 19 = .low ∧ level 1000 20 = .mid ∧ level 1000 49 = .mid ∧
      level 1000 50 = .high) ∧
    (knock 49 9 9 = .none ∧ knock 1000 49 0 = .normal ∧ knock 1000 50 0 = .light ∧ knock 1000 0 99 = .light ∧
      knock 1000 0 100 = .heavy) := by decide +kernel

theorem test_hyps_RatingWindowCloses :
    live.blocks.rate.wcur = 100 ∧ live.blocks.rate.cycles < live.blocks.rate.wcur ∧
    ({ live.blocks.rate with cycles := 100 }).wcur ≤ ({ live.blocks.rate with cycles := 100 }).cycles ∧
    fNcyl live.env.reader = 4 := by decide +kernel

theorem test_hyps_EventPlacedOrDropped :
    let q := live.blocks.evq
    (live.env.op = .running ∧ maskNames (fEventMask live.env.reader) .misfire = true ∧
      q.slots[q.producer]? = some .free) ∧
    (let q' := { q with slots := [.ready .misfire] }
     q'.slots[q'.producer]? ≠ some .free) ∧
    (inOp .stopping live).env.op ≠ .running ∧ maskNames 0 .misfire = false := by decide +kernel

/-- Blocks in PHASED in cycle 42 of that ring, in a freeze state. -/
def collectingBlocks (st : FreezeState) (pre : Nat) : Blocks :=
  { ringBlocks .final .opened with
    crank := { phased 40 with cycle := 42 }
    frz := { Frz.reset with state := st, trigger := some ⟨.manual, none, 42⟩, pre := pre } }

theorem test_hyps_RaisedEventTriggers :
    let b := collectingBlocks .armed 0
    (live.env.op = .running ∧ maskNames (fFreezeTriggerMask live.env.reader) .misfire = true ∧
      maskNames (fFreezeTriggerMask live.env.reader) .freezeReady = true) ∧
    (b.frz.state = .armed ∧ b.crank.sync = .phased ∧ (b.seg.ring.get 2).state ≠ .empty ∧
      (b.seg.ring.get 2).cycle = b.crank.cycle) ∧
    (live.blocks.frz.state = .idle ∧ (collectingBlocks .held 0).frz.state = .held) ∧
    ({ b with crank := Crank.reset }).crank.sync ≠ .phased ∧
    (1 ≤ cyclesBefore b.seg.ring 42 3 ∧ cyclesBefore b.seg.ring 42 3 < 3 ∧ cyclesBefore b.seg.ring 42 1 = 1) ∧
    ((b.seg.ring.get 1).state = .final ∧ (b.seg.ring.get 1).cycle = 41 ∧
      ∀ j, j ≠ 1 → (b.seg.ring.get j).state = .empty ∨ (b.seg.ring.get j).cycle ≠ 41) := by decide +kernel

/-- With one pre cycle before cycle 42 and one cycle after it, the span is 41, 42 and 43. -/
theorem test_hyps_CollectionEnds :
    let b := collectingBlocks .collecting 1
    let place (c : BitVec 32) := (c - (42 - BitVec.ofNat 32 b.frz.pre)).toNat
    let last := b.frz.pre + live.env.table.frzPost
    (b.frz.state = .collecting ∧ b.frz.trigger = some ⟨.manual, none, 42⟩) ∧
    (place 41 < last ∧ place 42 < last ∧ place 43 = last ∧ last < place 44 ∧ last < place 40) ∧
    live.blocks.frz.state ≠ .collecting := by decide +kernel

/-- 9.8: a frame of four records has 8 + 17 x 4 words, and ends with its ownership word. -/
theorem test_hyps_FrameWordsInOrder :
    let f := { (collectingBlocks .collecting 1).frz with buffer := List.replicate 4 CycleRecord.empty }
    (f.trigger = some ⟨.manual, none, 42⟩ ∧ f.buffer[3]? = some CycleRecord.empty ∧ Frz.reset.trigger = none) ∧
    (frameWords f).length = 76 ∧ (frameWords f).getLast? = some ⟨0, 0xA5⟩ := by decide +kernel

theorem test_hyps_AlertFollowsSlots :
    ({ live with resetPin := true }).resetPin = true ∧ live.blocks.evq.polarity = .low ∧
      ({ live.blocks.evq with polarity := .high }).polarity = .high := by decide +kernel

end Sys2Proof.Tests
end

section
/-! SUPPORT. What the part's own work leaves of a state, and the principle by which a property passes through the
settling of the buses. -/

namespace Sys2Proof.Machine

/-! ### What is done inside the part -/

/-- What the work of LOADER and of the blocks leaves of a state: the pin, the queue, RAM, and of PATH all but the
table, protection and the snapshot. -/
structure InsideOnly (s t : State) : Prop where
  resetPin : t.resetPin = s.resetPin
  pending : t.pending = s.pending
  ram : t.ram = s.ram
  path : t.path = { s.path with
    table := t.path.table, protection := t.path.protection, snapshot := t.path.snapshot }

theorem InsideOnly.refl (s : State) : InsideOnly s s := ⟨rfl, rfl, rfl, rfl⟩

theorem InsideOnly.trans {s t u : State} (h : InsideOnly s t) (k : InsideOnly t u) : InsideOnly s u :=
  ⟨k.resetPin.trans h.resetPin, k.pending.trans h.pending, k.ram.trans h.ram, by rw [k.path, h.path]⟩

theorem InsideOnly.port {s t : State} (h : InsideOnly s t) : t.path.port = s.path.port := by rw [h.path]
theorem InsideOnly.access {s t : State} (h : InsideOnly s t) : t.path.access = s.path.access := by rw [h.path]
theorem InsideOnly.bus {s t : State} (h : InsideOnly s t) : t.path.bus = s.path.bus := by rw [h.path]
theorem InsideOnly.patience {s t : State} (h : InsideOnly s t) : t.path.patience = s.path.patience := by rw [h.path]
theorem InsideOnly.done {s t : State} (h : InsideOnly s t) : t.path.done = s.path.done := by rw [h.path]

theorem onBlocks_inside (f : Env → Blocks → Blocks) (s : State) : InsideOnly s (onBlocks f s) :=
  ⟨rfl, rfl, rfl, rfl⟩

theorem takeCommand_inside (v : Word) (s : State) : InsideOnly s (takeCommand v s) := by
  unfold takeCommand
  split
  · exact .refl s
  · unfold commandStart; split <;> exact ⟨rfl, rfl, rfl, rfl⟩
  · unfold commandStop; split <;> exact ⟨rfl, rfl, rfl, rfl⟩
  · exact ⟨rfl, rfl, rfl, rfl⟩

theorem takeSetup_inside (off : Nat) (l : Lanes) (d : Word) (s : State) : InsideOnly s (takeSetup off l d s) := by
  unfold takeSetup; dsimp only; split <;> exact ⟨rfl, rfl, rfl, rfl⟩

/-- What takes a write changes neither the buses nor RAM. -/
theorem takeWrite_inside (a : Access) (d : Word) (s : State) (f : Fate) : InsideOnly s (takeWrite a d s f) := by
  cases f with
  | command => exact takeCommand_inside d s
  | setup off => exact takeSetup_inside off a.lanes d s
  | _ => exact ⟨rfl, rfl, rfl, rfl⟩

theorem loaderRead_inside (d : Word) (s : State) : InsideOnly s (loaderRead d s) := by
  unfold loaderRead; dsimp only
  split
  · unfold endOfReading; split <;> exact ⟨rfl, rfl, rfl, rfl⟩
  · exact ⟨rfl, rfl, rfl, rfl⟩

theorem requestLeft_inside (r : Request) (s : State) : InsideOnly s (requestLeft r s) := by
  unfold requestLeft; split <;> exact ⟨rfl, rfl, rfl, rfl⟩

theorem checkStopped_inside (s : State) : InsideOnly s (checkStopped s) := by
  unfold checkStopped; split <;> exact ⟨rfl, rfl, rfl, rfl⟩

theorem makerTold_inside (r : Request) (s : State) : InsideOnly s (makerTold r s) := by
  unfold makerTold; split
  · exact onBlocks_inside _ s
  · exact requestLeft_inside r s

theorem headDone_inside (s : State) : InsideOnly s (headDone s) := by
  unfold headDone; split
  · exact .refl s
  · split
    · next r rest _ _ =>
      have h : InsideOnly s { s with blocks := { s.blocks with rpw := rest } } := ⟨rfl, rfl, rfl, rfl⟩
      exact h.trans ((makerTold_inside r _).trans (checkStopped_inside _))
    · exact .refl s

theorem frameWordDone_inside (s : State) : InsideOnly s (frameWordDone s) := by
  unfold frameWordDone; split
  · exact .refl s
  · unfold writeOutDone
    exact (onBlocks_inside _ s).trans ((checkStopped_inside _).trans (onBlocks_inside _ _))
  · exact ⟨rfl, rfl, rfl, rfl⟩

theorem loaderDone_inside (live : Bool) (a : Access) (s : State) :
    InsideOnly (freePort s) (loaderDone live a s) := by
  unfold loaderDone; split
  · exact loaderRead_inside _ _
  · exact .refl _

theorem reportDone_inside (live : Bool) (s : State) : InsideOnly (freePort s) (reportDone live s) := by
  unfold reportDone; split
  · exact headDone_inside _
  · exact .refl _

theorem freezeDone_inside (live : Bool) (s : State) : InsideOnly (freePort s) (freezeDone live s) := by
  unfold freezeDone; split
  · exact frameWordDone_inside _
  · exact .refl _

/-! ### The settling of the buses -/

/-- A property that changes of PATH outside the memory-side port, work inside the part, and grants of a free port
pass on. Unlike one that is `Kept`, it need not outlive the freeing of the port. -/
structure Settling (P : State → Prop) : Prop where
  path : ∀ s p, p.port = s.path.port → P s → P { s with path := p }
  inside : ∀ s t, InsideOnly s t → P s → P t
  grant : ∀ s u a, s.path.port = none → P s → P (grant u a s)

theorem Settling.grantSystem {P : State → Prop} (K : Settling P) {s : State} (w : Bool) (a : Access)
    (hp : s.path.port = none) (h : P s) : P (grantSystem w a s) :=
  K.grant _ _ _ hp (K.path s _ rfl h)

theorem Settling.grantTo {P : State → Prop} (K : Settling P) {s : State} (c : Claimant)
    (hp : s.path.port = none) (h : P s) : P (grantTo s c) := by
  cases c with
  | system => exact h
  | report =>
    show P (grantReport s)
    unfold grantReport; split
    · exact h
    · exact K.grant _ _ _ hp (K.inside s _ ⟨rfl, rfl, rfl, rfl⟩ h)
  | loader => exact K.grant _ _ _ hp h
  | freeze =>
    show P (grantFreeze s)
    unfold grantFreeze; split
    · exact h
    · exact K.grant _ _ _ hp h

theorem Settling.grantInternal {P : State → Prop} (K : Settling P) {s : State} (c : Claimant)
    (hp : s.path.port = none) (h : P s) : P (grantInternal c s) :=
  K.grantTo c hp (K.path s _ rfl h)

theorem Settling.decideInternal {P : State → Prop} (K : Settling P) {s : State} (h : P s) : P (decideInternal s) := by
  unfold Machine.decideInternal; split
  · next hp _ => exact K.grantInternal _ hp h
  · exact h

theorem Settling.turn {P : State → Prop} (K : Settling P) {s : State} (w : Bool) (a : Access)
    (hp : s.path.port = none) (h : P s) : P (turn w a s) := by
  unfold Machine.turn; split
  · exact K.grantSystem w a hp h
  · unfold turnWrite; dsimp only
    refine K.inside _ _ (takeWrite_inside ..) ?_
    split
    · exact K.grantSystem w a hp h
    · exact K.path s _ rfl h

theorem Settling.arbitrate {P : State → Prop} (K : Settling P) {s : State} (h : P s) : P (arbitrate s) := by
  unfold Machine.arbitrate; split
  · exact h
  · next hp =>
    split
    · unfold decideSystem; split
      · exact K.decideInternal (K.turn _ _ hp h)
      · split
        · exact K.grantInternal _ hp h
        · exact K.decideInternal (K.turn _ _ hp h)
    · exact K.decideInternal h

theorem Settling.arrive {P : State → Prop} (K : Settling P) {s : State} (a : Access) (h : P s) : P (arrive a s) := by
  unfold Machine.arrive; split
  · exact K.path _ _ rfl (K.path s _ rfl h)
  · split
    · exact K.path s _ rfl h
    · exact K.path s _ rfl h
  · exact K.path s _ rfl h

theorem Settling.settle {P : State → Prop} (K : Settling P) : ∀ (l : List Access) {s : State}, P s → P (settle l s)
  | [], s, h => K.arbitrate (K.path s _ rfl h)
  | a :: rest, s, h => by
    have h1 : P (if s.path.access.isSome then Machine.arbitrate s else s) := by
      split
      · exact K.arbitrate h
      · exact h
    unfold Machine.settle; dsimp only
    generalize (if s.path.access.isSome then Machine.arbitrate s else s) = s1 at h1
    split
    · exact K.path _ _ rfl h1
    · exact K.settle rest (K.arrive a h1)

/-! ### What every command answers -/

/-- The answer of a command: nothing has happened, or the buses settle from a state with the same RAM and queue. -/
def settlesFrom (s t : State) : Prop := t = s ∨ ∃ l x, t = settle l x ∧ x.ram = s.ram ∧ x.pending = s.pending

theorem settlesFrom_settled {s x : State} (hr : x.ram = s.ram) (hp : x.pending = s.pending) :
    settlesFrom s (settled x) := .inr ⟨_, x, rfl, hr, hp⟩

theorem accessDone_settles (c : Claimant) (f : Bool → Access → State → State) (s : State)
    (hf : ∀ live a, (f live a s).ram = s.ram ∧ (f live a s).pending = s.pending) :
    settlesFrom s (accessDone c f s) := by
  unfold accessDone; split
  · split
    · exact settlesFrom_settled (hf _ _).1 (hf _ _).2
    · exact .inl rfl
  · exact .inl rfl

theorem crankEvent_settles (f : Env → Blocks → Blocks) (s : State) : settlesFrom s (crankEvent f s) := by
  unfold crankEvent; split
  · exact .inl rfl
  · exact settlesFrom_settled rfl rfl

/-- Every command completes, and by a settling of the buses where anything happens. -/
theorem exec_settles (c : Instr) (s : State) : ∃ t, exec c s = .next t ∧ settlesFrom s t := by
  cases ha : accessOf s c with
  | some a => exact ⟨_, exec_access ha, .inr ⟨_, s, rfl, rfl, rfl⟩⟩
  | none =>
    cases c <;> simp only [accessOf, reduceCtorEq] at ha
    case resetAssert =>
      refine ⟨_, rfl, ?_⟩
      split
      · exact .inl rfl
      · exact settlesFrom_settled rfl rfl
    case resetRelease sel auto =>
      refine ⟨_, rfl, ?_⟩
      split
      · refine settlesFrom_settled ?_ ?_ <;> (unfold autoStartIf; split <;> rfl)
      · exact .inl rfl
    case forwardedAccessDone => exact ⟨_, rfl, accessDone_settles _ _ s fun _ _ => ⟨rfl, rfl⟩⟩
    case loaderReadDone => exact ⟨_, rfl, accessDone_settles _ _ s fun live a =>
      have h := loaderDone_inside live a s
      ⟨h.ram, h.pending⟩⟩
    case reportWriteDone => exact ⟨_, rfl, accessDone_settles _ _ s fun live _ =>
      have h := reportDone_inside live s
      ⟨h.ram, h.pending⟩⟩
    case freezeWriteDone => exact ⟨_, rfl, accessDone_settles _ _ s fun live _ =>
      have h := freezeDone_inside live s
      ⟨h.ram, h.pending⟩⟩
    case toothRecordTake => exact ⟨_, rfl, crankEvent_settles _ s⟩
    case stallExpiry => exact ⟨_, rfl, crankEvent_settles _ s⟩

end Sys2Proof.Machine
end

section
/-! The statements on every command's completion and on RAM (sections 1.1 and 1.4). -/

namespace Sys2Proof.Machine

/-! ### What a settling of the buses does to RAM -/

/-- Either the port was free and RAM changed only as the access now in progress writes, or port and RAM stand. The
second case is what makes the relation transitive: a grant is never followed by another. -/
def grantsOnly (s t : State) : Prop :=
  (s.path.port = none ∧ onlyPortWrites s t) ∨ (t.path.port = s.path.port ∧ t.ram = s.ram)

theorem grantsOnly.onlyPortWrites {s t : State} (h : grantsOnly s t) : onlyPortWrites s t := by
  rcases h with ⟨_, h⟩ | ⟨_, h⟩
  · exact h
  · intro n _; rw [h]

/-- While the port is free, RAM reads as it did. -/
theorem grantsOnly.ram_of_free {s t : State} (h : grantsOnly s t) (ht : t.path.port = none) :
    s.path.port = none ∧ ∀ n, ramByte t.ram n = ramByte s.ram n := by
  rcases h with ⟨hs, h⟩ | ⟨hp, hr⟩
  · exact ⟨hs, fun n => h n (by simp [ht])⟩
  · exact ⟨hp ▸ ht, fun n => by rw [hr]⟩

/-- A change that leaves port and RAM. -/
theorem grantsOnly.same {s t u : State} (h : grantsOnly s t) (hp : u.path.port = t.path.port) (hr : u.ram = t.ram) :
    grantsOnly s u := by
  rcases h with ⟨hs, h⟩ | ⟨hp', hr'⟩
  · exact .inl ⟨hs, fun n hn => by rw [hr]; exact h n (by rwa [hp] at hn)⟩
  · exact .inr ⟨hp.trans hp', hr.trans hr'⟩

theorem grantsOnly_settling (s : State) : Settling (grantsOnly s) where
  path _ _ hp h := h.same hp rfl
  inside _ _ hi h := h.same hi.port hi.ram
  grant x u a hx h := by
    obtain ⟨hs, hram⟩ := h.ram_of_free hx
    exact .inl ⟨hs, fun n hn => (grant_ram_kept n hn).trans (hram n)⟩

theorem settle_onlyPortWrites (l : List Access) (s : State) : onlyPortWrites s (settle l s) :=
  ((grantsOnly_settling s).settle l (.inr ⟨rfl, rfl⟩)).onlyPortWrites

theorem settlesFrom.onlyPortWrites {s t : State} (h : settlesFrom s t) : onlyPortWrites s t := by
  rcases h with rfl | ⟨l, x, rfl, hr, _⟩
  · exact fun _ _ => rfl
  · intro n hn; rw [← hr]; exact settle_onlyPortWrites l x n hn

theorem ramCanonical_settling : Settling ramCanonical where
  path _ _ _ h := h
  inside _ _ hi h := by unfold ramCanonical; rw [hi.ram]; exact h
  grant _ _ a _ h := ramAfter_wf a h

theorem settlesFrom.ramCanonical {s t : State} (h : settlesFrom s t) (hs : ramCanonical s) : ramCanonical t := by
  rcases h with rfl | ⟨l, x, rfl, hr, _⟩
  · exact hs
  · exact ramCanonical_settling.settle l (s := x) (by unfold Machine.ramCanonical; rw [hr]; exact hs)

/-- Settles O30: the only change of RAM is that of a grant, and the settling of the buses that ends every command
makes one grant at most. -/
theorem ramChangesAtGrants : Obligations.RamChangesAtGrants := by
  refine ⟨fun c s t ht => ?_, fun s t hs ht => ?_⟩
  · obtain ⟨t', ht', h⟩ := exec_settles c s
    obtain rfl : t' = t := by simpa [ht'] using ht
    exact h.onlyPortWrites
  · unfold step at ht
    split at ht
    · cases ht; exact (crankEvent_settles _ s).ramCanonical hs
    · next c rest _ =>
      obtain ⟨t', ht', h⟩ := exec_settles c { s with pending := rest }
      obtain rfl : t' = t := by simpa [ht'] using ht
      exact h.ramCanonical hs

/-! ### Completion -/

theorem pending_settling (q : List Instr) : Settling (fun s => s.pending = q) where
  path _ _ _ h := h
  inside _ _ hi h := hi.pending.trans h
  grant _ _ _ _ h := h

theorem settlesFrom.pending {s t : State} (h : settlesFrom s t) : t.pending = s.pending := by
  rcases h with rfl | ⟨l, x, rfl, _, hp⟩
  · rfl
  · exact (pending_settling s.pending).settle l hp

/-- Settles O2: every command answers a next state, and one that is an access does what that access does. -/
theorem everyCommandAnswersNext : Obligations.EveryCommandAnswersNext := by
  refine ⟨fun c s => ?_, fun c d s a hc hd => (exec_access hc).trans (exec_access hd).symm⟩
  obtain ⟨t, ht, h⟩ := exec_settles c s
  exact ⟨t, ht, h.pending⟩

end Sys2Proof.Machine
end

section
/-! LOADER's operations on a state: what each can do, and what it leaves. -/

namespace Sys2Proof.Machine

/-! ### Notices of the operating state -/

@[simp] theorem announceOp_tap (e : Env) (b : Blocks) : (announceOp e b).tap = b.tap := by simp [announceOp]
@[simp] theorem announceOp_crank (e : Env) (b : Blocks) : (announceOp e b).crank = b.crank := by simp [announceOp]
@[simp] theorem announceOp_seg (e : Env) (b : Blocks) : (announceOp e b).seg = b.seg := by simp [announceOp]
@[simp] theorem announceOp_knock (e : Env) (b : Blocks) : (announceOp e b).knock = b.knock := by simp [announceOp]
@[simp] theorem announceOp_frz (e : Env) (b : Blocks) : (announceOp e b).frz = b.frz := by simp [announceOp]

/-- A new operating state changes EVQ's alert state alone (R162). -/
@[simp] theorem announceOp_evq (e : Env) (b : Blocks) :
    (announceOp e b).evq = { b.evq with alert := alertOf e.op b.evq } := by
  simp [announceOp, decideAlert]

theorem announceOp_rowsKept (e : Env) (b : Blocks) : rowsKept b (announceOp e b) := by
  simp [announceOp, rowsKept]

@[simp] theorem announceOp_header_op (e : Env) (b : Blocks) : (announceOp e b).rate.header.op = e.op := by
  simp [announceOp]

/-! ### Commands -/

theorem commandStart_cases (s : State) :
    ((s.loader.op = .unconfigured ∨ s.loader.op = .stopped) ∧ commandStart s = takeStart s) ∨
      commandStart s = refuseCommand .refused s := by
  unfold commandStart; cases s.loader.op <;> simp

theorem commandStop_cases (s : State) :
    (s.loader.op = .running ∧ commandStop s = takeStop s) ∨ commandStop s = refuseCommand .refused s := by
  unfold commandStop; cases s.loader.op <;> simp

/-- What the value of a word write to the control word can do (R25): nothing, refuse, begin a load, or stop. -/
theorem takeCommand_cases (v : Word) (s : State) :
    takeCommand v s = s ∨ (∃ code, takeCommand v s = refuseCommand code s) ∨
      ((s.loader.op = .unconfigured ∨ s.loader.op = .stopped) ∧ takeCommand v s = takeStart s) ∨
      (s.loader.op = .running ∧ takeCommand v s = takeStop s) := by
  unfold takeCommand
  split
  · exact .inl rfl
  · rcases commandStart_cases s with h | h
    · exact .inr (.inr (.inl h))
    · exact .inr (.inl ⟨_, h⟩)
  · rcases commandStop_cases s with h | h
    · exact .inr (.inr (.inr h))
    · exact .inr (.inl ⟨_, h⟩)
  · exact .inr (.inl ⟨_, rfl⟩)

/-! ### Reads of a load -/

/-- LOADER after one of its reads has ended (R26). -/
def loaderAfterRead (d : Word) (l : Loader) : Loader :=
  { l with shadow := shadowSet l.readsDone d l.shadow, readsDone := l.readsDone + 1 }

/-- Before the 128th read a read changes LOADER's shadow and its count alone (R26). -/
theorem loaderRead_more {d : Word} {s : State} (h : s.loader.readsDone + 1 ≠ 128) :
    loaderRead d s = { s with loader := loaderAfterRead d s.loader } := by
  unfold loaderRead; exact if_neg h

/-- The 128th read ends the reading (R27). -/
theorem loaderRead_last {d : Word} {s : State} (h : s.loader.readsDone + 1 = 128) :
    loaderRead d s = endOfReading { s with loader := loaderAfterRead d s.loader } := by
  unfold loaderRead; exact if_pos h

theorem endOfReading_failed {s : State} {code : ResultCode} {off : Nat}
    (h : validate (setupBaseByte s.path.setupSel) s.loader.shadow = some (code, off)) :
    endOfReading s = loadFailed code off s := by
  unfold endOfReading; rw [h]

theorem endOfReading_good {s : State} (h : validate (setupBaseByte s.path.setupSel) s.loader.shadow = none) :
    endOfReading s = loadSucceeded s := by
  unfold endOfReading; rw [h]

/-- What the end of a read of LOADER can do (R26, R27): go on, fail, or succeed with a good shadow. -/
theorem loaderRead_cases (d : Word) (s : State) :
    let s1 : State := { s with loader := loaderAfterRead d s.loader }
    loaderRead d s = s1 ∨ (∃ code off, loaderRead d s = loadFailed code off s1) ∨
      (validate (setupBaseByte s.path.setupSel) s1.loader.shadow = none ∧ loaderRead d s = loadSucceeded s1) := by
  intro s1
  by_cases h : s.loader.readsDone + 1 = 128
  · rw [loaderRead_last h]
    by_cases hv : validate (setupBaseByte s1.path.setupSel) s1.loader.shadow = none
    · exact .inr (.inr ⟨hv, endOfReading_good hv⟩)
    · obtain ⟨⟨code, off⟩, hv⟩ := Option.ne_none_iff_exists'.mp hv
      exact .inr (.inl ⟨code, off, endOfReading_failed hv⟩)
  · exact .inl (loaderRead_more h)

theorem requestAll_eq (ks : List RequestKind) (b : Blocks) :
    requestAll ks b = { b with rpw := ks.foldl (fun l k => addRequest true k l) b.rpw } := by
  induction ks generalizing b with
  | nil => rfl
  | cons k ks ih => exact ih _

/-- The blocks after a good load: their START values, and the initialisation requests (R33). -/
theorem loadSucceeded_blocks (s : State) :
    (loadSucceeded s).blocks =
      { startBlocks (shadowWord s.loader.shadow) s.blocks with
        rpw := addRequest false .loadStatus
          ((initialRequests (fQueueCapacity (shadowWord s.loader.shadow))).foldl
            (fun l k => addRequest true k l) s.blocks.rpw) } := by
  simp only [loadSucceeded, requestAll_eq, request, startBlocks_rpw]

/-! ### Ends of the report writer's requests -/

/-- The list's end at a request's last word (R19): the state with the head of the list removed. -/
def headRemoved (s : State) (rest : List Request) : State := { s with blocks := { s.blocks with rpw := rest } }

theorem headDone_last {s : State} {r : Request} {rest : List Request} (h : s.blocks.rpw = r :: rest)
    (hw : requestWords r.kind ≤ r.granted) : headDone s = checkStopped (makerTold r (headRemoved s rest)) := by
  unfold headDone; rw [h]; exact if_pos hw

theorem headDone_more {s : State} {r : Request} {rest : List Request} (h : s.blocks.rpw = r :: rest)
    (hw : r.granted < requestWords r.kind) : headDone s = s := by
  unfold headDone; rw [h]; exact if_neg (by omega)

/-- What the end of a report writer's word can do: nothing, or the head leaves, its maker is told, and STOPPING may
end. -/
theorem headDone_cases (s : State) :
    headDone s = s ∨ ∃ r rest, s.blocks.rpw = r :: rest ∧ headDone s = checkStopped (makerTold r (headRemoved s rest)) := by
  cases h : s.blocks.rpw with
  | nil => exact .inl (by unfold headDone; rw [h])
  | cons r rest =>
    by_cases hw : requestWords r.kind ≤ r.granted
    · exact .inr ⟨r, rest, rfl, headDone_last h hw⟩
    · exact .inl (headDone_more h (by omega))

theorem makerTold_event {r : Request} {n : Nat} {words : Vector Word 8} (h : r.kind = .event n words) (s : State) :
    makerTold r s = onBlocks (fun e => slotReady e.op n) s := by
  unfold makerTold; rw [h]

theorem makerTold_other {r : Request} (h : ∀ n words, r.kind ≠ .event n words) (s : State) :
    makerTold r s = requestLeft r s := by
  unfold makerTold; split
  · next n words hk => exact absurd hk (h n words)
  · rfl

/-- What the maker of a request that left the list does: EVQ makes a slot READY, or LOADER may enter RUNNING. -/
theorem makerTold_cases (r : Request) (s : State) :
    makerTold r s = s ∨ (∃ n, makerTold r s = onBlocks (fun e => slotReady e.op n) s) ∨
      (s.loader.op = .loading ∧ s.loader.phase = .initialising ∧ makerTold r s = enterRunning s) := by
  by_cases h : ∃ n words, r.kind = .event n words
  · obtain ⟨n, words, h⟩ := h
    exact .inr (.inl ⟨n, makerTold_event h s⟩)
  · rw [makerTold_other (by simpa using h)]
    unfold requestLeft
    split
    · next hc => exact .inr (.inr ⟨hc.1, hc.2.1, rfl⟩)
    · exact .inl rfl

theorem checkStopped_cases (s : State) :
    checkStopped s = s ∨ (s.loader.op = .stopping ∧ s.blocks.rpw = [] ∧ s.blocks.frz.writeList = [] ∧
      checkStopped s = onBlocks announceOp { s with loader := { s.loader with op := .stopped } }) := by
  unfold checkStopped
  split
  · next h => exact .inr ⟨h.1, h.2.1, h.2.2, rfl⟩
  · exact .inl rfl

/-! ### Validation -/

/-- Every check names a word, so that a failed check gives its group a failing offset (R27). -/
theorem check_words_ne (base : Nat) : ∀ g ∈ groups base, ∀ c ∈ g.2, c.words ≠ [] := by
  have h : (groups base).all (fun g => g.2.all (fun c => !c.words.isEmpty)) = true := rfl
  simpa using h

theorem groupFailure_none {cs : List Check} {sh : Shadow} (h : groupFailure cs sh = none)
    (hw : ∀ c ∈ cs, c.words ≠ []) : ∀ c ∈ cs, checkHolds c sh = true := by
  intro c hc
  refine Classical.byContradiction fun hf => ?_
  have hmem : c ∈ cs.filter (fun c => !checkHolds c sh) := by simpa [hc] using hf
  obtain ⟨w, hw'⟩ := List.exists_mem_of_ne_nil _ (hw c hc)
  have : w ∈ (cs.filter (fun c => !checkHolds c sh)).flatMap Check.words := List.mem_flatMap.mpr ⟨c, hmem, hw'⟩
  rw [List.min?_eq_none_iff.mp h] at this
  cases this

theorem firstGroupFailure_none {sh : Shadow} : ∀ {gs : List (ResultCode × List Check)},
    firstGroupFailure sh gs = none → ∀ g ∈ gs, groupFailure g.2 sh = none
  | [], _, _, hg => nomatch hg
  | (code, cs) :: rest, h, g, hg => by
    unfold firstGroupFailure at h
    split at h
    · cases h
    · next hf =>
      rcases List.mem_cons.mp hg with rfl | hg
      · exact hf
      · exact firstGroupFailure_none h g hg

/-- A block that validation finds good satisfies every check of every group (R27). -/
theorem validate_none {base : Nat} {sh : Shadow} (h : validate base sh = none) :
    ∀ g ∈ groups base, ∀ c ∈ g.2, checkHolds c sh = true := by
  unfold validate at h
  split at h
  · cases h
  · split at h
    · cases h
    · intro g hg
      exact groupFailure_none (firstGroupFailure_none h g hg) (check_words_ne base g hg)

/-- A validated block bounds the arbiter's patience by 15 (R28). -/
theorem validate_arbBound {base : Nat} {sh : Shadow} (h : validate base sh = none) :
    fArbBound (shadowWord sh) ≤ 15 := by
  have hc := validate_none h (.badGeometry, geometryChecks) (by simp [groups])
    ⟨[11], fun r => inRange 1 15 (fArbBound r)⟩ (by simp [geometryChecks])
  have : fArbBound (checkReader [11] sh) = fArbBound (shadowWord sh) := by simp [fArbBound, checkReader]
  simp only [checkHolds, inRange, this, Bool.and_eq_true, decide_eq_true_eq] at hc
  exact hc.2

end Sys2Proof.Machine
end

section
/-! The patience count and the tooth FIFO are bounded (R16, R28, R43). -/

namespace Sys2Proof.Machine

/-! ### The window table under LOADER's operations -/

/-- A command leaves the window table, or makes it INVALID (R2). -/
theorem takeCommand_table (v : Word) (s : State) :
    (takeCommand v s).path.table = s.path.table ∨ (takeCommand v s).path.table.valid = false := by
  rcases takeCommand_cases v s with h | ⟨_, h⟩ | ⟨_, h⟩ | ⟨_, h⟩ <;> rw [h]
  · exact .inl rfl
  · exact .inl rfl
  · exact .inr rfl
  · exact .inl rfl

/-- A read of LOADER leaves the window table, or loads that of a validated block (R33). -/
theorem loaderRead_table (d : Word) (s : State) :
    (loaderRead d s).path.table = s.path.table ∨
      ∃ sh, validate (setupBaseByte s.path.setupSel) sh = none ∧
        (loaderRead d s).path.table = tableOf (shadowWord sh) := by
  rcases loaderRead_cases d s with h | ⟨_, _, h⟩ | ⟨hv, h⟩ <;> rw [h]
  · exact .inl rfl
  · exact .inl rfl
  · exact .inr ⟨_, hv, rfl⟩

@[simp] theorem takeSetup_table (off : Nat) (l : Lanes) (d : Word) (s : State) :
    (takeSetup off l d s).path.table = s.path.table := by
  unfold takeSetup; dsimp only; split <;> rfl

@[simp] theorem checkStopped_path (s : State) : (checkStopped s).path = s.path := by
  rcases checkStopped_cases s with h | ⟨_, _, _, h⟩
  · rw [h]
  · rw [h]; rfl

@[simp] theorem headDone_table (s : State) : (headDone s).path.table = s.path.table := by
  rcases headDone_cases s with h | ⟨r, rest, _, h⟩ <;> rw [h]
  rw [checkStopped_path]
  rcases makerTold_cases r (headRemoved s rest) with h | ⟨_, h⟩ | ⟨_, _, h⟩ <;> rw [h] <;> rfl

@[simp] theorem frameWordDone_path (s : State) : (frameWordDone s).path = s.path := by
  unfold frameWordDone; split
  · rfl
  · unfold writeOutDone; simp
  · rfl

/-! ### The patience count -/

theorem bound_le {s : State} (h : patienceBounded s) : bound s.path.table ≤ 15 := by
  unfold bound; split
  · next hv => exact h.2 hv
  · omega

/-- Work inside the part keeps the bounds where the table it leaves is the one found, an INVALID one, or a validated
block's. -/
theorem patienceBounded_inside {s t : State} (hi : InsideOnly s t) (h : patienceBounded s)
    (ht : t.path.table = s.path.table ∨ t.path.table.valid = false ∨ t.path.table.arbBound ≤ 15) :
    patienceBounded t := by
  refine ⟨hi.patience ▸ h.1, fun hv => ?_⟩
  rcases ht with ht | ht | ht
  · rw [ht] at hv ⊢; exact h.2 hv
  · simp [ht] at hv
  · exact ht

/-- A grant to an internal claimant, made with any patience count. -/
theorem patienceBounded_granted {s t : State} (g : Granted s t) (hp : t.path.patience = s.path.patience)
    (h : patienceBounded s) : patienceBounded t := by
  have ht : t.path.table = s.path.table := by rw [g.path]
  exact ⟨hp ▸ h.1, ht ▸ h.2⟩

theorem grantReport_patience (s : State) : (grantReport s).path.patience = s.path.patience := by
  unfold grantReport; split <;> rfl

theorem grantFreeze_patience (s : State) : (grantFreeze s).path.patience = s.path.patience := by
  unfold grantFreeze; split <;> rfl

theorem patienceBounded_kept : Kept patienceBounded where
  bus _ _ h := h
  hold _ _ h := h
  endAccess _ _ _ _ h := h
  snapshot _ _ h := h
  patience _ h := ⟨by simp, h.2⟩
  grantSystem s w a _ hw h := by
    refine ⟨?_, h.2⟩
    have hb := bound_le h
    show (if w then s.path.patience + 1 else s.path.patience) ≤ 15
    split
    · next hw' => have := hw hw'; omega
    · exact h.1
  grantReport s _ _ h := patienceBounded_granted (grantTo_kept s .report) (grantReport_patience s) h
  grantLoader _ _ _ _ h := h
  grantFreeze s _ _ h := patienceBounded_granted (grantTo_kept s .freeze) (grantFreeze_patience s) h
  command s d h := patienceBounded_inside (takeCommand_inside d s) h
    ((takeCommand_table d s).imp_right .inl)
  setup s off l d _ h := patienceBounded_inside (takeSetup_inside off l d s) h (.inl (by simp))
  tooth _ _ _ _ h := h
  knock _ _ _ _ _ h := h
  marker _ _ _ _ h := h
  slotRelease _ _ _ _ h := h
  frameRelease _ _ h := h
  protect _ h := h
  refuseSetup _ _ _ h := h
  flagClear _ _ h := h
  freePort _ h := h
  loaderRead s u _ _ _ h := by
    refine patienceBounded_inside (loaderRead_inside _ (Machine.freePort s)) h ?_
    rcases loaderRead_table (ramWord s.ram u.access.addr) (Machine.freePort s) with ht | ⟨sh, hv, ht⟩
    · exact .inl ht
    · exact .inr (.inr (by rw [ht]; exact validate_arbBound hv))
  headDone s h := patienceBounded_inside (headDone_inside s) h (.inl (by simp))
  frameWordDone s h := patienceBounded_inside (frameWordDone_inside s) h (.inl (by simp))
  takeHead _ h := h
  expireStall _ h := h
  stallTick _ h := h
  assertReset _ h := h
  releaseReset _ _ _ _ _ := ⟨by simp [Machine.releaseReset, pathReleased, Path.reset], fun hv => nomatch hv⟩
  autoStart _ _ h := ⟨h.1, fun hv => nomatch hv⟩
  pending _ _ h := h

/-! ### The tooth FIFO -/

/-- The tooth FIFO of some blocks holds at most 8 records. -/
def fifoShort (b : Blocks) : Prop := b.tap.fifo.length ≤ 8

theorem fifoShort_of_eq {b c : Blocks} (h : fifoShort b) (e : c.tap.fifo = b.tap.fifo) : fifoShort c := by
  unfold fifoShort; rw [e]; exact h

/-- The room judgement is what bounds the FIFO: a record joins only where there is room (R43). -/
theorem toothRoom_short (e : Env) (n : Nat) (k : ToothKind) (t : Stamp) {b : Blocks} (h : fifoShort b) :
    fifoShort (toothRoom e n k t b) := by
  unfold toothRoom
  split
  · next hroom =>
    have : (joinFifo k t b).tap.fifo.length = b.tap.fifo.length + 1 := by simp [joinFifo]
    unfold fifoShort; rw [this]; exact hroom
  · exact fifoShort_of_eq h (by simp)

theorem toothPosition_fifo (e : Env) (n : Nat) (b : Blocks) : (toothPosition e n b).tap.fifo = b.tap.fifo := by
  unfold toothPosition; split <;> simp

theorem toothContent_short (e : Env) (n : Nat) (d : Word) {b : Blocks} (h : fifoShort b) :
    fifoShort (toothContent e n d b) := by
  unfold toothContent; split
  · exact toothRoom_short e n _ _ h
  · exact fifoShort_of_eq h (by simp)

theorem takeTooth_short (e : Env) (a : Access) (d : Word) {b : Blocks} (h : fifoShort b) :
    fifoShort (takeTooth e a d b) := by
  have h1 : fifoShort (toothPosition e (toothSlot e a) b) := fifoShort_of_eq h (toothPosition_fifo _ _ _)
  unfold takeTooth; dsimp only; split
  · exact toothContent_short e _ d h1
  · exact fifoShort_of_eq h1 (by simp)

theorem takeKnock_fifo (e : Env) (x : Sensor) (a : Access) (d : Word) (b : Blocks) :
    (takeKnock e x a d b).tap.fifo = b.tap.fifo := by
  have hp : ∀ h w, (knockPosition e x h w b).tap.fifo = b.tap.fifo := by
    intro h w; unfold knockPosition; split <;> simp
  unfold takeKnock knockSize; dsimp only; split <;> simp [hp]

theorem takeMarker_fifo (e : Env) (a : Access) (d : Word) (b : Blocks) :
    (takeMarker e a d b).tap.fifo = b.tap.fifo := by
  have hk : ∀ k v, (takeMarkerKind e k v b).tap.fifo = b.tap.fifo := by
    intro k v; unfold takeMarkerKind; cases k <;> simp
  have hc : (markerContent e d b).tap.fifo = b.tap.fifo := by
    unfold markerContent markerFault
    split
    · split
      · exact hk _ _
      · simp
    · simp
  unfold takeMarker; split
  · exact hc
  · simp

theorem takeHead_short (e : Env) {b : Blocks} (h : fifoShort b) : fifoShort (takeHead e b) := by
  unfold takeHead; split
  · exact h
  · next r rest hf =>
    split
    · unfold fifoShort at *; rw [hf] at h
      simp only [takeRecord_tap_fifo, setFifo_fifo]
      simp at h; omega
    · exact h

theorem takeCommand_short (v : Word) {s : State} (h : fifoBounded s) : fifoBounded (takeCommand v s) := by
  rcases takeCommand_cases v s with e | ⟨_, e⟩ | ⟨_, e⟩ | ⟨_, e⟩ <;> rw [e]
  · exact h
  · exact h
  · exact fifoShort_of_eq h (by simp [takeStart, commandRequests])
  · unfold fifoBounded; simp [takeStop, stopBlocks, tapStop]

theorem refuseSetup_fifo (r : Bool) (off : Nat) (e : Env) (b : Blocks) :
    (refuseSetup r off e b).tap.fifo = b.tap.fifo := by
  unfold refuseSetup; split <;> simp

theorem takeSetup_tap (off : Nat) (l : Lanes) (d : Word) (s : State) :
    (takeSetup off l d s).blocks.tap = s.blocks.tap := by
  have ht : ∀ e b, (tunableChanged off e b).tap = b.tap := by
    intro e b; unfold tunableChanged; (repeat' split) <;> simp
  unfold takeSetup; dsimp only; split
  · rfl
  · exact ht _ _

theorem loaderRead_fifo (d : Word) {s : State} (h : fifoBounded s) : fifoBounded (loaderRead d s) := by
  rcases loaderRead_cases d s with e | ⟨_, _, e⟩ | ⟨_, e⟩ <;> rw [e]
  · exact h
  · exact fifoShort_of_eq h (by simp [loadFailed])
  · unfold fifoBounded; rw [loadSucceeded_blocks]; exact Nat.zero_le 8

theorem checkStopped_tap (s : State) : (checkStopped s).blocks.tap = s.blocks.tap := by
  rcases checkStopped_cases s with h | ⟨_, _, _, h⟩ <;> rw [h]
  exact announceOp_tap _ _

theorem headDone_tap (s : State) : (headDone s).blocks.tap = s.blocks.tap := by
  rcases headDone_cases s with h | ⟨r, rest, _, h⟩ <;> rw [h]
  rw [checkStopped_tap]
  rcases makerTold_cases r (headRemoved s rest) with h | ⟨_, h⟩ | ⟨_, _, h⟩ <;> rw [h]
  · rfl
  · rfl
  · exact announceOp_tap _ _

theorem frameWordDone_fifo (s : State) : (frameWordDone s).blocks.tap.fifo = s.blocks.tap.fifo := by
  unfold frameWordDone; split
  · rfl
  · unfold writeOutDone; simp [checkStopped_tap]
  · rfl

theorem fifoBounded_kept : Kept fifoBounded where
  bus _ _ h := h
  hold _ _ h := h
  endAccess _ _ _ _ h := h
  snapshot _ _ h := h
  patience _ h := h
  grantSystem _ _ _ _ _ h := h
  grantReport s _ _ h := fifoShort_of_eq h (by rw [(grantTo_kept s .report).blocks.1]; rfl)
  grantLoader _ _ _ _ h := h
  grantFreeze s _ _ h := fifoShort_of_eq h (by rw [(grantTo_kept s .freeze).blocks.1]; rfl)
  command _ d h := takeCommand_short d h
  setup s off l d _ h := fifoShort_of_eq h (by rw [takeSetup_tap])
  tooth _ a d _ h := takeTooth_short _ a d h
  knock _ x a d _ h := fifoShort_of_eq h (takeKnock_fifo _ x a d _)
  marker _ a d _ h := fifoShort_of_eq h (takeMarker_fifo _ a d _)
  slotRelease _ _ _ _ h := h
  frameRelease _ _ h := fifoShort_of_eq h (by simp)
  protect _ h := fifoShort_of_eq h (by simp)
  refuseSetup _ r off h := fifoShort_of_eq h (refuseSetup_fifo r off _ _)
  flagClear _ _ h := fifoShort_of_eq h (by simp)
  freePort _ h := h
  loaderRead _ _ _ _ _ h := loaderRead_fifo _ h
  headDone s h := fifoShort_of_eq h (by rw [headDone_tap])
  frameWordDone s h := fifoShort_of_eq h (frameWordDone_fifo s)
  takeHead _ h := takeHead_short _ h
  expireStall _ h := fifoShort_of_eq h (by simp)
  stallTick _ h := fifoShort_of_eq h (by simp)
  assertReset _ h := h
  releaseReset _ _ _ _ _ := Nat.zero_le 8
  autoStart _ _ h := fifoShort_of_eq h (by simp [Machine.autoStart])
  pending _ _ h := h

/-- Settles O12: each primitive change keeps the bounds, the grant to a waiting system access because it is made
below the bound in force, a tooth record's joining because there is room. -/
theorem patienceAndFifoBounded : Obligations.PatienceAndFifoBounded :=
  ⟨fun _ _ h ht => patienceBounded_kept.step h ht, fun _ _ h ht => fifoBounded_kept.step h ht⟩

end Sys2Proof.Machine
end

section
/-! LOADER's reads belong to their load, and protection follows the operating state (R7, R14, R26). -/

namespace Sys2Proof.Machine

/-- A live read of LOADER is in progress. -/
def loaderReadLive (s : State) : Prop := ∃ u, s.path.port = some u ∧ u.user = .loader ∧ u.live = true

/-- RESET is not asserted and LOADER is READING. -/
def reading (s : State) : Prop := s.resetPin = false ∧ s.loader.op = .loading ∧ s.loader.phase = .reading

theorem readsBelong_iff (s : State) : readsBelong s ↔ (loaderReadLive s → reading s) :=
  ⟨fun h ⟨u, hp, hu, hl⟩ => h u hp hu hl, fun h u hp hu hl => h ⟨u, hp, hu, hl⟩⟩

/-- Both statements together, as each change is checked against them at once; the second where `p` asks for it, since
the first holds of a state without the second. -/
structure LoadGoverned (p : Prop) (s : State) : Prop where
  reads : readsBelong s
  protection : p → protectionAgrees s

section
variable {p : Prop}

/-- A change that leaves the pin, the port, LOADER's operating state and phase, and protection. -/
theorem LoadGoverned.of_same {s t : State} (h : LoadGoverned p s) (hr : t.resetPin = s.resetPin)
    (hp : t.path.port = s.path.port) (ho : t.loader.op = s.loader.op) (hph : t.loader.phase = s.loader.phase)
    (hx : t.path.protection = s.path.protection) : LoadGoverned p t :=
  ⟨by unfold readsBelong; rw [hr, hp, ho, hph]; exact h.reads,
   by unfold protectionAgrees; rw [ho, hx]; exact h.protection⟩

/-- With no live read of LOADER in progress it is enough that protection follows. -/
theorem LoadGoverned.of_no_read {s : State} (hn : ¬ loaderReadLive s) (hx : p → protectionAgrees s) : LoadGoverned p s :=
  ⟨(readsBelong_iff s).mpr (fun h => absurd h hn), hx⟩

/-- While the operating state is another than LOADING, or the phase another than READING, LOADER has no live read. -/
theorem LoadGoverned.no_read {s : State} (h : LoadGoverned p s) (hr : ¬ reading s) : ¬ loaderReadLive s :=
  fun hl => hr ((readsBelong_iff s).mp h.reads hl)

theorem loaderReadLive_port {s t : State} (hp : t.path.port = s.path.port) : loaderReadLive t ↔ loaderReadLive s := by
  unfold loaderReadLive; rw [hp]

/-- A grant to another claimant than LOADER. -/
theorem LoadGoverned.granted {s t : State} (h : LoadGoverned p s) (g : Granted s t)
    (hp : ∀ u, t.path.port = some u → u.user ≠ .loader ∨ s.path.port = some u) : LoadGoverned p t := by
  have ho : t.loader.op = s.loader.op := by rw [g.loader]
  have hph : t.loader.phase = s.loader.phase := by rw [g.loader]
  have hx : t.path.protection = s.path.protection := by rw [g.path]
  refine ⟨fun u hu hl hlive => ?_, ?_⟩
  · have := h.reads u ((hp u hu).resolve_left (by simp [hl])) hl hlive
    rw [g.resetPin, ho, hph]; exact this
  · unfold protectionAgrees; rw [ho, hx]; exact h.protection

theorem grantReport_port (s : State) :
    (grantReport s).path.port = s.path.port ∨ ∃ a, (grantReport s).path.port = some ⟨.report, a, true⟩ := by
  unfold grantReport; split
  · exact .inl rfl
  · exact .inr ⟨_, rfl⟩

theorem grantFreeze_port (s : State) :
    (grantFreeze s).path.port = s.path.port ∨ ∃ a, (grantFreeze s).path.port = some ⟨.freeze, a, true⟩ := by
  unfold grantFreeze; split
  · exact .inl rfl
  · exact .inr ⟨_, rfl⟩

theorem loaderClaims_iff (l : Loader) :
    loaderClaims l = true ↔ l.op = .loading ∧ l.phase = .reading ∧ l.readsDone < 128 := by
  show _ ↔ _ ∧ _ ∧ l.readsDone < Config.setupWords
  simp [loaderClaims, and_assoc]

theorem takeCommand_governed (v : Word) {s : State} (h : LoadGoverned p s) : LoadGoverned p (takeCommand v s) := by
  rcases takeCommand_cases v s with e | ⟨_, e⟩ | ⟨ho, e⟩ | ⟨ho, e⟩ <;> rw [e]
  · exact h
  · exact h.of_same rfl rfl rfl rfl rfl
  · have hn : ¬ loaderReadLive s := h.no_read (fun ⟨_, hl, _⟩ => by rcases ho with ho | ho <;> simp [ho] at hl)
    exact .of_no_read ((not_congr (loaderReadLive_port rfl)).mpr hn) (fun _ => rfl)
  · have hn : ¬ loaderReadLive s := h.no_read (fun ⟨_, hl, _⟩ => by simp [ho] at hl)
    refine .of_no_read ((not_congr (loaderReadLive_port rfl)).mpr hn) ?_
    intro hp
    have hx := h.protection hp
    unfold protectionAgrees at hx ⊢; rw [ho] at hx; exact hx

theorem takeSetup_governed (off : Nat) (l : Lanes) (d : Word) {s : State} (h : LoadGoverned p s) :
    LoadGoverned p (takeSetup off l d s) := by
  unfold takeSetup; dsimp only; split <;> exact h.of_same rfl rfl rfl rfl rfl

/-- The end of a live read finds LOADER in LOADING, with protection off, and leaves it there or in UNCONFIGURED. -/
theorem loaderRead_governed (d : Word) {s : State} (hp : s.path.port = none) (ho : s.loader.op = .loading)
    (hx : p → protectionAgrees s) : LoadGoverned p (loaderRead d s) := by
  have hn : ¬ loaderReadLive (loaderRead d s) :=
    (not_congr (loaderReadLive_port (loaderRead_inside d s).port)).mpr (by simp [loaderReadLive, hp])
  refine .of_no_read hn fun hp' => ?_
  replace hx := hx hp'
  unfold protectionAgrees at hx ⊢
  rw [ho] at hx
  rcases loaderRead_cases d s with e | ⟨_, _, e⟩ | ⟨_, e⟩ <;> rw [e]
  · simpa [loaderAfterRead, ho] using hx
  · exact hx
  · simpa [loadSucceeded, loaderAfterRead, ho] using hx

theorem checkStopped_governed {s : State} (h : LoadGoverned p s) : LoadGoverned p (checkStopped s) := by
  rcases checkStopped_cases s with e | ⟨ho, _, _, e⟩ <;> rw [e]
  · exact h
  · have hn : ¬ loaderReadLive s := h.no_read (fun ⟨_, hl, _⟩ => by simp [ho] at hl)
    refine .of_no_read ((not_congr (loaderReadLive_port rfl)).mpr hn) ?_
    intro hp
    have hx := h.protection hp
    unfold protectionAgrees at hx ⊢; rw [ho] at hx; exact hx

theorem makerTold_governed (r : Request) {s : State} (h : LoadGoverned p s) : LoadGoverned p (makerTold r s) := by
  rcases makerTold_cases r s with e | ⟨_, e⟩ | ⟨_, hph, e⟩ <;> rw [e]
  · exact h
  · exact h.of_same rfl rfl rfl rfl rfl
  · have hn : ¬ loaderReadLive s := h.no_read (fun ⟨_, _, hl⟩ => by simp [hph] at hl)
    exact .of_no_read ((not_congr (loaderReadLive_port rfl)).mpr hn) (fun _ => rfl)

theorem headDone_governed {s : State} (h : LoadGoverned p s) : LoadGoverned p (headDone s) := by
  rcases headDone_cases s with e | ⟨r, rest, _, e⟩ <;> rw [e]
  · exact h
  · exact checkStopped_governed (makerTold_governed r (h.of_same rfl rfl rfl rfl rfl))

theorem frameWordDone_governed {s : State} (h : LoadGoverned p s) : LoadGoverned p (frameWordDone s) := by
  unfold frameWordDone; split
  · exact h
  · unfold writeOutDone
    have h1 := checkStopped_governed (s := onBlocks frameHeld s) (h.of_same rfl rfl rfl rfl rfl)
    exact h1.of_same rfl rfl rfl rfl rfl
  · exact h.of_same rfl rfl rfl rfl rfl

theorem loadGoverned_kept : Kept (LoadGoverned p) where
  bus _ _ h := h.of_same rfl rfl rfl rfl rfl
  hold _ _ h := h.of_same rfl rfl rfl rfl rfl
  endAccess _ _ _ _ h := h.of_same rfl rfl rfl rfl rfl
  snapshot _ _ h := h.of_same rfl rfl rfl rfl rfl
  patience _ h := h.of_same rfl rfl rfl rfl rfl
  grantSystem _ _ _ _ _ h := ⟨fun u hu hl => (by cases hu; cases hl), h.protection⟩
  grantReport s _ _ h := h.granted (grantTo_kept s .report) fun u hu => by
    rcases grantReport_port s with e | ⟨a, e⟩
    · exact .inr (e ▸ hu)
    · exact .inl (by cases e.symm.trans hu; simp)
  grantLoader s _ hr hc h := by
    obtain ⟨ho, hph, _⟩ := (loaderClaims_iff _).mp hc
    exact ⟨fun _ _ _ _ => ⟨hr, ho, hph⟩, h.protection⟩
  grantFreeze s _ _ h := h.granted (grantTo_kept s .freeze) fun u hu => by
    rcases grantFreeze_port s with e | ⟨a, e⟩
    · exact .inr (e ▸ hu)
    · exact .inl (by cases e.symm.trans hu; simp)
  command _ d h := takeCommand_governed d h
  setup _ off l d _ h := takeSetup_governed off l d h
  tooth _ _ _ _ h := h.of_same rfl rfl rfl rfl rfl
  knock _ _ _ _ _ h := h.of_same rfl rfl rfl rfl rfl
  marker _ _ _ _ h := h.of_same rfl rfl rfl rfl rfl
  slotRelease _ _ _ _ h := h.of_same rfl rfl rfl rfl rfl
  frameRelease _ _ h := h.of_same rfl rfl rfl rfl rfl
  protect _ h := h.of_same rfl rfl rfl rfl rfl
  refuseSetup _ _ _ h := h.of_same rfl rfl rfl rfl rfl
  flagClear _ _ h := h.of_same rfl rfl rfl rfl rfl
  freePort _ h := .of_no_read (by simp [loaderReadLive]) h.protection
  loaderRead s u hu hl hlive h :=
    loaderRead_governed _ rfl (h.reads u hu hl hlive).2.1 h.protection
  headDone _ h := headDone_governed h
  frameWordDone _ h := frameWordDone_governed h
  takeHead _ h := h.of_same rfl rfl rfl rfl rfl
  expireStall _ h := h.of_same rfl rfl rfl rfl rfl
  stallTick _ h := h.of_same rfl rfl rfl rfl rfl
  assertReset s h := by
    refine .of_no_read ?_ h.protection
    rintro ⟨u, hu, hl, hlive⟩
    obtain ⟨v, _, rfl⟩ := Option.map_eq_some_iff.mp hu
    simp only [cutOff] at hl hlive
    simp [hl] at hlive
  releaseReset s sel auto hr h := by
    have hn : ¬ loaderReadLive s := h.no_read (fun ⟨hl, _, _⟩ => by simp [hr] at hl)
    exact .of_no_read ((not_congr (loaderReadLive_port rfl)).mpr hn) (fun _ => rfl)
  autoStart s hl h := by
    have hn : ¬ loaderReadLive s := h.no_read (fun ⟨_, ho, _⟩ => by simp [hl, Loader.reset] at ho)
    exact .of_no_read ((not_congr (loaderReadLive_port rfl)).mpr hn) (fun _ => rfl)
  pending _ _ h := h.of_same rfl rfl rfl rfl rfl

end

/-- Settles O29: a live read of LOADER is granted in READING alone, and LOADER leaves READING only at the end of a read
or under RESET, which cuts the read off. -/
theorem loadReadsAndProtection : Obligations.LoadReadsAndProtection :=
  ⟨fun _ _ h ht => ((loadGoverned_kept (p := False)).step ⟨h, False.elim⟩ ht).reads,
   fun _ _ h hx ht => ((loadGoverned_kept (p := True)).step ⟨h, fun _ => hx⟩ ht).protection trivial⟩

end Sys2Proof.Machine
end

section
/-! The report writer's list grows by requests alone, which coalesce (R18, R20). -/

namespace Sys2Proof.Machine

/-! ### One request -/

/-- A coalesced request changes at most which requests count as initialisation requests (R20, R33). -/
theorem addRequest_coalesced {k : RequestKind} {l : List Request} (init : Bool) (hc : coalesces k = true)
    (hp : l.any (pendingOf k) = true) :
    addRequest init k l =
      l.map (fun r => if pendingOf k r then { r with initial := r.initial || init } else r) := by
  simp [addRequest, hc, hp]

/-- A request that is not coalesced joins the tail (R18, R20). -/
theorem addRequest_joins {k : RequestKind} {l : List Request} (init : Bool)
    (h : coalesces k = false ∨ l.any (pendingOf k) = false) : addRequest init k l = l ++ [⟨k, 0, init⟩] := by
  rcases h with h | h <;> simp [addRequest, h]

/-- A request coalesces, or joins the tail of a list in which none of its kind is pending or needs to be. -/
theorem addRequest_cases (init : Bool) (k : RequestKind) (l : List Request) :
    (coalesces k = true ∧ l.any (pendingOf k) = true ∧ addRequest init k l =
      l.map (fun r => if pendingOf k r then { r with initial := r.initial || init } else r)) ∨
    ((coalesces k = false ∨ l.any (pendingOf k) = false) ∧ addRequest init k l = l ++ [⟨k, 0, init⟩]) := by
  cases hc : coalesces k with
  | false => exact .inr ⟨.inl rfl, addRequest_joins init (.inl hc)⟩
  | true =>
    cases hp : l.any (pendingOf k) with
    | false => exact .inr ⟨.inr rfl, addRequest_joins init (.inr hp)⟩
    | true => exact .inl ⟨rfl, rfl, addRequest_coalesced init hc hp⟩

theorem pendingCount_eq_zero {k : RequestKind} {l : List Request} :
    pendingCount k l = 0 ↔ l.any (pendingOf k) = false := by
  simp [pendingCount, List.countP_eq_zero]

/-- Marking requests as initialisation requests leaves what is pending. -/
theorem pendingCount_marked (k j : RequestKind) (init : Bool) (l : List Request) :
    pendingCount j (l.map (fun r => if pendingOf k r then { r with initial := r.initial || init } else r)) =
      pendingCount j l := by
  unfold pendingCount
  rw [List.countP_map]
  refine List.countP_congr fun r _ => ?_
  simp only [Function.comp]; split <;> rfl

/-- Of each kind that coalesces, at most one request of a list is pending. -/
def onceEach (l : List Request) : Prop := ∀ k, coalesces k = true → pendingCount k l ≤ 1

/-- The request that joins the tail is the one pending of its kind, and is of no other kind. -/
theorem addRequest_once (init : Bool) (k : RequestKind) {l : List Request} (h : onceEach l) :
    onceEach (addRequest init k l) := by
  intro j hj
  rcases addRequest_cases init k l with ⟨_, _, e⟩ | ⟨hk, e⟩ <;> rw [e]
  · rw [pendingCount_marked]; exact h j hj
  · have happ : pendingCount j (l ++ [⟨k, 0, init⟩]) = pendingCount j l + if k = j then 1 else 0 := by
      simp [pendingCount, List.countP_append, List.countP_singleton, pendingOf]
    rw [happ]
    split
    · next hkj =>
      subst hkj
      have := pendingCount_eq_zero.mpr (hk.resolve_left (by simp [hj]))
      omega
    · exact h j hj

/-! ### What the blocks do to the list -/

/-- A list got from another by requests handed to the report writer, one after the other. -/
inductive Grown (l : List Request) : List Request → Prop where
  | refl : Grown l l
  | add (init : Bool) (k : RequestKind) {m : List Request} : Grown l m → Grown l (addRequest init k m)

theorem Grown.once {l m : List Request} (h : Grown l m) (hl : onceEach l) : onceEach m := by
  induction h with
  | refl => exact hl
  | add init k _ ih => exact addRequest_once init k ih

theorem addRequest_ne_nil (init : Bool) (k : RequestKind) (l : List Request) : addRequest init k l ≠ [] := by
  rcases addRequest_cases init k l with ⟨_, hp, e⟩ | ⟨_, e⟩ <;> rw [e]
  · intro h; rw [List.map_eq_nil_iff.mp h] at hp; simp at hp
  · simp

/-- A list that has grown is not empty where it was not. -/
theorem Grown.ne_nil {l m : List Request} (h : Grown l m) (hl : l ≠ []) : m ≠ [] := by
  cases h with
  | refl => exact hl
  | add init k _ => exact addRequest_ne_nil init k _

section
variable {l : List Request} {b : Blocks} {e : Env}

/-! Requests, the header and the rows. -/

theorem request_grown {k : RequestKind} (h : Grown l b.rpw) : Grown l (request k b).rpw := h.add false k

theorem requestMirror_grown {k : RequestKind} (h : Grown l b.rpw) : Grown l (requestMirror e k b).rpw := by
  unfold requestMirror; split
  · exact request_grown h
  · exact h

theorem tellHeader_grown {f : Header → Header} (h : Grown l b.rpw) : Grown l (tellHeader e f b).rpw := by
  unfold tellHeader; split
  · exact h
  · exact requestMirror_grown h

theorem updateRow_grown {c : Nat} {f : Row → Row} (h : Grown l b.rpw) : Grown l (updateRow e c f b).rpw :=
  requestMirror_grown h

theorem setFlag_grown {f : Flag} (h : Grown l b.rpw) : Grown l (setFlag e f b).rpw := by
  unfold setFlag; split
  · exact h
  · exact tellHeader_grown h

theorem clearFlag_grown {f : Flag} (h : Grown l b.rpw) : Grown l (clearFlag e f b).rpw := by
  unfold clearFlag; split
  · exact tellHeader_grown h
  · exact h

theorem clearFlagsOf_grown {m : Word} {fs : List Flag} (h : Grown l b.rpw) :
    Grown l (clearFlagsOf e m fs b).rpw := by
  induction fs generalizing b with
  | nil => exact h
  | cons f fs ih =>
    refine ih ?_
    split
    · exact clearFlag_grown h
    · exact h

/-! EVQ and FRZ. -/

theorem takeEvent_grown {ev : Event} (h : Grown l b.rpw) : Grown l (takeEvent e ev b).rpw := by
  unfold takeEvent; split
  · split
    · exact tellHeader_grown (request_grown h)
    · exact setFlag_grown h
  · exact h

theorem writeOut_grown (h : Grown l b.rpw) : Grown l (writeOut e b).rpw := tellHeader_grown h

theorem startCollection_grown {k : TriggerKind} {c : Option Nat} (h : Grown l b.rpw) :
    Grown l (startCollection e k c b).rpw := by
  unfold startCollection; dsimp only; split
  · exact writeOut_grown (tellHeader_grown h)
  · exact tellHeader_grown h

theorem trigger_grown {k : TriggerKind} {c : Option Nat} (h : Grown l b.rpw) :
    Grown l (trigger e k c b).rpw := by
  unfold trigger; split
  · exact h
  · split
    · exact startCollection_grown h
    · exact h
  all_goals exact h

theorem raise_grown {ev : Event} (h : Grown l b.rpw) : Grown l (raise e ev b).rpw := by
  unfold raise; split
  · unfold offerEvent; split
    · exact trigger_grown (takeEvent_grown h)
    · exact takeEvent_grown h
  · exact h

theorem raiseIf_grown {c : Bool} {ev : Event} (h : Grown l b.rpw) : Grown l (raiseIf e c ev b).rpw := by
  unfold raiseIf; split
  · exact raise_grown h
  · exact h

theorem raiseOption_grown {ev : Option Event} (h : Grown l b.rpw) : Grown l (raiseOption e ev b).rpw := by
  unfold raiseOption; split
  · exact raise_grown h
  · exact h

theorem finalNotice_grown {r : CycleRecord} (h : Grown l b.rpw) : Grown l (finalNotice e r b).rpw := by
  unfold finalNotice; split
  · split
    · dsimp only; split
      · exact writeOut_grown h
      · exact h
    · exact h
  · exact h

theorem frzLoss_grown (h : Grown l b.rpw) : Grown l (frzLoss e b).rpw := by
  unfold frzLoss; split
  · exact writeOut_grown h
  · exact h

theorem abandonCollection_grown (h : Grown l b.rpw) : Grown l (abandonCollection e b).rpw := tellHeader_grown h

theorem frzStop_grown (h : Grown l b.rpw) : Grown l (frzStop e b).rpw := by
  unfold frzStop; split
  · exact abandonCollection_grown h
  · exact h

theorem modeWrite_grown {m : FreezeMode} (h : Grown l b.rpw) : Grown l (modeWrite e m b).rpw := by
  unfold modeWrite; dsimp only; split
  · split
    · exact h
    · exact tellHeader_grown h
  · split
    · exact tellHeader_grown h
    · exact h
  · split
    · exact abandonCollection_grown h
    · exact h
  all_goals exact h

/-! RATE. -/

theorem takeSegmentResult_grown {res : SegmentResult} (h : Grown l b.rpw) :
    Grown l (takeSegmentResult e res b).rpw :=
  tellHeader_grown (updateRow_grown h)

theorem closeCylinder_grown {t : Stamp} {c : Nat} (h : Grown l b.rpw) : Grown l (closeCylinder e t c b).rpw :=
  raiseIf_grown (raiseIf_grown (updateRow_grown h))

theorem closeCylinders_grown {t : Stamp} {cs : List Nat} (h : Grown l b.rpw) :
    Grown l (closeCylinders e t cs b).rpw := by
  induction cs generalizing b with
  | nil => exact h
  | cons c cs ih => exact ih (closeCylinder_grown h)

theorem rateCycleStart_grown {t : Stamp} (h : Grown l b.rpw) : Grown l (rateCycleStart e t b).rpw := by
  unfold rateCycleStart; dsimp only; split
  · exact tellHeader_grown h
  · exact closeCylinders_grown (tellHeader_grown h)

/-! SEG. -/

theorem makeFinal_grown {i : Fin 24} (h : Grown l b.rpw) : Grown l (makeFinal e i b).rpw := finalNotice_grown h

theorem finaliseClosed_grown {keep : Option (Fin 24)} {is : List (Fin 24)} (h : Grown l b.rpw) :
    Grown l (finaliseClosed e keep is b).rpw := by
  induction is generalizing b with
  | nil => exact h
  | cons i is ih =>
    refine ih ?_
    split
    · exact makeFinal_grown h
    · exact h

theorem fileSegment_grown {o : Option (Fin 24)} {m : Measures} {c : SegClass} (h : Grown l b.rpw) :
    Grown l (fileSegment e o m c b).rpw := by
  unfold fileSegment; split
  · exact h
  · dsimp only; split
    · exact finaliseClosed_grown h
    · exact h

theorem finishSegment_grown {o : Option (Fin 24)} {m : Measures} {c : SegClass} {t : Stamp} (h : Grown l b.rpw) :
    Grown l (finishSegment e o m c t b).rpw :=
  raiseIf_grown (takeSegmentResult_grown (fileSegment_grown h))

theorem segEnd_grown {t : Stamp} (h : Grown l b.rpw) : Grown l (segEnd e t b).rpw := by
  unfold segEnd; split
  · exact h
  · exact finishSegment_grown h

theorem segLoss_grown (h : Grown l b.rpw) : Grown l (segLoss e b).rpw := finaliseClosed_grown h

/-! KNOCK. -/

theorem fileWindow_grown {j : Nat} {v : WindowVerdict} (h : Grown l b.rpw) : Grown l (fileWindow j v b).rpw := by
  unfold fileWindow; split <;> exact h

theorem finishWindow_grown {w : KnockWindow} {v : WindowVerdict} {t : Stamp} (h : Grown l b.rpw) :
    Grown l (finishWindow e w v t b).rpw :=
  raiseOption_grown (updateRow_grown (fileWindow_grown h))

theorem knockClose_grown {t : Stamp} (h : Grown l b.rpw) : Grown l (knockClose e t b).rpw := by
  unfold knockClose; split
  · exact h
  · exact finishWindow_grown h

/-! CRANK. -/

theorem moveCrank_grown {c : Crank} (h : Grown l b.rpw) : Grown l (moveCrank e c b).rpw := tellHeader_grown h

theorem lossNotices_grown (h : Grown l b.rpw) : Grown l (lossNotices e b).rpw := by
  unfold lossNotices
  refine frzLoss_grown ?_
  rw [dropWindow_rpw]; exact segLoss_grown h

theorem loseTo_grown {c : Crank} {ev : Event} (h : Grown l b.rpw) : Grown l (loseTo e c ev b).rpw := by
  unfold loseTo; split
  · exact tellHeader_grown (raise_grown (lossNotices_grown h))
  · exact moveCrank_grown h

theorem lossOfSync_grown {r : LossReason} {o : Option Stamp} {n : Nat} {t : Stamp} (h : Grown l b.rpw) :
    Grown l (lossOfSync e r o n t b).rpw := loseTo_grown h

theorem glitchTooth_grown {t : Stamp} (h : Grown l b.rpw) : Grown l (glitchTooth e t b).rpw := by
  unfold glitchTooth; split
  · exact lossOfSync_grown h
  · exact h

theorem countUnphased_grown {t : Stamp} (h : Grown l b.rpw) : Grown l (countUnphased e t b).rpw := by
  unfold countUnphased; dsimp only; split
  · exact raise_grown h
  · exact h

theorem phaseLoss_grown {t : Stamp} (h : Grown l b.rpw) : Grown l (phaseLoss e t b).rpw :=
  tellHeader_grown (raise_grown (lossNotices_grown h))

theorem spanAt_grown {t : Stamp} (h : Grown l b.rpw) : Grown l (spanAt e t b).rpw := by
  have hm : Grown l (spanMissing e t b).rpw := by
    unfold spanMissing; split
    · exact raise_grown h
    · exact h
  unfold spanAt; split
  · unfold judgeSpan closeSpan; split
    · exact phaseLoss_grown hm
    · exact hm
  · exact h

/-- An effect where a firing position matches grows the list where the effect does. -/
theorem atPosition_grown {o : Option Nat} {f : Nat → Blocks → Blocks} (hf : ∀ k, Grown l (f k b).rpw)
    (h : Grown l b.rpw) : Grown l (atPosition o f b).rpw := by
  unfold atPosition; split
  · exact hf _
  · exact h

theorem handOn_grown {p : Nat} {t : Stamp} (h : Grown l b.rpw) : Grown l (handOn e p t b).rpw := by
  have h1 := atPosition_grown (o := positionAt e.reader segmentBoundary p) (f := fun _ => segEnd e t)
    (fun _ => segEnd_grown h) h
  have h2 := atPosition_grown (o := positionAt e.reader windowClose p) (f := fun _ => knockClose e t)
    (fun _ => knockClose_grown h1) h1
  unfold handOn; dsimp only
  generalize atPosition (positionAt e.reader windowClose p) _ _ = b2 at h2
  have h3 : Grown l (if positionAt e.reader segmentBoundary p = some 0 then cycleStart e t b2 else b2).rpw := by
    split
    · exact rateCycleStart_grown h2
    · exact h2
  have h4 := atPosition_grown (o := positionAt e.reader segmentBoundary p) (f := fun k => segStart e k t)
    (fun _ => h3) h3
  exact atPosition_grown (f := fun j => knockOpen e j) (fun _ => h4) h4

theorem toothHunt_grown {t : Stamp} {p : Nat} (h : Grown l b.rpw) : Grown l (toothHunt e t p b).rpw := by
  unfold toothHunt; split
  · exact h
  · exact moveCrank_grown h
  · exact h
  · exact glitchTooth_grown h

theorem toothVerify_grown {t : Stamp} {p : Nat} (h : Grown l b.rpw) : Grown l (toothVerify e t p b).rpw := by
  unfold toothVerify; split
  · split
    · exact h
    · exact moveCrank_grown h
  · split <;> exact moveCrank_grown h
  · exact moveCrank_grown h
  · exact glitchTooth_grown h

theorem toothCrankSync_grown {t : Stamp} {p : Nat} (h : Grown l b.rpw) :
    Grown l (toothCrankSync e t p b).rpw := by
  unfold toothCrankSync; split
  · split
    · exact h
    · exact lossOfSync_grown h
  · split
    · exact countUnphased_grown h
    · exact lossOfSync_grown h
  · exact lossOfSync_grown h
  · exact glitchTooth_grown h

theorem toothPhased_grown {t : Stamp} {p : Nat} (h : Grown l b.rpw) : Grown l (toothPhased e t p b).rpw := by
  unfold toothPhased; split
  · split
    · exact lossOfSync_grown h
    · exact handOn_grown h
  · split
    · unfold handOnIfPhased; split
      · exact handOn_grown (spanAt_grown h)
      · exact spanAt_grown h
    · exact lossOfSync_grown h
  · exact lossOfSync_grown h
  · exact glitchTooth_grown h

theorem tooth_grown {t : Stamp} (h : Grown l b.rpw) : Grown l (tooth e t b).rpw := by
  unfold tooth; split
  · unfold toothFirst; split
    · exact moveCrank_grown h
    · exact h
  · split
    · unfold toothWide; split
      · exact moveCrank_grown h
      · exact h
      · exact moveCrank_grown h
      · exact lossOfSync_grown h
      · exact lossOfSync_grown h
    · unfold toothPeriod; split
      · exact moveCrank_grown h
      · exact toothHunt_grown h
      · exact toothVerify_grown h
      · exact toothCrankSync_grown h
      · exact toothPhased_grown h

theorem camEdge_grown {k : ToothKind} {t : Stamp} (h : Grown l b.rpw) : Grown l (camEdge e k t b).rpw := by
  unfold camEdge; dsimp only; split
  · split
    · exact h
    · exact h
    · exact h
    · exact tellHeader_grown (raise_grown h)
    · split
      · unfold edgeRev0; dsimp only; split
        · exact raise_grown h
        · exact h
      · exact raise_grown h
  · exact h

theorem takeHead_grown (h : Grown l b.rpw) : Grown l (takeHead e b).rpw := by
  unfold takeHead; split
  · exact h
  · next r rest _ =>
    split
    · have hn : Grown l (takeNote e r (setFifo rest b)).rpw := by
        unfold takeNote; split
        · exact h
        · exact h
        · exact lossOfSync_grown h
        · exact lossOfSync_grown h
      unfold takeRecord takeKind; split
      · exact tooth_grown hn
      · exact camEdge_grown hn
      · exact camEdge_grown hn
    · exact h

theorem stallExpiry_grown (h : Grown l b.rpw) : Grown l (stallExpiry e b).rpw := loseTo_grown h

theorem expireStall_grown (h : Grown l b.rpw) : Grown l (expireStall e b).rpw := by
  unfold expireStall; split
  · exact h
  · exact stallExpiry_grown h

theorem stallTick_grown (h : Grown l b.rpw) : Grown l (stallTick e b).rpw := by
  unfold stallTick; split
  · exact h
  · split
    · exact stallExpiry_grown h
    · exact h

theorem syncResetRequest_grown (h : Grown l b.rpw) : Grown l (syncResetRequest e b).rpw := by
  unfold syncResetRequest; split
  · exact h
  · exact lossOfSync_grown h

/-! TAP. -/

theorem streamFault_grown {f : StreamFaultKind} {v w : Word} (h : Grown l b.rpw) :
    Grown l (streamFault e f v w b).rpw := by
  unfold streamFault; split
  · exact h
  · exact raise_grown (setFlag_grown h)

theorem takeTooth_grown {a : Access} {d : Word} (h : Grown l b.rpw) : Grown l (takeTooth e a d b).rpw := by
  have hp : Grown l (toothPosition e (toothSlot e a) b).rpw := by
    unfold toothPosition; split
    · exact streamFault_grown h
    · exact h
  unfold takeTooth; dsimp only; split
  · unfold toothContent; split
    · unfold toothRoom; split
      · exact hp
      · exact streamFault_grown hp
    · exact streamFault_grown hp
  · exact streamFault_grown hp

theorem takeKnock_grown {x : Sensor} {a : Access} {d : Word} (h : Grown l b.rpw) :
    Grown l (takeKnock e x a d b).rpw := by
  have hp : ∀ n w, Grown l (knockPosition e x n w b).rpw := by
    intro n w; unfold knockPosition; split
    · exact streamFault_grown h
    · exact h
  unfold takeKnock knockSize; dsimp only; split
  · exact hp _ _
  · exact hp _ _
  · exact streamFault_grown (hp _ _)

theorem takeMarker_grown {a : Access} {d : Word} (h : Grown l b.rpw) : Grown l (takeMarker e a d b).rpw := by
  unfold takeMarker; split
  · unfold markerContent; split
    · split
      · unfold takeMarkerKind; split
        · exact tellHeader_grown h
        · exact tellHeader_grown h
        · exact tellHeader_grown h
        · exact syncResetRequest_grown h
        · exact trigger_grown h
      · exact streamFault_grown h
    · exact streamFault_grown h
  · exact streamFault_grown h

/-! LOADER. -/

theorem announceOp_grown (h : Grown l b.rpw) : Grown l (announceOp e b).rpw := by
  unfold announceOp; rw [decideAlert_rpw]; exact tellHeader_grown (request_grown h)

theorem commandRequests_grown (h : Grown l b.rpw) : Grown l (commandRequests b).rpw :=
  request_grown (request_grown h)

theorem stopBlocks_grown (h : Grown l b.rpw) : Grown l (stopBlocks e b).rpw :=
  frzStop_grown (b := dropWindow (dropSegment (crankStop e (tapStop b)))) (moveCrank_grown (b := tapStop b) h)

theorem refuseSetup_grown {r : Bool} {off : Nat} (h : Grown l b.rpw) : Grown l (refuseSetup r off e b).rpw := by
  unfold refuseSetup; split
  · exact h
  · exact raise_grown (setFlag_grown h)

theorem tunableChanged_grown {off : Nat} (h : Grown l b.rpw) : Grown l (tunableChanged off e b).rpw := by
  unfold tunableChanged; split
  · exact h
  · split
    · exact modeWrite_grown h
    · exact h

end

/-! ### What LOADER's operations on a state do to the list -/

theorem takeCommand_grown (v : Word) (s : State) : Grown s.blocks.rpw (takeCommand v s).blocks.rpw := by
  rcases takeCommand_cases v s with e | ⟨_, e⟩ | ⟨_, e⟩ | ⟨_, e⟩ <;> rw [e]
  · exact .refl
  · exact commandRequests_grown .refl
  · exact announceOp_grown (commandRequests_grown .refl)
  · exact stopBlocks_grown (announceOp_grown (commandRequests_grown .refl))

theorem takeSetup_grown (off : Nat) (l : Lanes) (d : Word) (s : State) :
    Grown s.blocks.rpw (takeSetup off l d s).blocks.rpw := by
  unfold takeSetup; dsimp only; split
  · exact .refl
  · exact tunableChanged_grown .refl

/-- What takes a write hands the report writer requests, and does nothing else to its list. -/
theorem takeWrite_grown (a : Access) (d : Word) (s : State) (f : Fate) :
    Grown s.blocks.rpw (takeWrite a d s f).blocks.rpw := by
  cases f with
  | command => exact takeCommand_grown d s
  | setup off => exact takeSetup_grown off a.lanes d s
  | tooth => exact takeTooth_grown .refl
  | knock x => exact takeKnock_grown .refl
  | marker => exact takeMarker_grown .refl
  | frameRelease => exact tellHeader_grown .refl
  | protect => exact setFlag_grown .refl
  | refuseSetup r off => exact refuseSetup_grown .refl
  | flagClear => exact clearFlagsOf_grown .refl
  | _ => exact .refl

theorem foldl_addRequest_grown {l m : List Request} (init : Bool) (ks : List RequestKind) (h : Grown l m) :
    Grown l (ks.foldl (fun q k => addRequest init k q) m) := by
  induction ks generalizing m with
  | nil => exact h
  | cons k ks ih => exact ih (h.add init k)

theorem loaderRead_grown (d : Word) (s : State) : Grown s.blocks.rpw (loaderRead d s).blocks.rpw := by
  rcases loaderRead_cases d s with e | ⟨_, _, e⟩ | ⟨_, e⟩ <;> rw [e]
  · exact .refl
  · exact announceOp_grown .refl
  · rw [loadSucceeded_blocks]; exact .add _ _ (foldl_addRequest_grown true _ .refl)

theorem checkStopped_grown (s : State) : Grown s.blocks.rpw (checkStopped s).blocks.rpw := by
  rcases checkStopped_cases s with e | ⟨_, _, _, e⟩ <;> rw [e]
  · exact .refl
  · exact announceOp_grown .refl

theorem makerTold_grown (r : Request) (s : State) : Grown s.blocks.rpw (makerTold r s).blocks.rpw := by
  rcases makerTold_cases r s with e | ⟨_, e⟩ | ⟨_, _, e⟩ <;> rw [e]
  · exact .refl
  · exact .refl
  · exact announceOp_grown .refl

theorem Grown.trans {l m n : List Request} (h : Grown l m) (k : Grown m n) : Grown l n := by
  induction k with
  | refl => exact h
  | add init j _ ih => exact ih.add init j

theorem frameWordDone_grown (s : State) : Grown s.blocks.rpw (frameWordDone s).blocks.rpw := by
  unfold frameWordDone; split
  · exact .refl
  · have hf : Grown s.blocks.rpw (onBlocks frameHeld s).blocks.rpw := tellHeader_grown .refl
    exact raise_grown (hf.trans (checkStopped_grown (onBlocks frameHeld s)))
  · exact .refl

/-! ### The invariant -/

theorem onceEach_tail {r : Request} {rest : List Request} (h : onceEach (r :: rest)) : onceEach rest := by
  intro k hk
  have := h k hk
  simp only [pendingCount, List.countP_cons] at this ⊢
  omega

/-- A request that is begun is no longer pending. -/
theorem onceEach_begun {r : Request} {rest : List Request} (h : onceEach (r :: rest)) :
    onceEach ({ r with granted := r.granted + 1 } :: rest) := by
  intro k hk
  have := onceEach_tail h k hk
  simpa [pendingCount, pendingOf] using this

theorem grantReport_once {s : State} (h : pendingOnce s) : pendingOnce (grantReport s) := by
  unfold grantReport; split
  · exact h
  · next r rest hl => exact onceEach_begun (r := r) (rest := rest) (hl ▸ h)

theorem headDone_once {s : State} (h : pendingOnce s) : pendingOnce (headDone s) := by
  rcases headDone_cases s with e | ⟨r, rest, hl, e⟩ <;> rw [e]
  · exact h
  · have hr : onceEach rest := onceEach_tail (r := r) (hl ▸ h)
    exact ((makerTold_grown r (headRemoved s rest)).trans (checkStopped_grown _)).once hr

theorem pendingOnce_kept : Kept pendingOnce where
  bus _ _ h := h
  hold _ _ h := h
  endAccess _ _ _ _ h := h
  snapshot _ _ h := h
  patience _ h := h
  grantSystem _ _ _ _ _ h := h
  grantReport _ _ _ h := grantReport_once h
  grantLoader _ _ _ _ h := h
  grantFreeze s _ _ h := by unfold Machine.grantFreeze; split <;> exact h
  command s d h := (takeCommand_grown d s).once h
  setup s off l d _ h := (takeSetup_grown off l d s).once h
  tooth _ _ _ _ h := (takeTooth_grown .refl).once h
  knock _ _ _ _ _ h := (takeKnock_grown .refl).once h
  marker _ _ _ _ h := (takeMarker_grown .refl).once h
  slotRelease _ _ _ _ h := h
  frameRelease _ _ h := (tellHeader_grown .refl : Grown _ (releaseFrame _ _).rpw).once h
  protect _ h := (setFlag_grown .refl).once h
  refuseSetup _ _ _ h := (refuseSetup_grown .refl).once h
  flagClear _ _ h := (clearFlagsOf_grown .refl).once h
  freePort _ h := h
  loaderRead _ u _ _ _ h := (loaderRead_grown _ (Machine.freePort _)).once h
  headDone _ h := headDone_once h
  frameWordDone s h := (frameWordDone_grown s).once h
  takeHead _ h := (takeHead_grown .refl).once h
  expireStall _ h := (expireStall_grown .refl).once h
  stallTick _ h := (stallTick_grown .refl).once h
  assertReset _ _ := fun _ _ => Nat.zero_le 1
  releaseReset _ _ _ _ _ := fun _ _ => Nat.zero_le 1
  autoStart _ _ h := (announceOp_grown .refl).once h
  pending _ _ h := h

/-- The kinds that never coalesce (R20). -/
theorem coalesces_false_iff (k : RequestKind) :
    coalesces k = false ↔ (∃ s w, k = .event s w) ∨ (∃ s, k = .slotEmpty s) ∨ k = .frameEmpty := by
  cases k <;> simp [coalesces]

/-- A coalesced request leaves the kinds and the progress of the list. -/
theorem addRequest_coalesced_keeps {k : RequestKind} {l : List Request} (init : Bool) (hc : coalesces k = true)
    (hp : pendingCount k l ≠ 0) :
    (addRequest init k l).map (fun r => (r.kind, r.granted)) = l.map (fun r => (r.kind, r.granted)) ∧
      (init = false → addRequest init k l = l) := by
  rw [addRequest_coalesced init hc (by simpa [pendingCount_eq_zero] using hp)]
  refine ⟨?_, ?_⟩
  · rw [List.map_map]
    refine List.map_congr_left fun r _ => ?_
    simp only [Function.comp]; split <;> rfl
  · rintro rfl
    simp

/-- Settles O15: the blocks touch the list by requests alone, a request joins the tail only where none of its kind is
pending, and a grant or an end lessens what is pending. -/
theorem requestsCoalesce : Obligations.RequestsCoalesce :=
  ⟨fun init k _ =>
    ⟨fun hc hp => addRequest_coalesced_keeps init hc hp,
     fun h => addRequest_joins init (h.imp_right pendingCount_eq_zero.mp),
     coalesces_false_iff k⟩,
   fun _ _ h ht => pendingOnce_kept.step h ht⟩

end Sys2Proof.Machine
end

section
/-! Resets, idle steps, the buses and the arbiter (R3, R14 to R17, R76). -/

namespace Sys2Proof.Machine

/-! ### Steps that do nothing -/

/-- Blocks that an operation leaves, it leaves in the state. -/
theorem onBlocks_id {f : Env → Blocks → Blocks} {s : State} (h : f s.env s.blocks = s.blocks) : onBlocks f s = s := by
  unfold onBlocks; rw [h]

/-- An event of CRANK that changes no block, where the arbiter has nothing to decide. -/
theorem crankEvent_id {f : Env → Blocks → Blocks} {s : State} (hq : quietPorts s)
    (h : f s.env s.blocks = s.blocks) : crankEvent f s = s := by
  unfold crankEvent; rw [onBlocks_id h, settled_quiet hq, ite_self]

theorem crankEvent_reset (f : Env → Blocks → Blocks) {s : State} (h : s.resetPin = true) : crankEvent f s = s := by
  unfold crankEvent; exact if_pos h

theorem crankEvent_run (f : Env → Blocks → Blocks) {s : State} (h : s.resetPin = false) :
    crankEvent f s = settled (onBlocks f s) := by
  unfold crankEvent; exact if_neg (by simp [h])

theorem crankEvent_congr {f g : Env → Blocks → Blocks} {s : State} (h : f s.env s.blocks = g s.env s.blocks) :
    crankEvent f s = crankEvent g s := by
  unfold crankEvent onBlocks; rw [h]

theorem stallTick_halted {e : Env} {b : Blocks} (h : b.crank.stall = .halted) : stallTick e b = b := by
  unfold stallTick; rw [h]

theorem expireStall_halted {e : Env} {b : Blocks} (h : b.crank.stall = .halted) : expireStall e b = b := by
  unfold expireStall; rw [h]

/-- A unit of part time below the timeout is counted (R76). -/
theorem stallTick_counts {e : Env} {b : Blocks} {n : Nat} (h : b.crank.stall = .running n)
    (hn : n + 1 < fStallTimeout e.reader) :
    stallTick e b = setCrank { b.crank with stall := .running (n + 1) } b := by
  unfold stallTick; rw [h]; exact if_neg (by omega)

/-- A unit of part time at the timeout expires the timer (R76). -/
theorem stallTick_expires {e : Env} {b : Blocks} {n : Nat} (h : b.crank.stall = .running n)
    (hn : fStallTimeout e.reader ≤ n + 1) : stallTick e b = expireStall e b := by
  unfold stallTick expireStall; rw [h]; exact if_pos hn

theorem takeHead_none {e : Env} {b : Blocks} (h : b.tap.fifo = [] ∨ e.op ≠ .running) : takeHead e b = b := by
  unfold takeHead; split
  · rfl
  · next hf => exact if_neg (h.resolve_left (by simp [hf]))

theorem step_idle {s : State} (h : s.pending = []) : step s = .next (crankEvent stallTick s) := by
  unfold step; rw [h]; rfl

/-- The end of an access that is not in progress. -/
theorem accessDone_none {c : Claimant} {f : Bool → Access → State → State} {s : State}
    (h : ∀ u, s.path.port = some u → u.user ≠ c) : accessDone c f s = s := by
  unfold accessDone; split
  · next u hu => exact if_neg (h u hu)
  · rfl

/-- The end of the access in progress: its effects, and then the buses settle. -/
theorem accessDone_some {c : Claimant} {f : Bool → Access → State → State} {s : State} {a : Access} {live : Bool}
    (h : s.path.port = some ⟨c, a, live⟩) : accessDone c f s = settled (f live a s) := by
  unfold accessDone; rw [h]; exact if_pos rfl

theorem quietPorts_crank {s : State} (c : Crank) (h : quietPorts s) :
    quietPorts (onBlocks (fun _ => setCrank c) s) := h

/-! What each command that is no access answers. -/

theorem exec_resetAssert (s : State) :
    exec .resetAssert s = .next (if s.resetPin then s else settled (assertReset s)) := rfl
theorem exec_resetRelease (sel : BitVec 4) (auto : Bool) (s : State) :
    exec (.resetRelease sel auto) s =
      .next (if s.resetPin then settled (autoStartIf (releaseReset sel auto s)) else s) := rfl
theorem exec_forwardedAccessDone (s : State) :
    exec .forwardedAccessDone s = .next (accessDone .system (fun _ => systemDone) s) := rfl
theorem exec_loaderReadDone (s : State) : exec .loaderReadDone s = .next (accessDone .loader loaderDone s) := rfl
theorem exec_reportWriteDone (s : State) :
    exec .reportWriteDone s = .next (accessDone .report (fun live _ => reportDone live) s) := rfl
theorem exec_freezeWriteDone (s : State) :
    exec .freezeWriteDone s = .next (accessDone .freeze (fun live _ => freezeDone live) s) := rfl
theorem exec_toothRecordTake (s : State) : exec .toothRecordTake s = .next (crankEvent takeHead s) := rfl
theorem exec_stallExpiry (s : State) : exec .stallExpiry s = .next (crankEvent expireStall s) := rfl

/-- The idle clauses of O3: part time passes at the stall timer alone. -/
theorem step_idle_quiet {s : State} (hp : s.pending = []) (hr : s.resetPin = false) (hq : quietPorts s) :
    (s.blocks.crank.stall = .halted → step s = .next s) ∧
      ∀ n, s.blocks.crank.stall = .running n →
        (n + 1 < fStallTimeout s.setup →
          step s = .next { s with blocks := { s.blocks with crank :=
            { s.blocks.crank with stall := .running (n + 1) } } }) ∧
        (fStallTimeout s.setup ≤ n + 1 → step s = exec .stallExpiry s) := by
  rw [step_idle hp, exec_stallExpiry]
  refine ⟨fun hs => by rw [crankEvent_id hq (stallTick_halted hs)], fun n hs => ⟨fun hn => ?_, fun hn => ?_⟩⟩
  · have ht : onBlocks stallTick s = onBlocks (fun _ => setCrank { s.blocks.crank with stall := .running (n + 1) }) s := by
      unfold onBlocks; rw [stallTick_counts (e := s.env) hs hn]
    rw [crankEvent_run _ hr, ht, settled_quiet (quietPorts_crank _ hq)]; rfl
  · rw [crankEvent_congr (stallTick_expires (e := s.env) hs hn)]

/-- Settles O3: each such event finds nothing to change, and with quiet ports the buses have nothing to settle. -/
theorem idleAndImpossibleSteps : Obligations.IdleAndImpossibleSteps := by
  refine ⟨fun s hp => ⟨fun hr => by rw [step_idle hp, crankEvent_reset _ hr], step_idle_quiet hp⟩,
    fun s => ⟨fun hr => ⟨?_, ?_, ?_⟩, fun hr sel auto => ?_, fun h => ?_, fun h => ?_, fun h => ?_, fun h => ?_,
      fun hq h => ?_, fun hq h => ?_⟩⟩
  · rw [exec_resetAssert, if_pos hr]
  · rw [exec_toothRecordTake, crankEvent_reset _ hr]
  · rw [exec_stallExpiry, crankEvent_reset _ hr]
  · rw [exec_resetRelease, if_neg (by simp [hr])]
  · rw [exec_forwardedAccessDone, accessDone_none h]
  · rw [exec_loaderReadDone, accessDone_none h]
  · rw [exec_reportWriteDone, accessDone_none h]
  · rw [exec_freezeWriteDone, accessDone_none h]
  · rw [exec_toothRecordTake, crankEvent_id hq (takeHead_none h)]
  · rw [exec_stallExpiry, crankEvent_id hq (expireStall_halted h)]

end Sys2Proof.Machine
end

section
/-! Rules for claims, grants, turns and ends of accesses, which the statements on single commands share (R14 to R17). -/

namespace Sys2Proof.Machine

/-! ### Claims (R14, R15) -/

theorem firstInternal_reset_none {s : State} (h : s.resetPin = true) : firstInternal s = none := by
  unfold firstInternal; exact if_pos h

theorem firstInternal_of_report {s : State} (hr : s.resetPin = false) (h : s.blocks.rpw ≠ []) :
    firstInternal s = some .report := by
  simp [firstInternal, hr, h]

theorem firstInternal_of_loader {s : State} (hr : s.resetPin = false) (h : s.blocks.rpw = [])
    (hl : loaderClaims s.loader = true) : firstInternal s = some .loader := by
  simp [firstInternal, hr, h, hl]

theorem firstInternal_of_freeze {s : State} (hr : s.resetPin = false) (h : s.blocks.rpw = [])
    (hl : loaderClaims s.loader = false) (hf : s.blocks.frz.writeList ≠ []) : firstInternal s = some .freeze := by
  simp [firstInternal, hr, h, hl, hf]

theorem firstInternal_of_none {s : State} (h : s.blocks.rpw = []) (hl : loaderClaims s.loader = false)
    (hf : s.blocks.frz.writeList = []) : firstInternal s = none := by
  simp [firstInternal, h, hl, hf]

/-- Some internal claim is held exactly where RESET is not asserted and one of the three holds one. -/
theorem firstInternal_ne_none {s : State} :
    firstInternal s ≠ none ↔ s.resetPin = false ∧
      (s.blocks.rpw ≠ [] ∨ loaderClaims s.loader = true ∨ s.blocks.frz.writeList ≠ []) := by
  unfold firstInternal
  cases s.resetPin <;> by_cases h : s.blocks.rpw = [] <;> by_cases hl : loaderClaims s.loader = true <;>
    by_cases hf : s.blocks.frz.writeList = [] <;> simp [h, hl, hf]

/-- An internal claimant's claim is one of three, and the list it claims for is not empty. -/
theorem firstInternal_claims {s : State} {c : Claimant} (h : firstInternal s = some c) :
    (c = .report ∧ s.blocks.rpw ≠ []) ∨ c = .loader ∨ (c = .freeze ∧ s.blocks.frz.writeList ≠ []) := by
  unfold firstInternal at h
  split at h
  · cases h
  · split at h
    · next hr => cases h; exact .inl ⟨rfl, hr⟩
    · split at h
      · cases h; exact .inr (.inl rfl)
      · split at h
        · next hf => cases h; exact .inr (.inr ⟨rfl, hf⟩)
        · cases h

theorem firstInternal_ne_system {s : State} {c : Claimant} (h : firstInternal s = some c) : c ≠ .system := by
  rcases firstInternal_claims h with ⟨rfl, _⟩ | rfl | ⟨rfl, _⟩ <;> simp

/-! ### Grants to internal claimants -/

/-- The grant to the report writer, of the next word of the request at the head (R19). -/
theorem grantReport_cons {s : State} {r : Request} {rest : List Request} (h : s.blocks.rpw = r :: rest) :
    grantReport s =
      grant .report (wordWrite (requestWord s r.granted r.kind))
        { s with
          loader := shadowAtReport r.kind (requestWord s r.granted r.kind).2 s.loader
          blocks := { s.blocks with rpw := { r with granted := r.granted + 1 } :: rest } } := by
  unfold grantReport; rw [h]

/-- A claim that is held is granted, and the patience count becomes 0 (R15). -/
theorem grantInternal_port {s : State} {c : Claimant} (h : firstInternal s = some c) :
    ∃ x, (grantInternal c s).path.port = some ⟨c, x, true⟩ ∧ (grantInternal c s).path.patience = 0 := by
  rcases firstInternal_claims h with ⟨rfl, hl⟩ | rfl | ⟨rfl, hl⟩
  · obtain ⟨r, rest, hr⟩ := List.exists_cons_of_ne_nil hl
    have hc := grantReport_cons (s := { s with path := { s.path with patience := 0 } }) hr
    exact ⟨_, by rw [grantInternal, grantTo, hc]; exact ⟨rfl, rfl⟩⟩
  · exact ⟨_, rfl, rfl⟩
  · obtain ⟨w, rest, hw⟩ := List.exists_cons_of_ne_nil hl
    refine ⟨wordWrite (freezeWordAddr s.path.table w.index, w.value), ?_⟩
    unfold grantInternal grantTo grantFreeze; dsimp only; rw [hw]; exact ⟨rfl, rfl⟩

theorem decideInternal_grants {s : State} {c : Claimant} (hp : s.path.port = none) (h : firstInternal s = some c) :
    decideInternal s = grantInternal c s := by
  unfold decideInternal; rw [hp, h]

/-- A decision for the internal claimants starts no system access. -/
theorem decideInternal_user {s : State} (h : s.path.port.map PortUse.user ≠ some .system) :
    (decideInternal s).path.port.map PortUse.user ≠ some .system := by
  unfold decideInternal; split
  · next c _ hc =>
    obtain ⟨x, hx, _⟩ := grantInternal_port hc
    rw [hx]; simpa using firstInternal_ne_system hc
  · exact h

section
variable {s t : State}
theorem Granted.op (h : Granted s t) : t.loader.op = s.loader.op := by rw [h.loader]
theorem Granted.phase (h : Granted s t) : t.loader.phase = s.loader.phase := by rw [h.loader]
theorem Granted.readsDone (h : Granted s t) : t.loader.readsDone = s.loader.readsDone := by rw [h.loader]
theorem Granted.result (h : Granted s t) : t.loader.result = s.loader.result := by rw [h.loader]
theorem Granted.offset (h : Granted s t) : t.loader.offset = s.loader.offset := by rw [h.loader]
theorem Granted.setupSel (h : Granted s t) : t.path.setupSel = s.path.setupSel := by rw [h.path]
theorem Granted.autostart (h : Granted s t) : t.path.autostart = s.path.autostart := by rw [h.path]
theorem Granted.table (h : Granted s t) : t.path.table = s.path.table := by rw [h.path]
theorem Granted.protection (h : Granted s t) : t.path.protection = s.path.protection := by rw [h.path]
theorem Granted.snapshot (h : Granted s t) : t.path.snapshot = s.path.snapshot := by rw [h.path]
theorem Granted.access (h : Granted s t) : t.path.access = s.path.access := by rw [h.path]
theorem Granted.bus (h : Granted s t) : t.path.bus = s.path.bus := by rw [h.path]
theorem Granted.done (h : Granted s t) : t.path.done = s.path.done := by rw [h.path]
theorem Granted.tap (h : Granted s t) : t.blocks.tap = s.blocks.tap := h.blocks.1.symm
theorem Granted.crank (h : Granted s t) : t.blocks.crank = s.blocks.crank := h.blocks.2.1.symm
theorem Granted.seg (h : Granted s t) : t.blocks.seg = s.blocks.seg := h.blocks.2.2.1.symm
theorem Granted.knock (h : Granted s t) : t.blocks.knock = s.blocks.knock := h.blocks.2.2.2.1.symm
theorem Granted.rate (h : Granted s t) : t.blocks.rate = s.blocks.rate := h.blocks.2.2.2.2.1.symm
theorem Granted.evq (h : Granted s t) : t.blocks.evq = s.blocks.evq := h.blocks.2.2.2.2.2.1.symm
theorem Granted.frz (h : Granted s t) : t.blocks.frz = s.blocks.frz := h.blocks.2.2.2.2.2.2.symm
theorem Granted.rowsKept (h : Granted s t) {b : Blocks} (k : rowsKept b s.blocks) : rowsKept b t.blocks := by
  unfold Machine.rowsKept; rw [h.rate]; exact k
theorem Granted.onlyPortWrites (h : Granted s t) : onlyPortWrites s t := h.ram
end

theorem sameBlocks.trans {b c d : Blocks} (h : sameBlocks b c) (k : sameBlocks c d) : sameBlocks b d := by
  obtain ⟨h1, h2, h3, h4, h5, h6, h7⟩ := h
  obtain ⟨k1, k2, k3, k4, k5, k6, k7⟩ := k
  exact ⟨h1.trans k1, h2.trans k2, h3.trans k3, h4.trans k4, h5.trans k5, h6.trans k6, h7.trans k7⟩

/-! ### Forwarded accesses (R4) -/

theorem ramAfter_storesOnly {a : Access} {s t : State} (h : t.ram = ramAfter s.ram a) : storesOnly a s t :=
  ⟨fun n hn => by rw [h]; exact ramAfter_ne hn _,
   fun d hd hw n hn => by rw [h]; exact ramAfter_same hd hn hw⟩

theorem forwarded_storesOnly (a : Access) (s : State) : storesOnly a s (forwarded a s) := ramAfter_storesOnly rfl

/-- A command that is a write which no policy takes is forwarded at its turn. -/
theorem exec_forwarded {c : Instr} {s : State} {a : Access} {d : Word} (hc : accessOf s c = some a)
    (hd : a.dir = .write d) (ht : onTurn s) (hf : writeFate s a d = .forward) :
    exec c s = .next (forwarded a s) := by
  rw [exec_access hc, systemAccess_granted ht hd (by rw [hf]; rfl), hf]; rfl

/-- A command that is a granted write is forwarded, and what takes it takes it. -/
theorem exec_granted {c : Instr} {s : State} {a : Access} {d : Word} {f : Fate} (hc : accessOf s c = some a)
    (hd : a.dir = .write d) (ht : onTurn s) (hf : writeFate s a d = f) (hg : f.granted = true) :
    exec c s = .next (takeWrite a d (forwarded a s) f) := by
  subst hf; rw [exec_access hc, systemAccess_granted ht hd hg]

/-! ### Writes that take no grant -/

/-- What takes a write without a grant changes the blocks alone. -/
theorem takeWrite_ended {f : Fate} (hf : f.granted = false) (a : Access) (d : Word) (s : State) :
    takeWrite a d s f = { s with blocks := (takeWrite a d s f).blocks } := by
  cases f
  case drop | protect | refuseSetup | flagClear => rfl
  all_goals exact absurd hf Bool.noConfusion

/-- A command that is a write which takes no grant ends, with nothing changed outside the blocks but what the arbiter
grants next, and what takes the write has taken it (R1, R17). -/
theorem exec_ended {c : Instr} {s : State} {a : Access} {d : Word} {f : Fate} (hc : accessOf s c = some a)
    (hd : a.dir = .write d) (ht : onTurn s) (hf : writeFate s a d = f) (hg : f.granted = false) :
    ∃ t, exec c s = .next t ∧ endedOnly a f.ending d s t ∧
      t = decideInternal (takeWrite a d (endedBy a f.ending d s) f) := by
  subst hf
  have g := systemAccess_ended_kept ht hd hg
  have hx := takeWrite_ended hg a d (endedBy a (writeFate s a d).ending d s)
  have hport : (systemAccess a s).path.port.map PortUse.user ≠ some .system := by
    rw [systemAccess_ended ht hd hg]
    refine decideInternal_user ?_
    rw [hx]
    simp [endedBy, ht.1]
  rw [hx] at g
  refine ⟨_, exec_access hc, ⟨⟨g.resetPin, g.pending, ?_, g.loader, g.shadow, g.ram⟩, g.done, hport⟩,
    systemAccess_ended ht hd hg⟩
  rw [g.path]; rfl

/-! ### Turns (R1, R15) -/

/-- A turn that takes a grant: the access is in progress, with nothing else changed outside the part but the patience
count. -/
theorem turn_granted {s : State} {a : Access} (w : Bool)
    (h : a.dir = .read ∨ ∃ d, a.dir = .write d ∧ (writeFate s a d).granted = true) :
    InsideOnly (grantSystem w a s) (turn w a s) := by
  rcases h with h | ⟨d, h, hf⟩
  · unfold turn; rw [h]; exact .refl _
  · unfold turn turnWrite; rw [h]; dsimp only; rw [if_pos hf]; exact takeWrite_inside _ _ _ _

/-- A turn that takes no grant: the access ends. -/
theorem turn_ended {s : State} {a : Access} {d : Word} (w : Bool) (h : a.dir = .write d)
    (hf : (writeFate s a d).granted = false) :
    turn w a s = takeWrite a d (endAccess a (writeFate s a d).ending d s) (writeFate s a d) := by
  unfold turn turnWrite; rw [h]; dsimp only; rw [if_neg (by simp [hf])]

theorem arbitrate_none {s : State} (hp : s.path.port = none) (ha : s.path.access = none) :
    arbitrate s = decideInternal s := by
  unfold arbitrate; rw [hp, ha]

theorem arbitrate_some {s : State} {a : Access} (hp : s.path.port = none) (ha : s.path.access = some a) :
    arbitrate s = decideSystem a s := by
  unfold arbitrate; rw [hp, ha]

/-- The system side has its turn where no internal claim is held or its patience is not exhausted (R15, case 2). -/
theorem decideSystem_turn {s : State} (a : Access)
    (h : firstInternal s = none ∨ s.path.patience < bound s.path.table) :
    decideSystem a s = decideInternal (turn (firstInternal s).isSome a s) := by
  unfold decideSystem
  cases hf : firstInternal s with
  | none => rfl
  | some c =>
    have hp := h.resolve_left (by simp [hf])
    exact if_neg (by omega)

/-- An exhausted patience grants the first internal claimant (R15, case 1). -/
theorem decideSystem_exhausted {s : State} {c : Claimant} (a : Access) (hc : firstInternal s = some c)
    (h : bound s.path.table ≤ s.path.patience) : decideSystem a s = grantInternal c s := by
  unfold decideSystem; rw [hc]; exact if_pos h

/-! ### Arrivals -/

/-- An access that arrives at an idle port and is not answered has its turn. -/
theorem systemAccess_held {a : Access} {s : State} (h : onTurn s) (hr : arrive a s = hold a s) :
    systemAccess a s = decideInternal (turn (firstInternal s).isSome a (hold a s)) := by
  rw [← decideSystem_onTurn h]
  obtain ⟨hp, ha, hb, _⟩ := h
  have hheld : busHeld s = false := by simp [busHeld, ha, hp]
  have hbus : { (hold a s) with path := { (hold a s).path with bus := [] } } = hold a s := by simp [hold, ← hb]
  simp only [systemAccess, hb, settle, List.nil_append, ha, Option.isSome_none, Bool.false_eq_true, if_false, hheld, hr]
  rw [hbus]; exact arbitrate_some hp rfl

/-- A read that is not answered is forwarded at its turn. -/
theorem systemAccess_read_held {a : Access} {s : State} (h : onTurn s) (hd : a.dir = .read)
    (hr : arrive a s = hold a s) : systemAccess a s = forwarded a s := by
  rw [systemAccess_held h hr]
  unfold turn; rw [hd]; dsimp only
  rw [grantSystem_eq_forwarded h.2.1 rfl]
  exact decideInternal_busy (u := ⟨.system, a, true⟩) rfl

/-- A read that is answered as it arrives changes nothing but the snapshot and the end, where the arbiter has nothing
to decide (R12, R13). -/
theorem systemAccess_answered {a : Access} {s t : State} (h : busFree s) (hr : arrive a s = t)
    (hp : t.path.port = s.path.port) (ha : t.path.access = none) (hb : t.path.bus = [])
    (hf : firstInternal t = firstInternal s) : systemAccess a s = t := by
  obtain ⟨hacc, hbus, hheld, hq⟩ := h
  have hbus' : { t with path := { t.path with bus := [] } } = t := by rw [← hb]
  simp only [systemAccess, hbus, settle, List.nil_append, hacc, Option.isSome_none, Bool.false_eq_true, if_false,
    hheld, hr]
  rw [hbus']
  rcases hq with hq | hq
  · obtain ⟨u, hu⟩ := Option.ne_none_iff_exists'.mp hq
    unfold arbitrate; rw [hp, hu]
  · unfold arbitrate; split
    · rfl
    · rw [ha]; exact decideInternal_none (hf.trans hq)

/-! ### Ends of accesses -/

/-- Where no system access waits, the buses settle by a decision for the internal claimants at most. -/
theorem settled_no_access {s : State} (ha : s.path.access = none) (hb : s.path.bus = []) :
    settled s = decideInternal s :=
  settled_calm ⟨.inl hb, .inr ha⟩

end Sys2Proof.Machine
end

section
/-! Resets, waits, forwarded accesses and the arbiter: the statements (R3, R4, R14 to R17). -/

namespace Sys2Proof.Machine

/-! ### The release of RESET -/

theorem firstInternal_released (sel : BitVec 4) (auto : Bool) (s : State) :
    firstInternal (releaseReset sel auto s) = none :=
  firstInternal_of_none rfl rfl rfl

/-- While the window table is INVALID a header update requests no mirror (R135). -/
theorem tellHeader_rpw_invalid {e : Env} (h : e.table.valid = false) (f : Header → Header) (b : Blocks) :
    (tellHeader e f b).rpw = b.rpw := by
  unfold tellHeader requestMirror; split
  · rfl
  · rw [if_neg (by simp [h])]

theorem announceOp_rpw_invalid {e : Env} (h : e.table.valid = false) (b : Blocks) :
    (announceOp e b).rpw = addRequest false .loadStatus b.rpw := by
  unfold announceOp tellOp; rw [decideAlert_rpw, tellHeader_rpw_invalid h]; rfl

/-- The load that AUTOSTART begins hands the report writer LOAD-STATUS alone (R26). -/
theorem autoStart_released_rpw (sel : BitVec 4) (s : State) :
    (autoStart (releaseReset sel true s)).blocks.rpw = [⟨.loadStatus, 0, false⟩] :=
  announceOp_rpw_invalid rfl _

theorem autoStart_released_evq (sel : BitVec 4) (s : State) :
    (autoStart (releaseReset sel true s)).blocks.evq = Evq.reset :=
  announceOp_evq _ _

/-- Settles O5: the release leaves the buses calm, so that the arbiter at most grants the first word of the
LOAD-STATUS request of an automatic start. -/
theorem releaseOfReset : Obligations.ReleaseOfReset := by
  intro s sel hr hc
  have hcalm : ∀ t : State, t.path.port = s.path.port → t.path.access = s.path.access →
      t.path.bus = s.path.bus → settled t = decideInternal t :=
    fun t hp ha hb => settled_calm (calmBus_blocks hc hp ha hb)
  refine ⟨?_, ?_⟩
  · rw [exec_resetRelease, if_pos hr]
    have he : autoStartIf (releaseReset sel false s) = releaseReset sel false s := rfl
    rw [he, hcalm (releaseReset sel false s) rfl rfl rfl, decideInternal_none (firstInternal_released sel false s)]
    rfl
  · rw [exec_resetRelease, if_pos hr]
    have he : autoStartIf (releaseReset sel true s) = autoStart (releaseReset sel true s) := rfl
    rw [he, hcalm (autoStart (releaseReset sel true s)) rfl rfl rfl]
    have g := decideInternal_kept (autoStart (releaseReset sel true s))
    generalize decideInternal (autoStart (releaseReset sel true s)) = t at g
    have hkinds : t.blocks.rpw.map Request.kind = [.loadStatus] := by
      rw [← g.requests.kinds, autoStart_released_rpw]; rfl
    have hevq : t.blocks.evq = Evq.reset := g.evq.trans (autoStart_released_evq sel s)
    refine ⟨t, rfl, g.resetPin, g.pending, g.op, g.phase, g.readsDone, g.result, g.offset, g.setupSel, g.autostart,
      ?_, g.protection, ?_, g.access, g.bus, g.done, hkinds, g.tap.trans (announceOp_tap _ _),
      g.crank.trans (announceOp_crank _ _), g.seg.trans (announceOp_seg _ _),
      g.knock.trans (announceOp_knock _ _), hevq, g.frz.trans (announceOp_frz _ _),
      g.rowsKept (announceOp_rowsKept _ Blocks.reset), g.onlyPortWrites⟩
    · rw [g.table]; rfl
    · rw [g.snapshot]; rfl

/-! ### The assertion of RESET -/

theorem busHeld_assertReset (s : State) : busHeld (assertReset s) = busHeld s := by
  unfold busHeld assertReset; cases s.path.port <;> rfl

theorem calmBus_assertReset {s : State} (h : calmBus s) : calmBus (assertReset s) := by
  unfold calmBus; rw [busHeld_assertReset]
  refine ⟨h.1, ?_⟩
  rcases h.2 with hp | ha
  · exact .inl (by simpa [assertReset] using hp)
  · exact .inr ha

/-- Under RESET every system-side access is forwarded and handed to nobody (R3). -/
theorem systemAccess_reset {a : Access} {s : State} (hr : s.resetPin = true) (hi : portsIdle s) :
    systemAccess a s = forwarded a s := by
  have ht : onTurn s := ⟨hi.1, hi.2.1, hi.2.2, .inl (firstInternal_reset_none hr)⟩
  cases hd : a.dir with
  | read => exact systemAccess_read ht hd (by simp [protectedRead, hr])
  | write d =>
    have hf : writeFate s a d = .forward := by unfold writeFate; exact if_pos hr
    rw [systemAccess_granted ht hd (by rw [hf]; rfl), hf]; rfl

/-- Settles O6: with a calm bus the assertion leaves nothing for the arbiter, and no policy applies under RESET. -/
theorem assertionOfReset : Obligations.AssertionOfReset := by
  refine ⟨fun s hr hc => ⟨?_, firstInternal_reset_none rfl, rfl⟩, fun c s a ha hr hi => ⟨?_, ?_, ?_⟩⟩
  · rw [exec_resetAssert, if_neg (by simp [hr]), settled_calm (calmBus_assertReset hc),
      decideInternal_none (firstInternal_reset_none rfl)]
    rfl
  · rw [exec_access ha, systemAccess_reset hr hi]
  · unfold patienceAfter; exact if_pos (firstInternal_reset_none hr)
  · exact forwarded_storesOnly a s

/-! ### Waiting -/

/-- Accesses that come to a held bus wait behind those of the line. -/
theorem settle_held {s : State} {a : Access} {l : List Access} (hb : busHeld s = true)
    (hp : s.path.port ≠ none ∨ s.path.access = none) :
    settle (a :: l) s = { s with path := { s.path with bus := a :: l } } := by
  have hs : (if s.path.access.isSome then arbitrate s else s) = s := by
    split
    · next ha =>
      have hp := hp.resolve_right (by intro h0; simp [h0] at ha)
      obtain ⟨u, hu⟩ := Option.ne_none_iff_exists'.mp hp
      unfold arbitrate; rw [hu]
    · rfl
  unfold settle; dsimp only; rw [hs]; exact if_pos hb

/-- Settles O7: a held bus sends the access to the end of the line, and an internal access makes it wait for its
turn. -/
theorem accessesWait : Obligations.AccessesWait := by
  intro c s a hc
  rw [exec_access hc]
  refine ⟨fun hb hp => ?_, fun u hu hs ha hbus hr => ?_⟩
  · unfold systemAccess
    obtain ⟨x, l, hl⟩ := List.exists_cons_of_ne_nil (l := s.path.bus ++ [a]) (by simp)
    rw [hl, settle_held hb hp]
  · rw [systemAccess_holds hbus ha hu hs hr]; rfl

/-! ### Writes that no policy takes -/

theorem writeFate_window {s : State} (a : Access) (d : Word) (hr : s.resetPin = false) :
    writeFate s a d = windowFate s a.lanes d (windowOfAccess s a) := by
  unfold writeFate; exact if_neg (by simp [hr])

theorem streamFate_forward {s : State} (f : Fate) (h : s.loader.op ≠ .running) : streamFate s f = .forward := by
  unfold streamFate; exact if_neg h

/-- Settles O9: in each case the fate of the write is a forward. -/
theorem writesForwarded : Obligations.WritesForwarded := by
  intro c s a d hc hd ht hr h
  refine ⟨exec_forwarded hc hd ht ?_, forwarded_storesOnly a s⟩
  rw [writeFate_window a d hr]
  rcases h with h | ⟨h, ho⟩ | ⟨hp, w, h⟩ | ⟨h, hl⟩
  · rw [h]; rfl
  · simp only [List.mem_cons, List.not_mem_nil, or_false] at h
    rcases h with h | h | h | h <;> (rw [h]; exact streamFate_forward _ ho)
  · rcases h with h | h <;> (rw [h]; exact if_neg (by simp [hp]))
  · rw [h]; simp [windowFate, setupFate, hl]

/-! ### The end of a forwarded access -/

theorem laneByte_getLsbD (w : Word) (k : Nat) {i : Nat} (hi : i < 8) :
    (laneByte w k).getLsbD i = w.getLsbD (8 * k + i) := by
  simp only [laneByte, bitField, BitVec.getLsbD_ofNat, Nat.testBit_mod_two_pow, Nat.testBit_shiftRight, hi,
    decide_true, Bool.true_and]
  rfl

/-- A byte placed in lane m shows in lane k where m is k alone. -/
theorem placeByte_getLsbD (v m : Nat) {k i : Nat} (hi : i < 8) (hk : k < 4) :
    (place v (8 * m) 8).getLsbD (8 * k + i) = (decide (m = k) && v.testBit i) := by
  have hj : 8 * k + i < 32 := by omega
  simp only [place, BitVec.getLsbD_ofNat, hj, decide_true, Bool.true_and, Nat.testBit_mul_two_pow,
    Nat.testBit_mod_two_pow]
  by_cases hm : m = k
  · subst hm
    simp [show 8 * m + i - 8 * m = i by omega, hi]
  · by_cases hle : 8 * m ≤ 8 * k + i
    · have hlt : ¬ 8 * k + i - 8 * m < 8 := by omega
      simp only [hm, hlt, decide_false, Bool.false_and, Bool.and_false]
    · simp only [hm, hle, decide_false, Bool.false_and]

/-- Every bit of an enabled lane is in the mask of the lanes. -/
theorem laneMask_getLsbD {l : Lanes} {k : Nat} (hk : k ∈ enabledLanes l) {i : Nat} (hi : i < 8) :
    (laneMask l).getLsbD (8 * k + i) = true := by
  have hall : ∀ l : Lanes, ∀ k ∈ enabledLanes l, ∀ i : Fin 8, (laneMask l).getLsbD (8 * k + i.val) = true := by
    intro l
    cases l with
    | word => decide
    | half high => cases high <;> decide
    | byte j => revert j; decide
  exact hall l k hk ⟨i, hi⟩

theorem enabledLanes_lt {l : Lanes} {k : Nat} (hk : k ∈ enabledLanes l) : k < 4 := by
  cases l with
  | word => simp [enabledLanes] at hk; omega
  | half high => cases high <;> (simp [enabledLanes] at hk; omega)
  | byte j => simp [enabledLanes] at hk; omega

/-- Lane k of a word of RAM is the byte at its address plus k (R182). -/
theorem laneByte_ramWord (m : Ram) (w : WordAddr) {k : Nat} (hk : k < 4) :
    laneByte (ramWord m w) k = ramByte m (4 * w.toNat + k) := by
  apply BitVec.eq_of_getLsbD_eq
  intro i hi
  have hw : ramWord m w =
      place (ramByte m (4 * w.toNat)).toNat (8 * 0) 8 ||| place (ramByte m (4 * w.toNat + 1)).toNat (8 * 1) 8 |||
        place (ramByte m (4 * w.toNat + 2)).toNat (8 * 2) 8 |||
          place (ramByte m (4 * w.toNat + 3)).toNat (8 * 3) 8 := rfl
  rw [laneByte_getLsbD _ _ hi, hw]
  simp only [BitVec.getLsbD_or, placeByte_getLsbD _ _ hi hk]
  obtain rfl | rfl | rfl | rfl : k = 0 ∨ k = 1 ∨ k = 2 ∨ k = 3 := by omega
  all_goals simp [BitVec.getLsbD]

/-- A mask that enables a lane leaves its byte. -/
theorem laneByte_masked (w : Word) {l : Lanes} {k : Nat} (hk : k ∈ enabledLanes l) :
    laneByte (w &&& laneMask l) k = laneByte w k := by
  apply BitVec.eq_of_getLsbD_eq
  intro i hi
  simp [laneByte_getLsbD _ _ hi, laneMask_getLsbD hk hi]

/-- Settles O10: the end of the access frees the port, and the arbiter decides for the internal claimants alone, since
nothing of the system side waits. -/
theorem forwardedAccessEnds : Obligations.ForwardedAccessEnds := by
  intro s a live hp ha hb data
  have hdata : forwardedData s.ram a = data := rfl
  have hexec : exec .forwardedAccessDone s = .next (decideInternal (systemDone a s)) := by
    rw [exec_forwardedAccessDone, accessDone_some hp, settled_no_access (s := systemDone a s) rfl hb]
  have hview : firstInternal (systemDone a s) = firstInternal s :=
    firstInternal_view ⟨rfl, rfl, rfl, rfl, rfl, rfl⟩
  refine ⟨fun hn => ?_, fun c hc => ?_, fun hr k hk => ?_⟩
  · rw [hexec, decideInternal_none (hview.trans hn)]
    unfold systemDone endAccess freePort; rw [hdata, ← ha]
  · have hc' := hview.trans hc
    obtain ⟨x, hx, hpat⟩ := grantInternal_port hc'
    have g := decideInternal_kept (systemDone a s)
    rw [decideInternal_grants rfl hc'] at hexec g
    generalize grantInternal c (systemDone a s) = t at *
    refine ⟨t, x, hexec, hx, hpat, g.access, g.blocks, ⟨g.resetPin, g.pending, ?_, g.loader, g.shadow, g.ram⟩,
      g.done, ?_⟩
    · rw [g.path]; unfold systemDone endAccess freePort; rw [← ha]
    · rw [hx]; simpa using firstInternal_ne_system hc
  · have hd : data = ramWord s.ram a.addr &&& laneMask a.lanes := by
      show (match a.dir with | .read => _ | .write d => d) = _
      rw [hr]
    rw [hd, laneByte_masked _ hk, laneByte_ramWord _ _ (enabledLanes_lt hk)]

/-! ### The arbiter -/

/-- A frame has its ownership word at least, so that a write-out leaves the freeze writer a claim. -/
theorem frameWords_ne_nil (f : Frz) : frameWords f ≠ [] := by simp [frameWords]

theorem trigger_writeList {e : Env} {k : TriggerKind} {c : Option Nat} {b : Blocks}
    (h : b.frz.writeList ≠ []) : (trigger e k c b).frz.writeList ≠ [] := by
  unfold trigger; split
  · exact h
  · split
    · unfold startCollection; dsimp only; split
      · simp [writeOut, setFreezeState, frameWords_ne_nil]
      · simpa [setFreezeState, collectionOf] using h
    · exact h
  all_goals exact h

/-- A raised event takes no claim from the freeze writer. -/
theorem raise_writeList {e : Env} {ev : Event} {b : Blocks} (h : b.frz.writeList ≠ []) :
    (raise e ev b).frz.writeList ≠ [] := by
  have ht : (takeEvent e ev b).frz.writeList ≠ [] := by simpa using h
  unfold raise; split
  · unfold offerEvent; split
    · exact trigger_writeList ht
    · exact ht
  · exact h

/-- What takes a write without a grant takes no claim from the part. -/
theorem takeWrite_claims {f : Fate} (hf : f.granted = false) (a : Access) (d : Word) {s : State}
    (h : firstInternal s ≠ none) : firstInternal (takeWrite a d s f) ≠ none := by
  rw [firstInternal_ne_none] at h ⊢
  obtain ⟨hr, h⟩ := h
  have hl : (takeWrite a d s f).loader = s.loader := by rw [takeWrite_ended hf]
  have hw : s.blocks.frz.writeList ≠ [] → (takeWrite a d s f).blocks.frz.writeList ≠ [] := by
    intro hw
    cases f with
    | drop => exact hw
    | protect => simpa [takeWrite] using hw
    | flagClear => simpa [takeWrite] using hw
    | refuseSetup r off =>
      show (refuseSetup r off s.env s.blocks).frz.writeList ≠ []
      unfold refuseSetup; split
      · exact hw
      · exact raise_writeList (by simpa using hw)
    | _ => cases hf
  refine ⟨(takeWrite_inside a d s f).resetPin.trans hr, ?_⟩
  rw [hl]
  exact h.imp (takeWrite_grown a d s f).ne_nil (Or.imp id hw)

/-- The clause of O11 on a write that takes no grant: it ends, and the arbiter decides again at once (R17). -/
theorem arbitrate_ended {s : State} {a : Access} {d : Word} (hp : s.path.port = none) (ha : s.path.access = some a)
    (h : firstInternal s = none ∨ s.path.patience < bound s.path.table) (hd : a.dir = .write d)
    (hf : (writeFate s a d).granted = false) :
    let t := arbitrate s
    t.path.access = none ∧ t.path.done = some ⟨a, (writeFate s a d).ending, d⟩ ∧
      t.path.port.map PortUse.user ≠ some .system ∧
      (firstInternal s ≠ none → t.path.port.map PortUse.user ≠ none) ∧
      (t.path.port.map PortUse.user = none → t.path.patience = s.path.patience) ∧
      (t.path.port.map PortUse.user ≠ none → t.path.patience = 0) := by
  intro t
  have htx : t = decideInternal (turn (firstInternal s).isSome a s) := by
    show arbitrate s = _
    rw [arbitrate_some hp ha, decideSystem_turn a h]
  rw [turn_ended _ hd hf] at htx
  have hi := takeWrite_inside a d (endAccess a (writeFate s a d).ending d s) (writeFate s a d)
  have hclaims := takeWrite_claims hf a d (s := endAccess a (writeFate s a d).ending d s)
  generalize takeWrite a d (endAccess a (writeFate s a d).ending d s) (writeFate s a d) = x at *
  have hxp : x.path.port = none := hi.port.trans hp
  have g := decideInternal_kept x
  rw [← htx] at g
  have huser : t.path.port.map PortUse.user ≠ some .system := by
    rw [htx]; exact decideInternal_user (by simp [hxp])
  refine ⟨g.access.trans hi.access, g.done.trans hi.done, huser, ?_⟩
  cases hx : firstInternal x with
  | none =>
    have hts : t = x := htx.trans (decideInternal_none hx)
    have hns : firstInternal s = none :=
      Classical.byContradiction fun hn => hclaims hn hx
    rw [hts, hxp, hns]
    exact ⟨by simp, fun _ => hi.patience, by simp⟩
  | some c =>
    obtain ⟨y, hy, hpat⟩ := grantInternal_port hx
    rw [← decideInternal_grants hxp hx, ← htx] at hy hpat
    rw [hy, hpat]
    exact ⟨by simp, by simp, by simp⟩

/-- Settles O11: each clause is one branch of the arbiter's decision. -/
theorem arbiterDecides : Obligations.ArbiterDecides := by
  intro s hp
  refine ⟨fun ha hn => ?_, fun c ha hc => ?_, fun a c ha hc hb => ?_, fun a ha h hg => ?_,
    fun a d ha h hd hf => arbitrate_ended hp ha h hd hf,
    fun hr => ⟨firstInternal_of_report hr, firstInternal_of_loader hr, firstInternal_of_freeze hr,
      firstInternal_of_none⟩, rfl⟩
  · rw [arbitrate_none hp ha, decideInternal_none hn]
  · rw [arbitrate_none hp ha, decideInternal_grants hp hc]
    obtain ⟨x, hx, hpat⟩ := grantInternal_port hc
    rw [hx]; exact ⟨rfl, hpat⟩
  · rw [arbitrate_some hp ha, decideSystem_exhausted a hc hb]
    obtain ⟨x, hx, hpat⟩ := grantInternal_port hc
    rw [hx]; exact ⟨rfl, hpat, (grantInternal_kept c s).access.trans ha⟩
  · rw [arbitrate_some hp ha, decideSystem_turn a h]
    have hi := turn_granted (firstInternal s).isSome hg
    rw [decideInternal_busy (u := ⟨.system, a, true⟩) (by rw [hi.port]; rfl)]
    refine ⟨hi.port, hi.access, hi.patience.trans ?_⟩
    unfold patienceAfter grantSystem
    cases firstInternal s <;> rfl

end Sys2Proof.Machine
end

section
/-! Windows of addresses, reads of the report area, and the reset state (R2, R12, R13, R29). -/

namespace Sys2Proof.Machine

/-! ### The window of an address -/

theorem headD_append_guarded (c : Bool) (w d : Window) (l : List Window) :
    ((if c then [w] else []) ++ l).headD d = if c then w else l.headD d := by cases c <;> rfl

theorem headD_guarded (c : Bool) (w d : Window) : (if c then [w] else []).headD d = if c then w else d := by
  cases c <;> rfl

/-- The window of an address among those of the table is the first that it lies in. -/
theorem tableWindow_eq_head (t : WindowTable) (n : Nat) : tableWindow t n = (windowsAt t n).headD .none := by
  simp only [tableWindow, windowsAt, List.append_assoc, headD_append_guarded, headD_guarded]

theorem windowOf_setup {p : Path} {n : Nat} (h : inSetup p n) :
    windowOf p n = .setup ((n - setupBaseByte p.setupSel) / 4) := by
  unfold windowOf; exact if_pos h

theorem windowOf_invalid {p : Path} {n : Nat} (h : ¬ inSetup p n) (hv : p.table.valid = false) :
    windowOf p n = .none := by
  unfold windowOf; rw [if_neg h, if_neg (by simp [hv])]

theorem windowOf_valid {p : Path} {n : Nat} (h : ¬ inSetup p n) (hv : p.table.valid = true) :
    windowOf p n = (windowsAt p.table n).headD .none := by
  unfold windowOf; rw [if_neg h, if_pos hv, tableWindow_eq_head]

/-! ### Validated windows (R29) -/

theorem within_iff {base bytes n : Nat} : within base bytes n = true ↔ base ≤ n ∧ n < base + bytes := by
  simp [within]

theorem apart_excludes {b1 n1 b2 n2 n : Nat} (h : apart b1 n1 b2 n2 = true) (h1 : within b1 n1 n = true) :
    within b2 n2 n = false := by
  rw [within_iff] at h1
  simp only [apart, Bool.or_eq_true, beq_iff_eq, decide_eq_true_eq] at h
  simp only [within, Bool.and_eq_false_iff, decide_eq_false_iff_not]
  omega

/-- An address lies in a window of a setup block. -/
def windowHas (r : Reader) (n : Nat) (v : WindowFields) : Bool := within (v.base r) (v.bytes r) n

/-- Whether an address lies in each window of the table, in the order in which they are looked up. -/
def tableHas (t : WindowTable) (n : Nat) : List Bool :=
  [within t.toothBase (4 * t.toothSize) n, within t.knockBase.a (2 * t.knockSize.a) n,
    within t.knockBase.b (2 * t.knockSize.b) n, within t.markerBase 4 n, within t.reportBase (4 * t.reportSize) n,
    within t.freezeBase (4 * t.freezeSize) n]

theorem windowsAt_length_table (t : WindowTable) (n : Nat) :
    (windowsAt t n).length = (tableHas t n).countP id := by
  have hlen : ∀ (c : Bool) (w : Window), (if c = true then [w] else []).length = if c = true then 1 else 0 := by
    intro c w; cases c <;> rfl
  simp only [windowsAt, tableHas, List.length_append, hlen, List.countP_cons, List.countP_nil, id]
  omega

/-- The windows of a loaded table that an address lies in are as many as the windows of the block. -/
theorem windowsAt_length (r : Reader) (n : Nat) :
    (windowsAt (tableOf r) n).length = windowFields.countP (windowHas r n) := by
  have h : tableHas (tableOf r) n = windowFields.map (windowHas r n) := rfl
  rw [windowsAt_length_table, h, List.countP_map]; rfl

/-- The base, size and presence of a window depend on its words alone, and an absent window has no bytes. -/
structure ReadsOwnWords (v : WindowFields) : Prop where
  base : ∀ r q : Reader, (∀ i ∈ v.words, r i = q i) → v.base r = v.base q
  bytes : ∀ r q : Reader, (∀ i ∈ v.words, r i = q i) → v.bytes r = v.bytes q
  present : ∀ r q : Reader, (∀ i ∈ v.words, r i = q i) → v.present r = v.present q
  absent : ∀ r, v.present r = false → v.bytes r = 0

theorem windowFields_readOwnWords : ∀ v ∈ windowFields, ReadsOwnWords v := by
  intro v hv
  simp only [windowFields, List.mem_cons, List.not_mem_nil, or_false] at hv
  rcases hv with rfl | rfl | rfl | rfl | rfl | rfl <;> constructor <;>
    simp +contextual [fToothBase, fToothSize, fKnockABase, fKnockASize, fKnockBBase, fKnockBSize, fMarkerBase,
      fReportBase, fReportSize, fFreezeBase, fFreezeSize]

theorem checkReader_mem {ws : List Nat} {sh : Shadow} {i : Nat} (h : i ∈ ws) :
    checkReader ws sh i = shadowWord sh i := by
  simp [checkReader, h]

/-- A check on a window, made on words that hold its fields, speaks of the block itself, where the window has any
address. -/
theorem ifPresent_of_has {v : WindowFields} {sh : Shadow} {n : Nat} {ws : List Nat} {test : Reader → Bool}
    (hv : ReadsOwnWords v) (hws : ∀ i ∈ v.words, i ∈ ws) (hn : windowHas (shadowWord sh) n v = true)
    (h : ifPresent v test (checkReader ws sh) = true) : test (checkReader ws sh) = true := by
  have hp : v.present (shadowWord sh) = true := by
    refine Classical.byContradiction fun hp => ?_
    have := hv.absent _ (by simpa using hp)
    rw [windowHas, within_iff, this] at hn
    omega
  have hq := hv.present (checkReader ws sh) (shadowWord sh) fun i hi => checkReader_mem (hws i hi)
  simpa [ifPresent, hq, hp] using h

/-- Two windows that a block's validation checks against each other share no address. -/
theorem apartCheck_excludes {v w : WindowFields} {sh : Shadow} {n : Nat} (hv : ReadsOwnWords v)
    (hw : ReadsOwnWords w) (h : checkHolds (apartCheck v w) sh = true)
    (hn : windowHas (shadowWord sh) n v = true) : windowHas (shadowWord sh) n w = false := by
  refine Classical.byContradiction fun hm => ?_
  have hm : windowHas (shadowWord sh) n w = true := by simpa using hm
  have hvs : ∀ i ∈ v.words, i ∈ v.words ++ w.words := fun i hi => List.mem_append_left _ hi
  have hws : ∀ i ∈ w.words, i ∈ v.words ++ w.words := fun i hi => List.mem_append_right _ hi
  have ha := ifPresent_of_has hw hws hm (ifPresent_of_has hv hvs hn h)
  rw [hv.base _ _ fun i hi => checkReader_mem (hvs i hi), hv.bytes _ _ fun i hi => checkReader_mem (hvs i hi),
    hw.base _ _ fun i hi => checkReader_mem (hws i hi), hw.bytes _ _ fun i hi => checkReader_mem (hws i hi)] at ha
  have := apart_excludes ha hn
  rw [windowHas, this] at hm
  cases hm

theorem pairChecks_pairwise {sh : Shadow} : ∀ {l : List WindowFields},
    (∀ c ∈ pairChecks l, checkHolds c sh = true) → l.Pairwise (fun v w => checkHolds (apartCheck v w) sh = true)
  | [], _ => .nil
  | v :: rest, h => by
    refine .cons (fun w hw => h _ ?_) (pairChecks_pairwise fun c hc => h c ?_)
    · exact List.mem_append_left _ (List.mem_map_of_mem hw)
    · exact List.mem_append_right _ hc

/-- A predicate that no two entries of a list share holds of at most one. -/
theorem countP_le_one {α : Type} {p : α → Bool} {l : List α} (h : l.Pairwise (fun v w => p v = true → p w = false)) :
    l.countP p ≤ 1 := by
  induction h with
  | nil => exact Nat.zero_le 1
  | @cons v l hv _ ih =>
    rw [List.countP_cons]
    by_cases hp : p v = true
    · have : l.countP p = 0 := List.countP_eq_zero.mpr fun w hw => by simp [hv w hw hp]
      rw [if_pos hp]; omega
    · rw [if_neg hp]; exact ih

theorem validate_windows {base : Nat} {sh : Shadow} (h : validate base sh = none) :
    ∀ c ∈ windowsChecks base, checkHolds c sh = true :=
  validate_none h (.badWindows, windowsChecks base) (by simp [groups])

/-- The windows of a validated block share no address. -/
theorem validated_windows_pairwise {base : Nat} {sh : Shadow} (n : Nat) (h : validate base sh = none) :
    windowFields.Pairwise (fun v w =>
      windowHas (shadowWord sh) n v = true → windowHas (shadowWord sh) n w = false) := by
  have hp : windowFields.Pairwise (fun v w => checkHolds (apartCheck v w) sh = true) :=
    pairChecks_pairwise fun c hc => validate_windows h c (List.mem_append_right _ hc)
  exact hp.imp_of_mem fun hv hw hc hn =>
    apartCheck_excludes (windowFields_readOwnWords _ hv) (windowFields_readOwnWords _ hw) hc hn

/-- No window of a validated block holds an address of the setup block. -/
theorem validated_windows_outside {base : Nat} {sh : Shadow} {n : Nat} (h : validate base sh = none)
    (hn : within base (4 * Config.setupWords) n = true) :
    ∀ v ∈ windowFields, windowHas (shadowWord sh) n v = false := by
  intro v hv
  refine Classical.byContradiction fun hm => ?_
  have hm : windowHas (shadowWord sh) n v = true := by simpa using hm
  have hc : checkHolds ⟨v.words, ifPresent v (fun r => apart (v.base r) (v.bytes r) base (4 * Config.setupWords))⟩ sh =
      true :=
    validate_windows h _ (List.mem_append_left _ (List.mem_append_right _
      (List.mem_flatMap.mpr ⟨v, hv, by simp [windowChecks]⟩)))
  have hr := windowFields_readOwnWords v hv
  have ha := ifPresent_of_has (ws := v.words)
    (test := fun r => apart (v.base r) (v.bytes r) base (4 * Config.setupWords)) hr (fun i hi => hi) hm hc
  rw [hr.base _ _ fun i hi => checkReader_mem hi, hr.bytes _ _ fun i hi => checkReader_mem hi] at ha
  have := apart_excludes ha hm
  rw [this] at hn
  cases hn

/-- Settles O8: the window of an address is the first of those it lies in, and validation checks the windows pair by
pair and each against the setup block. -/
theorem windowsOfAddresses : Obligations.WindowsOfAddresses := by
  refine ⟨fun p n => ⟨windowOf_setup, windowOf_invalid, fun h hv hw => ?_, fun w h hv hw => ?_⟩,
    fun sel sh n h => ⟨?_, fun hn => ?_⟩⟩
  · rw [windowOf_valid h hv, hw]; rfl
  · rw [windowOf_valid h hv, hw]; rfl
  · rw [windowsAt_length]; exact countP_le_one (validated_windows_pairwise n h)
  · rw [← List.length_eq_zero_iff, windowsAt_length, List.countP_eq_zero]
    intro v hv
    simp [validated_windows_outside h hn v hv]

/-! ### Reads of the report area (R12, R13) -/

/-- The record of the first nine records of the REPORT window: the header, then the rows (R8). -/
def tagOf (k : Nat) : RecordTag := if k = 0 then .header else .row (Fin.ofNat 8 (k - 1))

theorem reportRecord_eq (k : Nat) (j : Fin 8) : reportRecord (8 * k + j.val) = (tagOf k, j.val) := by
  have hj := j.isLt
  unfold reportRecord tagOf
  by_cases hk : k = 0
  · subst hk; rw [if_pos (by omega), if_pos rfl]; simp
  · rw [if_neg (by omega), if_neg hk, show (8 * k + j.val - 8) / 8 = k - 1 by omega,
      show (8 * k + j.val - 8) % 8 = j.val by omega]

theorem recordWords_tagOf (rt : Rate) (k : Nat) :
    recordWords rt (tagOf k) =
      if k = 0 then headerWords rt.header else rowWords (rt.rows.get (Fin.ofNat 8 (k - 1))) := by
  unfold tagOf; split <;> rfl

theorem wordOf_get (v : Vector Word 8) (j : Fin 8) : wordOf v j.val = v.get j := by
  unfold wordOf; rw [Vector.getElem?_eq_getElem j.isLt]; rfl

/-- A read of the protected header or of a row (R8). -/
theorem protectedRead_record {s : State} {a : Access} {k : Nat} {j : Fin 8} (hr : s.resetPin = false)
    (hp : s.path.protection = true) (hd : a.dir = .read) (hk : k ≤ 8)
    (hw : windowOfAccess s a = .report (8 * k + j.val)) : protectedRead s a = some (tagOf k, j.val) := by
  have hj := j.isLt
  have hlt : 8 * k + j.val < Config.firstSlotWord := by unfold Config.firstSlotWord; omega
  unfold protectedRead
  rw [if_pos ⟨hr, hp, hd⟩, show windowOf s.path (byteAddr a) = _ from hw]
  dsimp only
  rw [if_pos hlt, reportRecord_eq]

theorem arrive_word0 {s : State} {a : Access} {tag : RecordTag} (h : protectedRead s a = some (tag, 0)) :
    arrive a s = answerWord0 a tag s := by
  unfold arrive; rw [h]

theorem arrive_snapshot {s : State} {a : Access} {tag : RecordTag} {j : Nat}
    (h : protectedRead s a = some (tag, j + 1)) :
    arrive a s = if snapshotHolds s.path.snapshot tag then answer a (wordOf s.path.snapshot.words (j + 1)) s
      else hold a s := by
  unfold arrive; rw [h]

/-- A read outside the protected header and rows is not answered (R4, R8). -/
theorem protectedRead_none {s : State} {a : Access}
    (h : s.path.protection = false ∨ ∀ n, windowOfAccess s a = .report n → 72 ≤ n) : protectedRead s a = none := by
  unfold protectedRead
  split
  · next hc =>
    replace h := h.resolve_left (by simp [hc.2.1])
    split
    · next w hw => exact if_neg (by have := h w hw; unfold Config.firstSlotWord; omega)
    · rfl
  · rfl

theorem word0Read_answered {s : State} {w : WordAddr} {l : Lanes} {k : Nat} (hf : busFree s)
    (hr : s.resetPin = false) (hp : s.path.protection = true) (hk : k ≤ 8)
    (hw : windowOfAccess s ⟨w, l, .read⟩ = .report (8 * k)) :
    exec (.word0Read w l) s = .next
      { s with path := { s.path with
          snapshot := ⟨true, tagOf k, recordWords s.blocks.rate (tagOf k)⟩
          done := some ⟨⟨w, l, .read⟩, .answered, (recordWords s.blocks.rate (tagOf k)).get 0 &&& laneMask l⟩ } } := by
  have harr := arrive_word0 (protectedRead_record (j := 0) hr hp rfl hk hw)
  have hacc : s.path.access = none := hf.1
  rw [exec_access (a := ⟨w, l, .read⟩) rfl,
    systemAccess_answered hf harr rfl rfl hf.2.1 (firstInternal_view ⟨rfl, rfl, rfl, rfl, rfl, rfl⟩)]
  have hword : wordOf (recordWords s.blocks.rate (tagOf k)) 0 = (recordWords s.blocks.rate (tagOf k)).get 0 :=
    wordOf_get _ 0
  unfold answerWord0 answer endAccess capture
  rw [hword, ← hacc]

theorem snapshotRead_answered {s : State} {w : WordAddr} {l : Lanes} {k : Nat} {j : Fin 8} (hf : busFree s)
    (h : protectedRead s ⟨w, l, .read⟩ = some (tagOf k, j.val)) (hj : j ≠ 0) (hv : s.path.snapshot.valid = true)
    (ht : s.path.snapshot.tag = tagOf k) :
    exec (.snapshotRead w l) s =
      .next (endedBy ⟨w, l, .read⟩ .answered (s.path.snapshot.words.get j &&& laneMask l) s) := by
  obtain ⟨i, hi⟩ : ∃ i, j.val = i + 1 := Nat.exists_eq_succ_of_ne_zero (by simpa using hj)
  rw [hi] at h
  have harr := arrive_snapshot h
  rw [if_pos (by simp [snapshotHolds, hv, ht]), ← hi, wordOf_get] at harr
  rw [exec_access (a := ⟨w, l, .read⟩) rfl,
    systemAccess_answered hf harr rfl rfl hf.2.1 (firstInternal_view ⟨rfl, rfl, rfl, rfl, rfl, rfl⟩)]
  unfold answer endAccess endedBy
  rw [← hf.1]

theorem snapshotRead_forwarded {s : State} {w : WordAddr} {l : Lanes} {k : Nat} {j : Fin 8} (ht : onTurn s)
    (h : protectedRead s ⟨w, l, .read⟩ = some (tagOf k, j.val)) (hj : j ≠ 0)
    (hs : s.path.snapshot.valid = false ∨ s.path.snapshot.tag ≠ tagOf k) :
    exec (.snapshotRead w l) s = .next (forwarded ⟨w, l, .read⟩ s) := by
  obtain ⟨i, hi⟩ : ∃ i, j.val = i + 1 := Nat.exists_eq_succ_of_ne_zero (by simpa using hj)
  rw [hi] at h
  have harr := arrive_snapshot h
  rw [if_neg (by rcases hs with hs | hs <;> simp [snapshotHolds, hs])] at harr
  rw [exec_access (a := ⟨w, l, .read⟩) rfl, systemAccess_read_held ht rfl harr]

/-- Settles O14: a protected read is decided as it arrives, by its word and by what the snapshot holds. -/
theorem protectedReads : Obligations.ProtectedReads := by
  refine ⟨fun s w l k hf hr hp hk hw => ?_, fun s w l hr => ⟨fun k j hp hk hj hw => ⟨fun hf hv ht => ?_, fun ht hs => ?_⟩,
    fun ht h => ?_⟩⟩
  · rw [word0Read_answered hf hr hp hk hw, recordWords_tagOf]; rfl
  · exact snapshotRead_answered hf (protectedRead_record hr hp rfl hk hw) hj hv ht
  · exact snapshotRead_forwarded ht (protectedRead_record hr hp rfl hk hw) hj hs
  · have hfwd : systemAccess ⟨w, l, .read⟩ s = forwarded ⟨w, l, .read⟩ s :=
      systemAccess_read ht rfl (protectedRead_none h)
    refine ⟨?_, ?_, rfl⟩
    · rw [exec_access (a := ⟨w, l, .read⟩) rfl, hfwd]
    · rw [exec_access (a := ⟨w, l, .read⟩) rfl, hfwd]

/-! ### The reset state -/

theorem shadowWord_replicate (i : Nat) : shadowWord (Vector.replicate 128 0) i = 0 := by
  unfold shadowWord
  by_cases h : i < 128 <;> simp [h]

/-- Settles O4: the values as they stand in the reset state. -/
theorem resetValues : Obligations.ResetValues := by
  have hshadow : ∀ i, shadowWord State.reset.loader.shadow i = 0 := shadowWord_replicate
  have hflags : ∀ f, flagIn State.reset f = false := by intro f; cases f <;> rfl
  have hrows : ∀ i j : Fin 8, (rowWords (State.reset.blocks.rate.rows.get i)).get j = 0 := by decide
  have hring : ∀ i : Fin 24, (State.reset.blocks.seg.ring.get i).state = .empty := by decide
  have hstarts : ∀ k : Fin 8, State.reset.blocks.seg.starts.get k = none := by decide
  have hbg : ∀ i : Fin 8, State.reset.blocks.knock.background.a.get i = none ∧
      State.reset.blocks.knock.background.b.get i = none := by decide
  exact ⟨rfl, rfl, rfl, ⟨rfl, rfl, rfl, rfl, rfl, rfl, rfl, rfl⟩, ⟨rfl, rfl, rfl, hshadow⟩,
    ⟨rfl, rfl, rfl, rfl, rfl, rfl, rfl, hflags⟩,
    ⟨rfl, rfl, rfl, rfl, rfl, rfl, rfl, rfl, rfl, rfl, rfl, rfl, rfl, rfl⟩,
    ⟨rfl, rfl, rfl, rfl, rfl, rfl, hstarts, hring⟩, ⟨rfl, rfl, rfl, hbg⟩, ⟨rfl, rfl, hrows, rfl⟩,
    ⟨rfl, rfl, rfl, rfl, rfl, rfl, rfl⟩, ⟨rfl, rfl, rfl, rfl, rfl, rfl, rfl, rfl⟩, rfl⟩

/-- Settles O13: at reset nothing is counted, seeded, pending or in progress. -/
theorem invariantsAtReset : Obligations.InvariantsAtReset := by
  have hcounts : countsAgree State.reset := by decide
  have hbg : backgroundsGood State.reset := by
    have h : ∀ i : Fin 8, State.reset.blocks.knock.background.a.get i = none ∧
        State.reset.blocks.knock.background.b.get i = none := by decide
    intro i
    rw [(h i).1, (h i).2]
    exact ⟨by simp [backgroundGood], by simp [backgroundGood]⟩
  have hsusp : suspensionFollows State.reset := by intro x; cases x <;> rfl
  exact ⟨rfl, Nat.zero_le 8, ⟨Nat.zero_le 15, fun h => (nomatch h)⟩, rfl,
    ⟨rfl, rfl, rfl, rfl, rfl, rfl, rfl, rfl, rfl, rfl⟩, hcounts, hbg, rfl, hsusp, fun _ _ => Nat.zero_le 1,
    fun _ h => (nomatch h), fun h => (nomatch h)⟩

end Sys2Proof.Machine
end

section
/-! The report writer's words and the ends of its requests (R18, R19, R34, R36, R159). -/

namespace Sys2Proof.Machine

/-! ### The next word -/

theorem requestWord_view {s t : State} (ht : t.path.table = s.path.table) (hs : t.path.setupSel = s.path.setupSel)
    (hl : t.loader = s.loader) (hb : t.blocks = s.blocks) (i : Nat) (k : RequestKind) :
    requestWord t i k = requestWord s i k := by
  cases k <;> simp only [requestWord, ht, hs, hl, hb]

/-- The shadow takes the load status word as memory takes it, and no other word of the report writer's (R22). -/
theorem shadowAtReport_requestWord (s : State) (i : Nat) (k : RequestKind) :
    shadowAtReport k (requestWord s i k).2 s.loader =
      if k = .loadStatus then
        { s.loader with shadow := s.loader.shadow.setIfInBounds 2 (loadStatusWord s.loader) }
      else s.loader := by
  cases k <;> rfl

/-- The end of a live report writer's access, with nothing of the system side waiting. -/
theorem exec_reportWriteDone_live {s : State} {a : Access} (hp : s.path.port = some ⟨.report, a, true⟩)
    (ha : s.path.access = none) (hb : s.path.bus = []) :
    exec .reportWriteDone s = .next (decideInternal (headDone (freePort s))) := by
  have hi := headDone_inside (freePort s)
  rw [exec_reportWriteDone, accessDone_some hp]
  exact congrArg _ (settled_no_access (hi.access.trans ha) (hi.bus.trans hb))

/-- The state in which an internal claimant is granted the port that has become free: the patience count is 0 (R15). -/
def portFreed (s : State) : State := { s with path := { s.path with port := none, patience := 0 } }

theorem decideInternal_freePort {s : State} {c : Claimant} (h : firstInternal (freePort s) = some c) :
    decideInternal (freePort s) = grantTo (portFreed s) c :=
  decideInternal_grants rfl h

theorem reportWord_next {s : State} {a : Access} {r : Request} {rest : List Request} (hr : s.resetPin = false)
    (hp : s.path.port = some ⟨.report, a, true⟩) (hl : s.blocks.rpw = r :: rest)
    (hw : r.granted < requestWords r.kind) (ha : s.path.access = none) (hb : s.path.bus = []) :
    let x := wordWrite (requestWord s r.granted r.kind)
    ∃ t, exec .reportWriteDone s = .next t ∧ t.resetPin = s.resetPin ∧ t.pending = s.pending ∧
      t.path = { s.path with port := some ⟨.report, x, true⟩, patience := 0 } ∧
      t.blocks = { s.blocks with rpw := { r with granted := r.granted + 1 } :: rest } ∧
      t.loader = (if r.kind = .loadStatus then
        { s.loader with shadow := s.loader.shadow.setIfInBounds 2 (loadStatusWord s.loader) } else s.loader) ∧
      storesOnly x s t := by
  intro x
  have hclaim : firstInternal (freePort s) = some .report := firstInternal_of_report hr (by simp [hl])
  have hgrant : decideInternal (freePort s) = grantReport (portFreed s) := decideInternal_freePort hclaim
  have hx : requestWord (portFreed s) r.granted r.kind = requestWord s r.granted r.kind :=
    requestWord_view rfl rfl rfl rfl _ _
  rw [exec_reportWriteDone_live hp ha hb, headDone_more (s := freePort s) hl hw, hgrant,
    grantReport_cons (s := portFreed s) hl, hx]
  exact ⟨_, rfl, rfl, rfl, rfl, rfl, shadowAtReport_requestWord s _ _, ramAfter_storesOnly rfl⟩

theorem requestWord_places (s : State) (i : Fin 8) :
    requestWord s i.val .header = (reportWordAddr s.path.table i.val, (headerWords s.blocks.rate.header).get i) ∧
    (∀ c : Fin 8, requestWord s i.val (.row c) =
      (reportWordAddr s.path.table (8 + 8 * c.val + i.val), (rowWords (s.blocks.rate.rows.get c)).get i)) ∧
    (∀ n words, requestWord s i.val (.event n words) =
      (reportWordAddr s.path.table (72 + 8 * n + if i.val = 7 then 0 else i.val + 1), words.get i)) := by
  refine ⟨?_, fun c => ?_, fun n words => ?_⟩
  · simp only [requestWord, wordOf_get]; rfl
  · simp only [requestWord, wordOf_get]; rfl
  · have hi := i.isLt
    have : (i.val + 1) % 8 = if i.val = 7 then 0 else i.val + 1 := by split <;> omega
    simp only [requestWord, wordOf_get, this]; rfl

/-- Settles O16: with words left the head of the list claims the port first, and its next word is granted. -/
theorem reportWordWritten : Obligations.ReportWordWritten := by
  refine ⟨fun s a r rest hr hp hl hw ha hb => reportWord_next hr hp hl hw ha hb, fun s i => ?_⟩
  obtain ⟨hheader, hrow, hevent⟩ := requestWord_places s i
  exact ⟨hheader, hrow, hevent, fun _ => rfl, rfl, rfl, rfl⟩

/-! ### Kinds that stay in the list -/

theorem addRequest_has (init : Bool) (k : RequestKind) (l : List Request) :
    k ∈ (addRequest init k l).map Request.kind := by
  rcases addRequest_cases init k l with ⟨_, hp, e⟩ | ⟨_, e⟩ <;> rw [e]
  · obtain ⟨r, hr, hk⟩ := List.any_eq_true.mp hp
    refine List.mem_map.mpr ⟨_, List.mem_map.mpr ⟨r, hr, rfl⟩, ?_⟩
    rw [if_pos hk]
    simp only [pendingOf, Bool.and_eq_true, decide_eq_true_eq] at hk
    exact hk.2
  · simp

theorem addRequest_keeps_kind (init : Bool) (k : RequestKind) {l : List Request} {j : RequestKind}
    (h : j ∈ l.map Request.kind) : j ∈ (addRequest init k l).map Request.kind := by
  rcases addRequest_cases init k l with ⟨_, _, e⟩ | ⟨_, e⟩ <;> rw [e]
  · obtain ⟨r, hr, hk⟩ := List.mem_map.mp h
    refine List.mem_map.mpr ⟨_, List.mem_map.mpr ⟨r, hr, rfl⟩, ?_⟩
    split <;> exact hk
  · rw [List.map_append]; exact List.mem_append_left _ h

/-- A kind that is in the list is in every list grown from it. -/
theorem Grown.keeps_kind {l m : List Request} (h : Grown l m) {k : RequestKind} (hk : k ∈ l.map Request.kind) :
    k ∈ m.map Request.kind := by
  induction h with
  | refl => exact hk
  | add init j _ ih => exact addRequest_keeps_kind init j ih

theorem requested_iff_mem {s : State} {k : RequestKind} : requested s k ↔ k ∈ s.blocks.rpw.map Request.kind := by
  simp [requested]

/-- A new operating state is followed by a LOAD-STATUS request (R24). -/
theorem announceOp_loadStatus (e : Env) (b : Blocks) : .loadStatus ∈ (announceOp e b).rpw.map Request.kind := by
  have hg : Grown (request .loadStatus b).rpw (announceOp e b).rpw := by
    unfold announceOp; rw [decideAlert_rpw]; exact tellHeader_grown .refl
  exact hg.keeps_kind (addRequest_has false .loadStatus b.rpw)

/-! ### What a change of the operating state leaves -/

/-- Two states that differ in the operating state, protection, the header, the alert state and the report writer's list
at most. -/
structure Announced (s t : State) : Prop where
  resetPin : t.resetPin = s.resetPin
  pending : t.pending = s.pending
  ram : t.ram = s.ram
  path : t.path = { s.path with protection := t.path.protection }
  loader : t.loader = { s.loader with op := t.loader.op }
  tap : t.blocks.tap = s.blocks.tap
  crank : t.blocks.crank = s.blocks.crank
  seg : t.blocks.seg = s.blocks.seg
  knock : t.blocks.knock = s.blocks.knock
  evq : t.blocks.evq = { s.blocks.evq with alert := t.blocks.evq.alert }
  frz : t.blocks.frz = s.blocks.frz
  rows : rowsKept s.blocks t.blocks

theorem Announced.refl (s : State) : Announced s s :=
  ⟨rfl, rfl, rfl, rfl, rfl, rfl, rfl, rfl, rfl, rfl, rfl, rfl, rfl, rfl⟩

theorem announced_of_announceOp {s y : State} (hr : y.resetPin = s.resetPin) (hq : y.pending = s.pending)
    (hm : y.ram = s.ram) (hp : y.path = { s.path with protection := y.path.protection })
    (hl : y.loader = { s.loader with op := y.loader.op }) (hb : y.blocks = s.blocks) :
    Announced s (onBlocks announceOp y) where
  resetPin := hr
  pending := hq
  ram := hm
  path := hp
  loader := hl
  tap := by simp [hb]
  crank := by simp [hb]
  seg := by simp [hb]
  knock := by simp [hb]
  evq := by simp [hb]
  frz := by simp [hb]
  rows := by rw [← hb]; exact announceOp_rowsKept _ _

theorem enterRunning_announced (s : State) : Announced s (enterRunning s) :=
  announced_of_announceOp rfl rfl rfl rfl rfl rfl

theorem checkStopped_announced (s : State) : Announced s (checkStopped s) := by
  unfold checkStopped; split
  · exact announced_of_announceOp rfl rfl rfl rfl rfl rfl
  · exact .refl s

theorem checkStopped_other {s : State} (h : ¬ (s.loader.op = .stopping ∧ s.blocks.rpw = [] ∧
    s.blocks.frz.writeList = [])) : checkStopped s = s := by
  unfold checkStopped; exact if_neg h

theorem checkStopped_drained {s : State} (ho : s.loader.op = .stopping) (hl : s.blocks.rpw = [])
    (hf : s.blocks.frz.writeList = []) :
    checkStopped s = onBlocks announceOp { s with loader := { s.loader with op := .stopped } } := by
  unfold checkStopped; exact if_pos ⟨ho, hl, hf⟩

theorem initialising_eq_false {l : List Request} : initialising l = false ↔ ∀ q ∈ l, q.initial = false := by
  simp [initialising]

/-! ### The last word of a request -/

/-- The state at the end of a request's last word, the head of the list removed. -/
def afterHead (s : State) (rest : List Request) : State := headRemoved (freePort s) rest

/-- What LOADER does with a request of its own that has left the list: it enters RUNNING, ends STOPPING, or does
nothing (R19, R34, R36). -/
theorem headDone_other_cases {s : State} {r : Request} {rest : List Request} (hl : s.blocks.rpw = r :: rest)
    (hw : requestWords r.kind ≤ r.granted) (hk : ∀ n words, r.kind ≠ .event n words) :
    let ready := s.loader.op = .loading ∧ s.loader.phase = .initialising ∧ r.initial = true ∧
      ∀ q ∈ rest, q.initial = false
    let drained := s.loader.op = .stopping ∧ rest = [] ∧ s.blocks.frz.writeList = []
    Announced (afterHead s rest) (headDone (freePort s)) ∧
      (ready → headDone (freePort s) = enterRunning (afterHead s rest)) ∧
      (drained → headDone (freePort s) = onBlocks announceOp
        { afterHead s rest with loader := { s.loader with op := .stopped } }) ∧
      (¬ ready → ¬ drained → headDone (freePort s) = afterHead s rest) := by
  intro ready drained
  have hx : headDone (freePort s) = checkStopped (requestLeft r (afterHead s rest)) := by
    rw [headDone_last (s := freePort s) hl hw, makerTold_other hk]; rfl
  have hready : ready → requestLeft r (afterHead s rest) = enterRunning (afterHead s rest) := by
    rintro ⟨ho, hph, hi, hq⟩
    exact if_pos ⟨ho, hph, hi, initialising_eq_false.mpr hq⟩
  have hnot : ¬ ready → requestLeft r (afterHead s rest) = afterHead s rest := fun h =>
    if_neg fun ⟨ho, hph, hi, hq⟩ => h ⟨ho, hph, hi, initialising_eq_false.mp hq⟩
  have hrun : ready → headDone (freePort s) = enterRunning (afterHead s rest) := fun h => by
    rw [hx, hready h]; exact checkStopped_other fun hc => by cases hc.1
  have hstop : drained → headDone (freePort s) = onBlocks announceOp
      { afterHead s rest with loader := { s.loader with op := .stopped } } := by
    rintro ⟨ho, hr, hf⟩
    rw [hx, hnot fun h => by simp [ready, ho] at h]
    exact checkStopped_drained ho hr hf
  have hsame : ¬ ready → ¬ drained → headDone (freePort s) = afterHead s rest := fun h1 h2 => by
    rw [hx, hnot h1]; exact checkStopped_other h2
  refine ⟨?_, hrun, hstop, hsame⟩
  by_cases h1 : ready
  · rw [hrun h1]; exact enterRunning_announced _
  · rw [hx, hnot h1]; exact checkStopped_announced _

/-- Settles O17: LOADER is told that the request left, and the arbiter grants at most the next claim. -/
theorem requestLeavesList : Obligations.RequestLeavesList := by
  intro s a r rest hr hp hl hw hk ha hb ready drained
  obtain ⟨han, hready, hdrained, hsame⟩ := headDone_other_cases hl hw hk
  rw [exec_reportWriteDone_live hp ha hb]
  have g := decideInternal_kept (headDone (freePort s))
  generalize decideInternal (headDone (freePort s)) = t at g
  have hpath : t.path = { s.path with
      protection := t.path.protection, port := t.path.port, patience := t.path.patience } := by
    rw [g.path, han.path]; rfl
  have hloader : t.loader = { s.loader with op := t.loader.op, shadow := t.loader.shadow } := by
    rw [g.loader, han.loader]; rfl
  have hevq : t.blocks.evq = { s.blocks.evq with alert := t.blocks.evq.alert } := by rw [g.evq, han.evq]; rfl
  have hshadow : ∀ i, i ≠ 2 → shadowWord t.loader.shadow i = shadowWord s.loader.shadow i := fun i hi => by
    rw [g.shadow i hi, han.loader]; rfl
  refine ⟨t, rfl, (g.resetPin.trans han.resetPin).trans hr, g.pending.trans han.pending, hpath, hloader, hshadow,
    fun n hn => (g.ram n hn).trans (by rw [han.ram]; rfl), g.tap.trans han.tap, g.crank.trans han.crank,
    g.seg.trans han.seg, g.knock.trans han.knock, g.frz.trans han.frz, hevq, g.rowsKept han.rows,
    fun h => ?_, fun h => ?_, fun h1 h2 => ?_⟩
  · rw [hready h] at g
    refine ⟨g.op, g.protection, ?_, g.requests.requested_iff.mp (requested_iff_mem.mpr (announceOp_loadStatus _ _))⟩
    rw [g.rate]; exact announceOp_header_op _ _
  · rw [hdrained h] at g
    refine ⟨g.op, g.protection, ?_, g.requests.requested_iff.mp (requested_iff_mem.mpr (announceOp_loadStatus _ _))⟩
    rw [g.rate]; exact announceOp_header_op _ _
  · rw [hsame h1 h2] at g
    exact ⟨g.op, g.protection, g.requests.kinds.symm, g.blocks⟩

/-! ### The last word of an event record -/

/-- The state at the end of a slot's ownership word, the slot READY. -/
def afterSlot (s : State) (n : Nat) (rest : List Request) : State :=
  onBlocks (fun e => slotReady e.op n) (afterHead s rest)

theorem slotReady_slots (op : OpState) (n : Nat) (b : Blocks) (m : Nat) :
    (slotReady op n b).evq.slots[m]? =
      if n = m then b.evq.slots[m]?.map readySlot else b.evq.slots[m]? := by
  simp only [slotReady, decideAlert_slots, List.getElem?_modify]
  split <;> simp

/-- A slot that is READY with a kind the mask names makes the alert ACTIVE where the part is in charge (R162). -/
theorem alertOf_ready {op : OpState} {q : Evq} {n : Nat} {k : EventKind} (ho : inCharge op = true)
    (hs : q.slots[n]? = some (.ready k)) (hm : maskNames q.alertMask k = true) : alertOf op q = true := by
  unfold alertOf
  rw [ho, Bool.true_and, List.any_eq_true]
  exact ⟨_, List.mem_of_getElem? hs, hm⟩

theorem alertOf_not_inCharge {op : OpState} (q : Evq) (h : inCharge op = false) : alertOf op q = false := by
  simp [alertOf, h]

/-- The end of STOPPING leaves the alert state as the state of before gives it, since the part stays in charge. -/
theorem checkStopped_alert {s : State} (h : s.blocks.evq.alert = alertOf s.loader.op s.blocks.evq) :
    (checkStopped s).blocks.evq.alert = alertOf s.loader.op s.blocks.evq := by
  rcases checkStopped_cases s with e | ⟨ho, _, _, e⟩ <;> rw [e]
  · exact h
  · rw [onBlocks_blocks, announceOp_evq, ho]; rfl

/-- Settles O18: EVQ makes the slot READY and decides the alert, and LOADER may then end STOPPING. -/
theorem eventRecordReady : Obligations.EventRecordReady := by
  intro s a r rest n words k hr hp hl hkind hw ha hb hslot drained
  have hw' : requestWords r.kind ≤ r.granted := by rw [hkind]; exact hw
  have hx : headDone (freePort s) = checkStopped (afterSlot s n rest) := by
    rw [headDone_last (s := freePort s) hl hw', makerTold_event hkind]; rfl
  rw [exec_reportWriteDone_live hp ha hb]
  have g := decideInternal_kept (headDone (freePort s))
  generalize decideInternal (headDone (freePort s)) = t at g
  rw [hx] at g
  have hslots : ∀ m, (slotReady s.loader.op n s.blocks).evq.slots[m]? =
      if n = m then slotIn s m |>.map readySlot else slotIn s m := slotReady_slots s.loader.op n s.blocks
  have halert := checkStopped_alert (s := afterSlot s n rest) rfl
  have hdrained : drained → t.loader.op = .stopped := fun ⟨ho, hrest, hf⟩ => by
    rw [g.op, checkStopped_drained (s := afterSlot s n rest) ho hrest hf]; rfl
  have hother : ¬ drained → t.loader.op = s.loader.op := fun h => by
    rw [g.op, checkStopped_other (s := afterSlot s n rest) h]; rfl
  have han := checkStopped_announced (afterSlot s n rest)
  have hpath := checkStopped_path (afterSlot s n rest)
  generalize checkStopped (afterSlot s n rest) = x at *
  have hts : t.blocks.evq.slots = (slotReady s.loader.op n s.blocks).evq.slots := by rw [g.evq, han.evq]; rfl
  have hn : (slotReady s.loader.op n s.blocks).evq.slots[n]? = some (.ready k) := by
    rw [hslots, if_pos rfl, hslot]; rfl
  refine ⟨t, rfl, (g.resetPin.trans han.resetPin).trans hr, g.pending.trans han.pending, ?_, fun m hm => ?_, ?_,
    fun ho hm => ?_, fun ho => ?_, g.tap.trans han.tap, g.crank.trans han.crank, g.seg.trans han.seg,
    g.knock.trans han.knock, g.frz.trans han.frz, g.rowsKept han.rows, ?_, ?_, fun i hi => ?_,
    fun m hm => (g.ram m hm).trans (by rw [han.ram]; rfl), hdrained, hother⟩
  · rw [slotIn, hts, hn]
  · rw [slotIn, hts, hslots, if_neg (Ne.symm hm)]
  · rw [g.evq, han.evq]; rfl
  · rw [g.evq, halert]; exact alertOf_ready ho hn hm
  · rw [g.evq, halert]; exact alertOf_not_inCharge _ ho
  · rw [g.path, hpath]; rfl
  · rw [g.loader, han.loader]; rfl
  · rw [g.shadow i hi, han.loader]; rfl

end Sys2Proof.Machine
end

section
/-! A START, and the reads of a load (R25 to R27, R33). -/

namespace Sys2Proof.Machine

/-! ### Accesses to the setup block -/

theorem lowestLane_lt (l : Lanes) : lowestLane l < 4 := by
  cases l with
  | word => decide
  | half high => cases high <;> decide
  | byte k => exact k.isLt

/-- An access to a setup word falls in the SETUP window, at that word (R2). -/
theorem windowOf_setupAccess (s : State) {off : Nat} (h : off < 128) (l : Lanes) (d : Word) :
    windowOfAccess s (setupAccess s off l d) = .setup off := by
  have hsel := s.path.setupSel.isLt
  have hl := lowestLane_lt l
  have hb : byteAddr (setupAccess s off l d) = setupBaseByte s.path.setupSel + 4 * off + lowestLane l := by
    simp only [byteAddr, setupAccess, setupWordAddr, setupBaseByte, BitVec.toNat_ofNat]
    rw [Nat.mod_eq_of_lt (by omega)]; omega
  unfold windowOfAccess
  rw [hb, windowOf_setup]
  · congr 1; omega
  · rw [inSetup, within_iff]; unfold Config.setupWords; omega

/-- A word write to the control word is a command (R5). -/
theorem writeFate_command {s : State} (hr : s.resetPin = false) (d : Word) :
    writeFate s (setupAccess s 1 .word d) d = .command := by
  rw [writeFate_window _ _ hr, windowOf_setupAccess s (by decide)]; rfl

/-! ### START (R25, R26) -/

/-- A header update gives the fields it is told, and a sequence number. -/
theorem tellHeader_header (e : Env) (f : Header → Header) (b : Blocks) :
    (tellHeader e f b).rate.header = { f b.rate.header with seq := (tellHeader e f b).rate.header.seq } := by
  unfold tellHeader; split
  · next h => rw [h]
  · simp

theorem announceOp_header (e : Env) (b : Blocks) :
    (announceOp e b).rate.header =
      { b.rate.header with op := e.op, seq := (announceOp e b).rate.header.seq } :=
  tellHeader_header e (fun h => { h with op := e.op }) (request .loadStatus b)

theorem takeCommand_start {s : State} (h : s.loader.op = .unconfigured ∨ s.loader.op = .stopped) :
    takeCommand 1 s = takeStart s := by
  show commandStart s = _
  unfold commandStart
  rcases h with h | h <;> rw [h]

theorem addRequest_pending (init : Bool) (k : RequestKind) (l : List Request) :
    pendingCount k (addRequest init k l) ≠ 0 := by
  rcases addRequest_cases init k l with ⟨_, hp, e⟩ | ⟨_, e⟩ <;> rw [e]
  · rw [pendingCount_marked, Ne, pendingCount_eq_zero, hp]; simp
  · rw [Ne, pendingCount_eq_zero]; simp [pendingOf]

/-- A request made twice coalesces with itself (R20). -/
theorem addRequest_twice (init : Bool) {k : RequestKind} (hk : coalesces k = true) (l : List Request) :
    addRequest false k (addRequest init k l) = addRequest init k l :=
  (addRequest_coalesced_keeps false hk (addRequest_pending init k l)).2 rfl

/-- Settles O19: the write is granted, and LOADER takes the command in these two states. -/
theorem startBeginsLoad : Obligations.StartBeginsLoad := by
  intro s ht hr ho a
  have hexec : exec .start s = .next (takeStart (forwarded a s)) := by
    rw [exec_granted (d := 1) rfl rfl ht (writeFate_command hr 1) rfl]
    exact congrArg _ (takeCommand_start (s := forwarded a s) ho)
  have hrpw := (announceOp_rpw_invalid (e := (beginLoad (forwarded a s)).env) rfl (commandRequests s.blocks)).trans
    (addRequest_twice false rfl (addRequest false .controlNone s.blocks.rpw))
  exact ⟨_, hexec, hr, rfl, ramAfter_storesOnly rfl, rfl, rfl, hrpw, announceOp_tap _ _, announceOp_crank _ _,
    announceOp_seg _ _, announceOp_knock _ _, announceOp_frz _ _, announceOp_evq _ _, announceOp_rowsKept _ _, announceOp_header _ _⟩

/-! ### LOADER's reads (R26, R27, R33) -/

/-- The end of a live read of LOADER, with nothing of the system side waiting. -/
theorem exec_loaderReadDone_live {s : State} {a : Access} (hp : s.path.port = some ⟨.loader, a, true⟩)
    (ha : s.path.access = none) (hb : s.path.bus = []) :
    exec .loaderReadDone s = .next (decideInternal (loaderRead (ramWord s.ram a.addr) (freePort s))) := by
  have hi := loaderRead_inside (ramWord s.ram a.addr) (freePort s)
  rw [exec_loaderReadDone, accessDone_some hp]
  exact congrArg _ (settled_no_access (hi.access.trans ha) (hi.bus.trans hb))

/-- The next read: the shadow takes the word, and LOADER's claim is granted again. -/
theorem loaderRead_next {s : State} {d : Word} (hr : s.resetPin = false) (ho : s.loader.op = .loading)
    (hph : s.loader.phase = .reading) (hn : s.loader.readsDone + 1 < 128) (hl : s.blocks.rpw = []) :
    decideInternal (loaderRead d (freePort s)) =
      grantLoader (portFreed { s with loader := loaderAfterRead d s.loader }) := by
  rw [loaderRead_more (s := freePort s) (Nat.ne_of_lt hn)]
  have hclaims : loaderClaims (loaderAfterRead d s.loader) = true := (loaderClaims_iff _).mpr ⟨ho, hph, hn⟩
  exact decideInternal_freePort (s := { s with loader := loaderAfterRead d s.loader })
    (firstInternal_of_loader hr hl hclaims)

/-- LOADER at the end of the 128th read, with the shadow given. -/
def loaderFull (sh : Shadow) (l : Loader) : Loader := { l with shadow := sh, readsDone := 128 }

/-- The state at the end of the 128th read, before validation. -/
def allRead (sh : Shadow) (s : State) : State := { freePort s with loader := loaderFull sh s.loader }

theorem loaderRead_full {s : State} {d : Word} (h : s.loader.readsDone = 127) :
    loaderRead d (freePort s) = endOfReading (allRead (s.loader.shadow.setIfInBounds 127 d) s) := by
  have hl : loaderAfterRead d s.loader = loaderFull (s.loader.shadow.setIfInBounds 127 d) s.loader := by
    unfold loaderAfterRead loaderFull shadowSet; rw [h]; rfl
  rw [loaderRead_last (s := freePort s) (by rw [freePort_loader, h]), freePort_loader, hl]; rfl

/-! A load that fails. -/

theorem loadFailed_clause {s t : State} {sh : Shadow} {code : ResultCode} {off : Nat}
    (g : Granted (loadFailed code off (allRead sh s)) t) :
    t.loader = { s.loader with
      op := .unconfigured, result := code, offset := off, readsDone := 128, shadow := t.loader.shadow } ∧
    (∀ i, i ≠ 2 → shadowWord t.loader.shadow i = shadowWord sh i) ∧
    t.path = { s.path with port := t.path.port, patience := t.path.patience } ∧ requested t .loadStatus ∧
    t.blocks.tap = s.blocks.tap ∧ t.blocks.crank = s.blocks.crank ∧ t.blocks.seg = s.blocks.seg ∧
    t.blocks.knock = s.blocks.knock ∧ t.blocks.frz = s.blocks.frz ∧
    t.blocks.evq = { s.blocks.evq with alert := false } ∧ rowsKept s.blocks t.blocks ∧ onlyPortWrites s t := by
  refine ⟨by rw [g.loader]; rfl, g.shadow, by rw [g.path]; rfl,
    g.requests.requested_iff.mp (requested_iff_mem.mpr (announceOp_loadStatus _ _)),
    g.tap.trans (announceOp_tap _ _), g.crank.trans (announceOp_crank _ _), g.seg.trans (announceOp_seg _ _),
    g.knock.trans (announceOp_knock _ _), g.frz.trans (announceOp_frz _ _), g.evq.trans (announceOp_evq _ _),
    g.rowsKept (announceOp_rowsKept _ _), g.onlyPortWrites⟩

/-! A load that succeeds. -/

theorem any_pendingOf_false {k : RequestKind} {l : List Request} (h : k ∉ l.map Request.kind) :
    l.any (pendingOf k) = false := by
  rw [List.any_eq_false]
  intro r hr hp
  simp only [pendingOf, Bool.and_eq_true, decide_eq_true_eq] at hp
  exact h (List.mem_map.mpr ⟨r, hr, hp.2⟩)

/-- Requests of distinct kinds, none of which is in the list, join it in their order. -/
theorem foldl_addRequest_kinds (init : Bool) : ∀ (ks : List RequestKind) (m : List Request), ks.Nodup →
    (∀ k ∈ ks, k ∉ m.map Request.kind) →
    (ks.foldl (fun l k => addRequest init k l) m).map Request.kind = m.map Request.kind ++ ks
  | [], m, _, _ => by simp
  | k :: ks, m, hn, hm => by
    have hk := addRequest_joins init (.inr (any_pendingOf_false (hm k List.mem_cons_self)))
    obtain ⟨hkn, hn'⟩ := List.nodup_cons.mp hn
    rw [List.foldl_cons, foldl_addRequest_kinds init ks _ hn', hk]
    · simp
    · intro j hj
      rw [hk]
      have hjk : j ≠ k := fun h => hkn (h ▸ hj)
      simpa [hjk] using hm j (List.mem_cons_of_mem _ hj)

theorem initialRequests_nodup (q : Nat) : (initialRequests q).Nodup := by
  have hrows : ((List.range 8).map (fun c => RequestKind.row (Fin.ofNat 8 c))).Nodup := by decide
  have hslots : ((List.range q).map RequestKind.slotEmpty).Nodup :=
    List.pairwise_map.mpr (List.nodup_range.imp fun hne h => hne (RequestKind.slotEmpty.inj h))
  unfold initialRequests
  refine List.nodup_cons.mpr ⟨by simp, List.nodup_append.mpr ⟨List.nodup_append.mpr ⟨hrows, hslots, ?_⟩, by simp, ?_⟩⟩
  · intro k hk j hj hkj
    obtain ⟨_, _, rfl⟩ := List.mem_map.mp hk
    obtain ⟨_, _, rfl⟩ := List.mem_map.mp hj
    cases hkj
  · intro k hk j hj hkj
    rw [hkj, List.mem_singleton.mp hj] at hk
    simp at hk

theorem initialRequests_no_loadStatus (q : Nat) : .loadStatus ∉ initialRequests q := by
  simp [initialRequests]

/-- From an empty list the requests of R33 stand in their order, LOAD-STATUS last. -/
theorem loadSucceeded_kinds {s : State} (h : s.blocks.rpw = []) :
    (loadSucceeded s).blocks.rpw.map Request.kind =
      initialRequests (fQueueCapacity (shadowWord s.loader.shadow)) ++ [.loadStatus] := by
  rw [loadSucceeded_blocks, h]
  dsimp only
  have hk := foldl_addRequest_kinds true (initialRequests (fQueueCapacity (shadowWord s.loader.shadow))) []
    (initialRequests_nodup _) (by simp)
  rw [addRequest_joins false (.inr (any_pendingOf_false (by rw [hk]; simpa using initialRequests_no_loadStatus _))),
    List.map_append, hk]
  rfl

/-- A grant to the report writer for a request other than LOAD-STATUS leaves LOADER. -/
theorem decideInternal_loader_kept {s : State} {r : Request} {rest : List Request} (hp : s.path.port = none)
    (hr : s.resetPin = false) (hl : s.blocks.rpw = r :: rest) (hk : r.kind ≠ .loadStatus) :
    (decideInternal s).loader = s.loader := by
  have hs : ({ s with path := { s.path with patience := 0 } } : State).blocks.rpw = r :: rest := hl
  rw [decideInternal_grants hp (firstInternal_of_report hr (by simp [hl])), grantInternal, grantTo,
    grantReport_cons hs, grant_loader]
  unfold shadowAtReport; split
  · next h => exact absurd h hk
  · rfl

theorem freezeModeOf_off (n : Nat) : freezeModeOf n = .off ↔ n = 0 := by
  match n with
  | 0 => simp [freezeModeOf]
  | 1 => simp [freezeModeOf]
  | n + 2 => simp [freezeModeOf]

theorem polarityOf_eq (n : Nat) : polarityOf n = if n = 0 then .low else .high := by
  cases n <;> rfl

theorem frzStart_eq (r : Reader) :
    frzStart r = { Frz.reset with
      mode := freezeModeOf (fFreezeMode r), state := if fFreezeMode r = 0 then .idle else .armed } := by
  unfold frzStart; simp only [freezeModeOf_off]

/-- The blocks after a good load (R33), as they stand once the arbiter has decided. -/
theorem loadSucceeded_values {s t : State} (g : Granted (loadSucceeded s) t) :
    let r := shadowWord s.loader.shadow
    t.blocks.tap = Tap.reset ∧ t.blocks.crank = Crank.reset ∧ t.blocks.seg = Seg.reset ∧
      t.blocks.knock = Knock.reset ∧ t.blocks.rate = rateStart r ∧ t.blocks.evq = evqStart r ∧
      t.blocks.frz = frzStart r := by
  rw [g.tap, g.crank, g.seg, g.knock, g.rate, g.evq, g.frz, loadSucceeded_blocks]
  exact ⟨rfl, rfl, rfl, rfl, rfl, rfl, rfl⟩

theorem loadSucceeded_shadow {s : State} (hp : s.path.port = none) (hr : s.resetPin = false)
    (h : s.blocks.rpw = []) :
    (decideInternal (loadSucceeded s)).loader.shadow = s.loader.shadow := by
  have hk := loadSucceeded_kinds h
  obtain ⟨r, rest, hl, hkind, _⟩ := List.map_eq_cons_iff.mp hk
  rw [decideInternal_loader_kept (s := loadSucceeded s) hp hr hl (by rw [hkind]; simp)]
  rfl

/-- Settles O22: below the 128th read LOADER's own claim comes first; at the 128th validation decides, and the arbiter
grants at most the next claim. -/
theorem loaderReads : Obligations.LoaderReads := by
  intro s a hr hp ha hb ho hph sh verdict requests
  have hreq : requests = initialRequests (fQueueCapacity (shadowWord sh)) := by
    simp only [requests, initialRequests, List.cons_append]
  rw [exec_loaderReadDone_live hp ha hb]
  refine ⟨fun hn hl => ?_, fun h code off hv => ?_, fun h hv => ?_⟩
  · rw [loaderRead_next hr ho hph hn hl]; rfl
  · rw [loaderRead_full h, endOfReading_failed (s := allRead sh s) hv]
    have g := decideInternal_kept (loadFailed code off (allRead sh s))
    exact ⟨_, rfl, g.resetPin.trans hr, g.pending, loadFailed_clause g⟩
  · rw [loaderRead_full h, endOfReading_good (s := allRead sh s) hv]
    have g := decideInternal_kept (loadSucceeded (allRead sh s))
    have hshadow := loadSucceeded_shadow (s := allRead sh s) rfl hr
    generalize decideInternal (loadSucceeded (allRead sh s)) = t at g hshadow
    obtain ⟨htap, hcrank, hseg, hknock, hrate, hevq, hfrz⟩ := loadSucceeded_values g
    refine ⟨t, rfl, g.resetPin.trans hr, g.pending, by rw [g.loader]; rfl, g.shadow, hshadow, by rw [g.path]; rfl,
      ?_, fun hl => ?_, htap, hcrank, hseg, hknock, hrate, by rw [hevq]; rfl, by rw [hevq]; rfl, by rw [hevq]; rfl,
      by rw [hevq]; rfl, by rw [hevq]; rfl, by rw [hevq]; exact polarityOf_eq _, by rw [hevq]; rfl,
      hfrz.trans (frzStart_eq _), g.onlyPortWrites⟩
    · rw [← g.requests.kinds, loadSucceeded_blocks, hreq]; rfl
    · rw [← g.requests.kinds, loadSucceeded_kinds (s := allRead sh s) hl, hreq]; rfl

end Sys2Proof.Machine
end

section
/-! Writes to protected words: flag-clear, drops, and the releases of slots and of the frame (R5, R8 to R11, R53). -/

namespace Sys2Proof.Machine

/-! ### Flags -/

theorem flagPlace_lt (f : Flag) : flagPlace f < 10 := by cases f <;> decide

theorem flagPlace_inj {f g : Flag} : flagPlace f = flagPlace g ↔ f = g := by
  cases f <;> cases g <;> decide

theorem flagBit_getLsbD (f : Flag) {i : Nat} (hi : i < 10) : (flagBit f).getLsbD i = decide (flagPlace f = i) := by
  have h : ∀ j : Fin 10, (flagBit f).getLsbD j = decide (flagPlace f = j) := by cases f <;> decide
  exact h ⟨i, hi⟩

/-- The flags after one is cleared. -/
theorem clearFlag_getLsbD (e : Env) (f : Flag) (b : Blocks) (i : Nat) :
    (clearFlag e f b).tap.flags.getLsbD i = (b.tap.flags.getLsbD i && !decide (flagPlace f = i)) := by
  by_cases hi : i < 10
  · unfold clearFlag; split
    · simp only [tellFlags_tap, BitVec.getLsbD_and, BitVec.getLsbD_not, flagBit_getLsbD f hi, hi, decide_true,
        Bool.true_and]
    · next h =>
      by_cases hf : flagPlace f = i
      · subst hf; simpa [flagSet] using h
      · simp [hf]
  · rw [BitVec.getLsbD_of_ge _ i (by omega), BitVec.getLsbD_of_ge _ i (by omega), Bool.false_and]

theorem clearFlag_tap_eq (e : Env) (f : Flag) (b : Blocks) :
    (clearFlag e f b).tap = { b.tap with flags := (clearFlag e f b).tap.flags } := by
  unfold clearFlag; split <;> simp

theorem clearFlagsOf_tap_eq (e : Env) (m : Word) (l : List Flag) (b : Blocks) :
    (clearFlagsOf e m l b).tap = { b.tap with flags := (clearFlagsOf e m l b).tap.flags } := by
  induction l generalizing b with
  | nil => rfl
  | cons f l ih =>
    simp only [clearFlagsOf]
    split
    · rw [ih (clearFlag e f b), clearFlag_tap_eq e f b]
    · exact ih b

/-- The flags after those of a list are cleared whose places the mask names. -/
theorem clearFlagsOf_getLsbD (e : Env) (m : Word) (l : List Flag) (b : Blocks) (i : Nat) :
    (clearFlagsOf e m l b).tap.flags.getLsbD i =
      (b.tap.flags.getLsbD i && !l.any (fun f => m.getLsbD (flagPlace f) && decide (flagPlace f = i))) := by
  induction l generalizing b with
  | nil => simp [clearFlagsOf]
  | cons f l ih =>
    simp only [clearFlagsOf, List.any_cons]
    rw [ih]
    split
    · next h => rw [clearFlag_getLsbD, h]; simp [Bool.and_assoc]
    · next h => simp [h]

theorem exists_flagPlace : ∀ i < 10, ∃ f ∈ allFlags, flagPlace f = i := by decide

theorem allFlags_any (m : Word) {i : Nat} (hi : i < 10) :
    allFlags.any (fun f => m.getLsbD (flagPlace f) && decide (flagPlace f = i)) = m.getLsbD i := by
  obtain ⟨f, hf, hplace⟩ := exists_flagPlace i hi
  rw [Bool.eq_iff_iff, List.any_eq_true]
  constructor
  · rintro ⟨g, _, hg⟩
    obtain ⟨hm, hi⟩ := (Bool.and_eq_true _ _).mp hg
    exact of_decide_eq_true hi ▸ hm
  · exact fun hm => ⟨f, hf, by simp [hplace, hm]⟩

/-- A flag-clear mask clears the flags whose places hold 1, and no other (R53). -/
theorem clearFlags_tap (e : Env) (m : Word) (b : Blocks) :
    (clearFlags e m b).tap = { b.tap with flags := b.tap.flags &&& ~~~(m.setWidth 10) } := by
  have h : (clearFlags e m b).tap.flags = b.tap.flags &&& ~~~(m.setWidth 10) := by
    apply BitVec.eq_of_getLsbD_eq
    intro i hi
    rw [clearFlags, clearFlagsOf_getLsbD, allFlags_any m hi]
    simp [hi]
  rw [← h]; exact clearFlagsOf_tap_eq e m allFlags b

theorem clearFlagsOf_none (e : Env) (m : Word) (l : List Flag) (b : Blocks)
    (h : ∀ f ∈ l, m.getLsbD (flagPlace f) = true → flagSet b.tap f = false) : clearFlagsOf e m l b = b := by
  induction l with
  | nil => rfl
  | cons f l ih =>
    have hb : (if m.getLsbD (flagPlace f) = true then clearFlag e f b else b) = b := by
      split
      · next hm =>
        unfold clearFlag; exact if_neg (by simp [h f List.mem_cons_self hm])
      · rfl
    rw [clearFlagsOf, hb]
    exact ih fun g hg => h g (List.mem_cons_of_mem _ hg)

/-- A mask that names no flag that is set does nothing. -/
theorem clearFlags_none {e : Env} {m : Word} {b : Blocks} (h : b.tap.flags &&& m.setWidth 10 = 0) :
    clearFlags e m b = b := by
  refine clearFlagsOf_none e m allFlags b fun f _ hm => ?_
  have hf := congrArg (fun v => v.getLsbD (flagPlace f)) h
  simpa [flagSet, hm, flagPlace_lt f] using hf

/-! Suspension follows the KNOCK_SKIP flags (R47, R53). -/

theorem knockFlagCleared_get (f : Flag) (k : Knock) (x : Sensor) :
    (knockFlagCleared f k).suspended.get x = (k.suspended.get x && !decide (f = skipFlag x)) := by
  cases f <;> cases x <;>
    simp [knockFlagCleared, flagSensor, resume, skipFlag, PerSensor.get, PerSensor.set]

theorem knockFlagCleared_eq (f : Flag) (k : Knock) :
    knockFlagCleared f k = { k with suspended := (knockFlagCleared f k).suspended } := by
  unfold knockFlagCleared; split <;> rfl

theorem clearFlag_knock (e : Env) (f : Flag) (b : Blocks) :
    (clearFlag e f b).knock = if flagSet b.tap f then knockFlagCleared f b.knock else b.knock := by
  unfold clearFlag; split <;> simp

theorem clearFlagsOf_knock_eq (e : Env) (m : Word) (l : List Flag) (b : Blocks) :
    (clearFlagsOf e m l b).knock = { b.knock with suspended := (clearFlagsOf e m l b).knock.suspended } := by
  induction l generalizing b with
  | nil => rfl
  | cons f l ih =>
    simp only [clearFlagsOf]
    split
    · rw [ih (clearFlag e f b), clearFlag_knock]
      split
      · rw [knockFlagCleared_eq]
      · rfl
    · exact ih b

theorem flagSet_clearFlag (e : Env) (f g : Flag) (b : Blocks) :
    flagSet (clearFlag e f b).tap g = (flagSet b.tap g && !decide (f = g)) := by
  simp only [flagSet, clearFlag_getLsbD, flagPlace_inj]

/-- Sensor x stays suspended unless its KNOCK_SKIP flag is one of those cleared. -/
theorem clearFlagsOf_suspended (e : Env) (m : Word) (x : Sensor) (l : List Flag) (b : Blocks) :
    (clearFlagsOf e m l b).knock.suspended.get x =
      (b.knock.suspended.get x &&
        !(decide (skipFlag x ∈ l) && (m.getLsbD (flagPlace (skipFlag x)) && flagSet b.tap (skipFlag x)))) := by
  induction l generalizing b with
  | nil => simp [clearFlagsOf]
  | cons f l ih =>
    simp only [clearFlagsOf]
    rw [ih]
    by_cases hf : f = skipFlag x
    · subst hf
      cases hm : m.getLsbD (flagPlace (skipFlag x)) <;> cases hs : flagSet b.tap (skipFlag x) <;>
        simp [clearFlag_knock, flagSet_clearFlag, knockFlagCleared_get, hs]
    · have hg : ¬ skipFlag x = f := Ne.symm hf
      have hk : (clearFlag e f b).knock.suspended.get x = b.knock.suspended.get x := by
        rw [clearFlag_knock]; split
        · rw [knockFlagCleared_get]; simp [hf]
        · rfl
      split <;> simp [hk, flagSet_clearFlag, hf, hg]

theorem skipFlag_mem (x : Sensor) : skipFlag x ∈ allFlags := by cases x <;> decide

/-- A flag that is set, and the flags beside it (R51). -/
theorem setFlag_flagSet (e : Env) (f g : Flag) (b : Blocks) :
    flagSet (setFlag e f b).tap g = (flagSet b.tap g || decide (f = g)) := by
  unfold setFlag; split
  · next h =>
    by_cases hf : f = g
    · subst hf; simp [h]
    · simp [hf]
  · simp [flagSet, flagBit_getLsbD f (flagPlace_lt g), flagPlace_inj]

theorem setFlag_tap_eq (e : Env) (f : Flag) (b : Blocks) :
    (setFlag e f b).tap = { b.tap with flags := (setFlag e f b).tap.flags } := by
  unfold setFlag; split <;> simp

theorem setFlag_protect_knock (e : Env) (b : Blocks) : (setFlag e .protect b).knock = b.knock := by
  unfold setFlag; split <;> simp [knockFlagSet, flagSensor]

/-! ### FLAG_CLEAR (R11, R53) -/

theorem writeFate_report {s : State} {a : Access} {w : Nat} (d : Word) (hr : s.resetPin = false)
    (hp : s.path.protection = true) (hw : windowOfAccess s a = .report w) :
    writeFate s a d = reportFate s w a.lanes d := by
  rw [writeFate_window a d hr, hw]; exact if_pos hp

theorem writeFate_freeze {s : State} {a : Access} {w : Nat} (d : Word) (hr : s.resetPin = false)
    (hp : s.path.protection = true) (hw : windowOfAccess s a = .freeze w) :
    writeFate s a d = freezeFate s w a.lanes d := by
  rw [writeFate_window a d hr, hw]; exact if_pos hp

/-- Settles O37: the write is consumed, TAP clears the named flags one after the other, and KNOCK and RATE are told of
each. -/
theorem flagClearConsumed : Obligations.FlagClearConsumed := by
  intro s l d ht hr hp a hw mask
  have hfate : writeFate s a d = .flagClear := writeFate_report d hr hp hw
  obtain ⟨t, hexec, hend, htx⟩ := exec_ended (c := .flagClear l d) rfl rfl ht hfate rfl
  have g : Granted (onBlocks (fun e => clearFlags e mask) (endedBy a .consumed d s)) t := htx ▸ decideInternal_kept _
  refine ⟨t, hexec, hend, g.tap.trans (clearFlags_tap _ _ _), fun x => ?_, ?_, g.crank.trans (clearFlags_crank _ _ _),
    g.seg.trans (clearFlags_seg _ _ _), g.evq.trans (clearFlags_evq _ _ _), g.frz.trans (clearFlags_frz _ _ _),
    g.rowsKept ?_, fun hn => ?_⟩
  · rw [g.knock]
    refine (clearFlagsOf_suspended _ mask x allFlags s.blocks).trans ?_
    simp [skipFlag_mem x]
  · rw [g.knock]; exact clearFlagsOf_knock_eq _ mask allFlags s.blocks
  · simp [rowsKept]
  · have hid : onBlocks (fun e => clearFlags e mask) (endedBy a .consumed d s) = endedBy a .consumed d s :=
      onBlocks_id (clearFlags_none hn)
    rw [hid] at g
    exact g.blocks

/-! ### Drops with PROTECT (R8, R10) -/

/-- What a dropped write with PROTECT does: the flag is set, and RATE and KNOCK hear of no other. -/
theorem exec_protect {c : Instr} {s : State} {a : Access} {d : Word} (hc : accessOf s c = some a)
    (hd : a.dir = .write d) (ht : onTurn s) (hf : writeFate s a d = .protect) :
    ∃ t, exec c s = .next t ∧ endedOnly a .dropped d s t ∧ flagIn t .protect = true ∧
      (∀ f, f ≠ .protect → flagIn t f = flagIn s f) ∧
      t.blocks.tap = { s.blocks.tap with flags := t.blocks.tap.flags } ∧ t.blocks.crank = s.blocks.crank ∧
      t.blocks.seg = s.blocks.seg ∧ t.blocks.knock = s.blocks.knock ∧ t.blocks.evq = s.blocks.evq ∧
      t.blocks.frz = s.blocks.frz ∧ rowsKept s.blocks t.blocks ∧
      (flagIn s .protect = true → sameBlocks s.blocks t.blocks) := by
  obtain ⟨t, hexec, hend, htx⟩ := exec_ended hc hd ht hf rfl
  have g : Granted (onBlocks (fun e => setFlag e .protect) (endedBy a .dropped d s)) t := htx ▸ decideInternal_kept _
  have hflag : ∀ f, flagIn t f = (flagIn s f || decide (Flag.protect = f)) := fun f => by
    unfold flagIn; rw [g.tap]; exact setFlag_flagSet _ _ _ _
  refine ⟨t, hexec, hend, by simp [hflag], fun f hf => by simp [hflag, Ne.symm hf], ?_,
    g.crank.trans (setFlag_crank _ _ _), g.seg.trans (setFlag_seg _ _ _), g.knock.trans (setFlag_protect_knock _ _),
    g.evq.trans (setFlag_evq _ _ _), g.frz.trans (setFlag_frz _ _ _), g.rowsKept ?_, fun hs => ?_⟩
  · rw [g.tap]; exact setFlag_tap_eq _ _ _
  · simp [rowsKept]
  · have hid : onBlocks (fun e => setFlag e .protect) (endedBy a .dropped d s) = endedBy a .dropped d s :=
      onBlocks_id (if_pos hs)
    rw [hid] at g
    exact g.blocks

theorem reportFate_protect {s : State} {w : Nat} (l : Lanes) (d : Word) (h4 : w ≠ 4)
    (h : w < 72 ∨ (w - 72) % 8 ≠ 0 ∨ 72 + 8 * s.path.table.queueCapacity ≤ w) :
    reportFate s w l d = .protect := by
  unfold reportFate
  rw [if_neg h4]
  exact if_neg fun ⟨h1, h2, h3⟩ => by unfold Config.firstSlotWord at *; omega

theorem freezeFate_protect {s : State} {w : Nat} {l : Lanes} {d : Word}
    (h : w ≠ 0 ∨ writesEmpty l d = false ∨ s.blocks.frz.state ≠ .held) : freezeFate s w l d = .protect := by
  unfold freezeFate
  refine if_neg fun ⟨h1, h2, h3⟩ => ?_
  rcases h with h | h | h
  · exact h h1
  · simp [h2] at h
  · exact h h3

/-- A write to the load status word is dropped in every operating state (R5). -/
theorem writeFate_loadStatus {s : State} (hr : s.resetPin = false) (l : Lanes) (d : Word) :
    writeFate s (setupAccess s 2 l d) d = .drop := by
  rw [writeFate_window _ _ hr, windowOf_setupAccess s (by decide)]; rfl

/-- Settles O38: both writes take no grant; the first sets no flag, the second PROTECT. -/
theorem writesDropped : Obligations.WritesDropped := by
  refine ⟨?_, ?_⟩
  · intro s l d ht hr a
    obtain ⟨t, hexec, hend, htx⟩ :=
      exec_ended (c := .loadStatusWrite l d) rfl rfl ht (writeFate_loadStatus hr l d) rfl
    have g : Granted (endedBy a .dropped d s) t := htx ▸ decideInternal_kept _
    refine ⟨t, hexec, hend, g.blocks, g.requests.kinds.symm, fun hn => ?_⟩
    rw [htx]
    exact decideInternal_none ((firstInternal_view ⟨rfl, rfl, rfl, rfl, rfl, rfl⟩).trans hn)
  · intro s w l d ht hr hp a h
    refine exec_protect rfl rfl ht ?_
    rcases h with ⟨n, hw, h4, h⟩ | ⟨n, hw, h0⟩
    · rw [writeFate_report d hr hp hw]; exact reportFate_protect _ _ h4 h
    · rw [writeFate_freeze d hr hp hw]; exact freezeFate_protect (.inl h0)

/-! ### Releases of slots (R9, R160) -/

theorem reportFate_slot {s : State} {i : Nat} (l : Lanes) (d : Word) (h : i < s.path.table.queueCapacity) :
    reportFate s (72 + 8 * i) l d = slotFate s i l d := by
  unfold reportFate Config.firstSlotWord
  rw [if_neg (by omega), if_pos ⟨by omega, by omega, by omega⟩, show (72 + 8 * i - 72) / 8 = i by omega]

theorem writesEmpty_iff (l : Lanes) (d : Word) : writesEmpty l d = true ↔ l = .word ∧ d = 0 := by
  simp [writesEmpty, Config.emptyWord]

theorem slotFate_empty {s : State} {i : Nat} {l : Lanes} {d : Word} (hl : l = .word) (hd : d = 0) :
    (∀ k, slotIn s i = some (.ready k) → slotFate s i l d = .slotRelease i) ∧
      (slotIn s i = some .free → slotFate s i l d = .forward) := by
  have he : writesEmpty l d = true := (writesEmpty_iff l d).mpr ⟨hl, hd⟩
  refine ⟨fun k hk => ?_, fun hk => ?_⟩ <;> (unfold slotFate; rw [if_pos he, show s.blocks.evq.slots[i]? = _ from hk])

theorem slotFate_protect {s : State} {i : Nat} {l : Lanes} {d : Word}
    (h : l ≠ .word ∨ d ≠ 0 ∨ ∃ k, slotIn s i = some (.filling k)) : slotFate s i l d = .protect := by
  unfold slotFate; split
  · next he =>
    obtain ⟨hl, hd⟩ := (writesEmpty_iff l d).mp he
    obtain ⟨k, hk⟩ := (h.resolve_left (not_not_intro hl)).resolve_left (not_not_intro hd)
    rw [show s.blocks.evq.slots[i]? = _ from hk]
  · rfl

/-- Settles O39: the state of the slot and the word written decide the fate. -/
theorem slotReleased : Obligations.SlotReleased := by
  intro s i l d ht hr hp hi a hw
  have hfate : writeFate s a d = slotFate s i.toNat l d :=
    (writeFate_report d hr hp hw).trans (reportFate_slot l d hi)
  refine ⟨fun k hl hd hk => ⟨?_, forwarded_storesOnly a s⟩, fun hl hd hk => ?_, fun h => ?_⟩
  · rw [exec_granted (c := .slotRelease i l d) (a := a) rfl rfl ht
      (hfate.trans ((slotFate_empty hl hd).1 k hk)) rfl]
    rfl
  · exact exec_forwarded (c := .slotRelease i l d) rfl rfl ht (hfate.trans ((slotFate_empty hl hd).2 hk))
  · obtain ⟨t, hexec, hend, hset, hflags, _, hcrank, hseg, hknock, hevq, hfrz, hrows, _⟩ :=
      exec_protect (c := .slotRelease i l d) (a := a) rfl rfl ht (hfate.trans (slotFate_protect h))
    exact ⟨t, hexec, hend, hset, hflags, hevq, hfrz, hcrank, hseg, hknock, hrows⟩

/-! ### Releases of the frame (R10, R177) -/

/-- A header update is one step of the header, and leaves the other blocks (R135). -/
theorem tellHeader_headerStep (e : Env) (f : Header → Header) (b : Blocks) :
    headerStep e.table.valid f b (tellHeader e f b) := by
  refine ⟨fun h => ?_, fun h => ?_⟩
  · unfold tellHeader; rw [if_pos h]; exact ⟨rfl, rfl⟩
  · unfold tellHeader requestMirror; rw [if_neg h]
    cases e.table.valid <;> exact ⟨rfl, rfl⟩

theorem tellHeader_eq (e : Env) (f : Header → Header) (b : Blocks) :
    tellHeader e f b = { b with rate := (tellHeader e f b).rate, rpw := (tellHeader e f b).rpw } := by
  unfold tellHeader requestMirror; split
  · rfl
  · split <;> rfl

/-- The freeze state and the cleared frame are FRZ's, and RATE is told of the state alone (R177). -/
theorem releaseFrame_eq (e : Env) (b : Blocks) :
    releaseFrame e b = tellHeader e (fun h => { h with freeze := releasedState b.frz.mode e.op })
      { b with frz := { clearFrame b.frz with state := releasedState b.frz.mode e.op } } := rfl

/-- Settles O40: a HELD frame is released and FRZ tells RATE of its new state; every other write is dropped. -/
theorem frameReleased : Obligations.FrameReleased := by
  intro s l d ht hr hp a hw
  have hfate : writeFate s a d = freezeFate s 0 l d := writeFate_freeze d hr hp hw
  refine ⟨?_, fun h => ?_⟩
  · intro hl hd hheld _ after
    have hrel : freezeFate s 0 l d = .frameRelease :=
      if_pos ⟨rfl, (writesEmpty_iff l d).mpr ⟨hl, hd⟩, hheld⟩
    have hexec := exec_granted (c := .frameRelease l d) (a := a) rfl rfl ht (hfate.trans hrel) rfl
    refine ⟨_, hexec, ⟨rfl, rfl, rfl, rfl, ramAfter_storesOnly rfl⟩, ?_, ?_⟩
    · exact (releaseFrame_eq s.env s.blocks).trans (tellHeader_eq _ _ _)
    · exact tellHeader_headerStep s.env (fun h => { h with freeze := after })
        { s.blocks with frz := { clearFrame s.blocks.frz with state := after } }
  · have hprot : freezeFate s 0 l d = .protect := freezeFate_protect (.inr (by
      rcases h with h | h | h
      · exact .inl (Bool.eq_false_iff.mpr fun he => h ((writesEmpty_iff l d).mp he).1)
      · exact .inl (Bool.eq_false_iff.mpr fun he => h ((writesEmpty_iff l d).mp he).2)
      · exact .inr h))
    obtain ⟨t, hexec, hend, hset, hflags, _, hcrank, hseg, hknock, hevq, hfrz, hrows, _⟩ :=
      exec_protect (c := .frameRelease l d) (a := a) rfl rfl ht (hfate.trans hprot)
    exact ⟨t, hexec, hend, hset, hflags, hevq, hfrz, hcrank, hseg, hknock, hrows⟩

end Sys2Proof.Machine
end

section
/-! Validation of the setup block: the order of its tests, and the shadow that LOADER guards (R27, R34, R38, R39). -/

namespace Sys2Proof.Machine

/-! ### Failing offsets (R27) -/

/-- The failing offset of a group is the lowest word of its failed checks. -/
theorem groupFailure_some {cs : List Check} {sh : Shadow} {off : Nat} (h : groupFailure cs sh = some off) :
    (∃ c ∈ cs, checkHolds c sh = false ∧ off ∈ c.words) ∧
      ∀ c ∈ cs, checkHolds c sh = false → ∀ w ∈ c.words, off ≤ w := by
  have hmem : ∀ w, w ∈ (cs.filter (fun c => !checkHolds c sh)).flatMap Check.words ↔
      ∃ c ∈ cs, checkHolds c sh = false ∧ w ∈ c.words := fun w => by simp [and_assoc]
  obtain ⟨hoff, hmin⟩ := List.min?_eq_some_iff.mp h
  exact ⟨(hmem off).mp hoff, fun c hc hf w hw => hmin w ((hmem w).mpr ⟨c, hc, hf, hw⟩)⟩

theorem groupFailure_of_holds {cs : List Check} {sh : Shadow} (h : ∀ c ∈ cs, checkHolds c sh = true) :
    groupFailure cs sh = none := by
  have hf : cs.filter (fun c => !checkHolds c sh) = [] := List.filter_eq_nil_iff.mpr fun c hc => by simp [h c hc]
  rw [groupFailure, hf]; rfl

theorem firstGroupFailure_of_holds {sh : Shadow} : ∀ {gs : List (ResultCode × List Check)},
    (∀ g ∈ gs, ∀ c ∈ g.2, checkHolds c sh = true) → firstGroupFailure sh gs = none
  | [], _ => rfl
  | (code, cs) :: rest, h => by
    have hcs : groupFailure cs sh = none := groupFailure_of_holds (h _ List.mem_cons_self)
    rw [firstGroupFailure, hcs]
    exact firstGroupFailure_of_holds fun g hg => h g (List.mem_cons_of_mem _ hg)

/-- The group that fails first, with the groups before it. -/
theorem firstGroupFailure_some {sh : Shadow} {code : ResultCode} {off : Nat} :
    ∀ {gs : List (ResultCode × List Check)}, firstGroupFailure sh gs = some (code, off) →
      ∃ before cs after, gs = before ++ (code, cs) :: after ∧ (∀ g ∈ before, groupFailure g.2 sh = none) ∧
        groupFailure cs sh = some off
  | [], h => nomatch h
  | (code', cs) :: rest, h => by
    rw [firstGroupFailure] at h
    cases hf : groupFailure cs sh with
    | some off' =>
      rw [hf] at h; cases h
      exact ⟨[], cs, rest, rfl, by simp, hf⟩
    | none =>
      rw [hf] at h
      obtain ⟨before, cs', after, rfl, hb, hc⟩ := firstGroupFailure_some h
      exact ⟨(code', cs) :: before, cs', after, rfl, List.forall_mem_cons.mpr ⟨hf, hb⟩, hc⟩

/-! ### Validation (R27) -/

theorem validate_badMarker {base : Nat} {sh : Shadow} (h : shadowWord sh 0 ≠ Config.setupMarker) :
    validate base sh = some (.badMarker, 0) :=
  if_pos h

theorem validate_badChecksum {base : Nat} {sh : Shadow} (h : shadowWord sh 0 = Config.setupMarker)
    (hs : blockSum sh ≠ 0) : validate base sh = some (.badChecksum, 3) := by
  unfold validate; rw [if_neg (not_not_intro h), if_pos hs]

/-- With marker and checksum good, the groups decide. -/
theorem validate_groups {base : Nat} {sh : Shadow} (h : shadowWord sh 0 = Config.setupMarker)
    (hs : blockSum sh = 0) : validate base sh = firstGroupFailure sh (groups base) := by
  unfold validate; rw [if_neg (not_not_intro h), if_neg (not_not_intro hs)]

theorem validate_marker {base : Nat} {sh : Shadow} (h : validate base sh = none) :
    shadowWord sh 0 = Config.setupMarker :=
  Classical.byContradiction fun hm => by rw [validate_badMarker hm] at h; cases h

/-- Settles O23: marker, checksum and the six groups are tested in this order, and the first group that fails names the
lowest word of its failed checks. -/
theorem validationOrder : Obligations.ValidationOrder := by
  intro base sh
  refine ⟨validate_badMarker, validate_badChecksum,
    fun hm hs => ⟨⟨validate_none, fun h => ?_⟩, fun code off h => ?_⟩, rfl⟩
  · rw [validate_groups hm hs]; exact firstGroupFailure_of_holds h
  · rw [validate_groups hm hs] at h
    obtain ⟨before, cs, after, hgs, hbefore, hcs⟩ := firstGroupFailure_some h
    refine ⟨before, cs, after, hgs, fun g hg => ?_, groupFailure_some hcs⟩
    exact groupFailure_none (hbefore g hg) (check_words_ne base g (hgs ▸ List.mem_append_left _ hg))

/-! ### The validation constraints (R39) -/

theorem constraintsHold_iff {base : Nat} {sh : Shadow} :
    constraintsHold base sh = true ↔
      shadowWord sh 0 = Config.setupMarker ∧ ∀ g ∈ groups base, ∀ c ∈ g.2, checkHolds c sh = true := by
  simp [constraintsHold]

theorem validate_constraintsHold {base : Nat} {sh : Shadow} (h : validate base sh = none) :
    constraintsHold base sh = true :=
  constraintsHold_iff.mpr ⟨validate_marker h, validate_none h⟩

/-- A check sees the words it names alone. -/
theorem checkHolds_congr {c : Check} {sh sh' : Shadow} (h : ∀ i ∈ c.words, shadowWord sh i = shadowWord sh' i) :
    checkHolds c sh = checkHolds c sh' := by
  have hr : checkReader c.words sh = checkReader c.words sh' := by
    funext i
    by_cases hi : i ∈ c.words
    · simp [checkReader, hi, h i hi]
    · simp [checkReader, hi]
  unfold checkHolds; rw [hr]

/-- No check names the load status word, which the report writer keeps (R22). -/
theorem check_words_ne_two (base : Nat) : ∀ g ∈ groups base, ∀ c ∈ g.2, 2 ∉ c.words := by
  have h : (groups base).all (fun g => g.2.all (fun c => !c.words.contains 2)) = true := rfl
  simpa using h

/-- The load status word takes part in no constraint. -/
theorem constraintsHold_of_ne_two {base : Nat} {sh sh' : Shadow}
    (h : ∀ i, i ≠ 2 → shadowWord sh' i = shadowWord sh i) (hc : constraintsHold base sh = true) :
    constraintsHold base sh' = true := by
  obtain ⟨hm, hg⟩ := constraintsHold_iff.mp hc
  refine constraintsHold_iff.mpr ⟨(h 0 (by decide)).trans hm, fun g hgm c hcm => ?_⟩
  rw [checkHolds_congr fun i hi => h i fun h2 => check_words_ne_two base g hgm c hcm (h2 ▸ hi)]
  exact hg g hgm c hcm

theorem shadowWord_merged_ne (off : Nat) (l : Lanes) (d : Word) (sh : Shadow) {i : Nat} (h : i ≠ off) :
    shadowWord (mergedShadow off l d sh) i = shadowWord sh i := by
  unfold mergedShadow shadowSet; split
  · rfl
  · exact shadowWord_set_ne sh _ h

/-- A tunable write that is accepted keeps every constraint: the checks of its word were made, and no other check sees
that word (R39). -/
theorem constraintsHold_merged {base off : Nat} {l : Lanes} {d : Word} {sh : Shadow}
    (hc : constraintsHold base sh = true) (hgeo : geometryWord off = false)
    (hacc : tunableAccepted base off (mergedShadow off l d sh) = true) :
    constraintsHold base (mergedShadow off l d sh) = true := by
  obtain ⟨hm, hg⟩ := constraintsHold_iff.mp hc
  have h0 : (0 : Nat) ≠ off := by rintro rfl; cases hgeo
  refine constraintsHold_iff.mpr ⟨(shadowWord_merged_ne off l d sh h0).trans hm, fun g hgm c hcm => ?_⟩
  by_cases hoff : off ∈ c.words
  · have := List.all_eq_true.mp (List.all_eq_true.mp hacc g hgm) c hcm
    simpa [hoff] using this
  · rw [checkHolds_congr fun i hi => shadowWord_merged_ne off l d sh fun h => hoff (h ▸ hi)]
    exact hg g hgm c hcm

/-! ### Decisions on setup writes (R37 to R39) -/

theorem decideSetup_open {base off : Nat} {l : Lanes} {d : Word} {ld : Loader} (h : setupOpen ld = true) :
    decideSetup base off l d ld = .take := by
  unfold decideSetup; exact if_pos h

/-- In the guarded phases a write is LOCKED out of a GEOMETRY word, taken where its merged word is accepted, and
OUT_OF_RANGE else. -/
theorem decideSetup_guarded {base off : Nat} {l : Lanes} {d : Word} {ld : Loader} (h : setupOpen ld = false) :
    (geometryWord off = true → decideSetup base off l d ld = .locked) ∧
      (geometryWord off = false → tunableAccepted base off (mergedShadow off l d ld.shadow) = true →
        decideSetup base off l d ld = .take) ∧
      (geometryWord off = false → tunableAccepted base off (mergedShadow off l d ld.shadow) = false →
        decideSetup base off l d ld = .outOfRange) := by
  refine ⟨fun hg => ?_, fun hg ha => ?_, fun hg ha => ?_⟩
  · simp [decideSetup, h, hg]
  · simp [decideSetup, h, hg, ha]
  · simp [decideSetup, h, hg, ha]

/-- A write taken in a guarded phase is to a TUNABLE word and was accepted. -/
theorem decideSetup_take {base off : Nat} {l : Lanes} {d : Word} {ld : Loader} (h : setupOpen ld = false)
    (ht : decideSetup base off l d ld = .take) :
    geometryWord off = false ∧ tunableAccepted base off (mergedShadow off l d ld.shadow) = true := by
  obtain ⟨hlocked, -, hrange⟩ := decideSetup_guarded (base := base) (off := off) (l := l) (d := d) h
  cases hg : geometryWord off with
  | true => rw [hlocked hg] at ht; cases ht
  | false =>
    refine ⟨rfl, ?_⟩
    cases ha : tunableAccepted base off (mergedShadow off l d ld.shadow) with
    | true => rfl
    | false => rw [hrange hg ha] at ht; cases ht

theorem takeSetup_loader (off : Nat) (l : Lanes) (d : Word) (s : State) :
    (takeSetup off l d s).loader = { s.loader with shadow := mergedShadow off l d s.loader.shadow } := by
  unfold takeSetup; dsimp only; split <;> rfl

/-! ### The guarded shadow (R34, R39) -/

theorem guarded_iff (l : Loader) : guarded l = true ↔ l.op = .running ∨ l.op = .stopping ∨
    (l.op = .loading ∧ l.phase = .initialising) := by
  unfold guarded setupOpen
  cases l.op <;> cases l.phase <;> simp

/-- A change that leaves LOADER and the straps. -/
theorem shadowGuarded_of_same {s t : State} (h : shadowGuarded s) (hl : t.loader = s.loader)
    (hp : t.path.setupSel = s.path.setupSel) : shadowGuarded t := by
  unfold shadowGuarded; rw [hl, hp]; exact h

/-- A change that leaves the straps and the shadow but for the load status word, and enters no guarded phase. -/
theorem shadowGuarded_of_kept {s t : State} (h : shadowGuarded s) (hp : t.path.setupSel = s.path.setupSel)
    (hg : guarded t.loader = true → guarded s.loader = true)
    (hs : ∀ i, i ≠ 2 → shadowWord t.loader.shadow i = shadowWord s.loader.shadow i) : shadowGuarded t := fun ht => by
  rw [hp]; exact constraintsHold_of_ne_two hs (h (hg ht))

theorem shadowGuarded_granted {s t : State} (h : shadowGuarded s) (g : Granted s t) : shadowGuarded t :=
  shadowGuarded_of_kept h g.setupSel (by rw [guarded_iff, guarded_iff, g.op, g.phase]; exact id) g.shadow

theorem takeCommand_shadowGuarded (v : Word) {s : State} (h : shadowGuarded s) : shadowGuarded (takeCommand v s) := by
  rcases takeCommand_cases v s with e | ⟨_, e⟩ | ⟨_, e⟩ | ⟨ho, e⟩ <;> rw [e]
  · exact h
  · exact shadowGuarded_of_kept h rfl (fun hg => hg) (fun _ _ => rfl)
  · exact fun hg => nomatch hg
  · exact shadowGuarded_of_kept h rfl (fun _ => (guarded_iff _).mpr (.inl ho)) (fun _ _ => rfl)

theorem takeSetup_shadowGuarded {off : Nat} {l : Lanes} {d : Word} {s : State}
    (ht : decideSetup (setupBaseByte s.path.setupSel) off l d s.loader = .take) (h : shadowGuarded s) :
    shadowGuarded (takeSetup off l d s) := by
  have hsel : (takeSetup off l d s).path.setupSel = s.path.setupSel := by rw [(takeSetup_inside off l d s).path]
  have hg : guarded (takeSetup off l d s).loader = guarded s.loader := by rw [takeSetup_loader]; rfl
  intro hgt
  rw [hg] at hgt
  have hopen : setupOpen s.loader = false := by simpa [guarded] using hgt
  obtain ⟨hgeo, hacc⟩ := decideSetup_take hopen ht
  rw [hsel, takeSetup_loader]
  exact constraintsHold_merged (h hgt) hgeo hacc

/-- The end of a read in READING stays in READING, fails, or has validated the shadow. -/
theorem loaderRead_shadowGuarded (d : Word) {s : State} (ho : s.loader.op = .loading)
    (hph : s.loader.phase = .reading) : shadowGuarded (loaderRead d s) := by
  rcases loaderRead_cases d s with e | ⟨_, _, e⟩ | ⟨hv, e⟩ <;> rw [e]
  · intro hg; simp [guarded_iff, loaderAfterRead, ho, hph] at hg
  · exact fun hg => nomatch hg
  · exact fun _ => validate_constraintsHold hv

theorem checkStopped_shadowGuarded {s : State} (h : shadowGuarded s) : shadowGuarded (checkStopped s) := by
  rcases checkStopped_cases s with e | ⟨_, _, _, e⟩ <;> rw [e]
  · exact h
  · exact fun hg => nomatch hg

/-- RUNNING is entered from INITIALISING, where the shadow is guarded already (R34). -/
theorem makerTold_shadowGuarded (r : Request) {s : State} (h : shadowGuarded s) : shadowGuarded (makerTold r s) := by
  rcases makerTold_cases r s with e | ⟨_, e⟩ | ⟨ho, hph, e⟩ <;> rw [e]
  · exact h
  · exact shadowGuarded_of_same h rfl rfl
  · exact shadowGuarded_of_kept h rfl (fun _ => (guarded_iff _).mpr (.inr (.inr ⟨ho, hph⟩))) (fun _ _ => rfl)

theorem headDone_shadowGuarded {s : State} (h : shadowGuarded s) : shadowGuarded (headDone s) := by
  rcases headDone_cases s with e | ⟨r, rest, _, e⟩ <;> rw [e]
  · exact h
  · exact checkStopped_shadowGuarded (makerTold_shadowGuarded r (shadowGuarded_of_same h rfl rfl))

theorem frameWordDone_shadowGuarded {s : State} (h : shadowGuarded s) : shadowGuarded (frameWordDone s) := by
  unfold frameWordDone; split
  · exact h
  · unfold writeOutDone
    have h1 := checkStopped_shadowGuarded (s := onBlocks frameHeld s) (shadowGuarded_of_same h rfl rfl)
    exact shadowGuarded_of_same h1 rfl rfl
  · exact shadowGuarded_of_same h rfl rfl

/-- A guarded shadow, with LOADER's reads in progress belonging to a load that is READING, whose end leaves READING
alone. -/
structure GuardKept (s : State) : Prop where
  reads : LoadGoverned False s
  guard : shadowGuarded s

theorem guardKept_kept : Kept GuardKept where
  bus s b h := ⟨loadGoverned_kept.bus s b h.reads, h.guard⟩
  hold s a h := ⟨loadGoverned_kept.hold s a h.reads, h.guard⟩
  endAccess s a how d h := ⟨loadGoverned_kept.endAccess s a how d h.reads, h.guard⟩
  snapshot s x h := ⟨loadGoverned_kept.snapshot s x h.reads, h.guard⟩
  patience s h := ⟨loadGoverned_kept.patience s h.reads, h.guard⟩
  grantSystem s w a hp hw h := ⟨loadGoverned_kept.grantSystem s w a hp hw h.reads, h.guard⟩
  grantReport s hp hr h :=
    ⟨loadGoverned_kept.grantReport s hp hr h.reads, shadowGuarded_granted h.guard (grantTo_kept s .report)⟩
  grantLoader s hp hr hc h := ⟨loadGoverned_kept.grantLoader s hp hr hc h.reads, h.guard⟩
  grantFreeze s hp hr h :=
    ⟨loadGoverned_kept.grantFreeze s hp hr h.reads, shadowGuarded_granted h.guard (grantTo_kept s .freeze)⟩
  command s d h := ⟨loadGoverned_kept.command s d h.reads, takeCommand_shadowGuarded d h.guard⟩
  setup s off l d ht h := ⟨loadGoverned_kept.setup s off l d ht h.reads, takeSetup_shadowGuarded ht h.guard⟩
  tooth s a d ho h := ⟨loadGoverned_kept.tooth s a d ho h.reads, h.guard⟩
  knock s x a d ho h := ⟨loadGoverned_kept.knock s x a d ho h.reads, h.guard⟩
  marker s a d ho h := ⟨loadGoverned_kept.marker s a d ho h.reads, h.guard⟩
  slotRelease s i k hk h := ⟨loadGoverned_kept.slotRelease s i k hk h.reads, h.guard⟩
  frameRelease s hf h := ⟨loadGoverned_kept.frameRelease s hf h.reads, h.guard⟩
  protect s h := ⟨loadGoverned_kept.protect s h.reads, h.guard⟩
  refuseSetup s r off h := ⟨loadGoverned_kept.refuseSetup s r off h.reads, h.guard⟩
  flagClear s m h := ⟨loadGoverned_kept.flagClear s m h.reads, h.guard⟩
  freePort s h := ⟨loadGoverned_kept.freePort s h.reads, h.guard⟩
  loaderRead s u hu hl hlive h := by
    obtain ⟨_, ho, hph⟩ := h.reads.reads u hu hl hlive
    exact ⟨loadGoverned_kept.loaderRead s u hu hl hlive h.reads,
      loaderRead_shadowGuarded _ (s := Machine.freePort s) ho hph⟩
  headDone s h := ⟨loadGoverned_kept.headDone s h.reads, headDone_shadowGuarded h.guard⟩
  frameWordDone s h := ⟨loadGoverned_kept.frameWordDone s h.reads, frameWordDone_shadowGuarded h.guard⟩
  takeHead s h := ⟨loadGoverned_kept.takeHead s h.reads, h.guard⟩
  expireStall s h := ⟨loadGoverned_kept.expireStall s h.reads, h.guard⟩
  stallTick s h := ⟨loadGoverned_kept.stallTick s h.reads, h.guard⟩
  assertReset s h := ⟨loadGoverned_kept.assertReset s h.reads, h.guard⟩
  releaseReset s sel auto hr h := ⟨loadGoverned_kept.releaseReset s sel auto hr h.reads, fun hg => nomatch hg⟩
  autoStart s hl h := ⟨loadGoverned_kept.autoStart s hl h.reads, fun hg => nomatch hg⟩
  pending s l h := ⟨loadGoverned_kept.pending s l h.reads, h.guard⟩

/-- Settles O28: a guarded phase is entered with a validated shadow, an accepted write was checked against every
constraint of its word, and the report writer writes the load status word alone, which no constraint names. -/
theorem shadowGuarded_step : Obligations.ShadowGuarded := fun _ _ hr hg ht =>
  (guardKept_kept.step ⟨⟨hr, False.elim⟩, hg⟩ ht).guard

end Sys2Proof.Machine
end

section
/-! What validation admits: the fields of a good block, group by group (R28 to R32). -/

namespace Sys2Proof.Machine

/-! ### Checks of the block itself -/

/-- A check of a shadow is its condition on the whole block, since it reads the words it names alone. -/
def ReadsOwn (sh : Shadow) (c : Check) : Prop := checkHolds c sh = c.test (shadowWord sh)

/-- Every GEOMETRY check but that of the firing order, which reads as many words as `ncyl` asks for. -/
theorem geometryChecks_readOwn (sh : Shadow) : ∀ c ∈ geometryChecks, c.words ≠ [4, 5, 6] → ReadsOwn sh c := by
  simp only [geometryChecks, List.forall_mem_cons, List.not_mem_nil, false_imp_iff, implies_true, and_true]
  refine ⟨fun _ => rfl, fun h => absurd rfl h, ?_⟩
  and_intros <;> exact fun _ => rfl

theorem windowsChecks_readOwn (base : Nat) (sh : Shadow) : ∀ c ∈ windowsChecks base, ReadsOwn sh c := by
  simp only [windowsChecks, windowFields, windowChecks, pairChecks, List.flatMap_cons, List.flatMap_nil, List.map_cons,
    List.map_nil, List.append_nil, List.cons_append, List.nil_append,
    List.forall_mem_cons, List.not_mem_nil, false_imp_iff, implies_true, and_true]
  and_intros <;> rfl

theorem misfireChecks_readOwn (sh : Shadow) : ∀ c ∈ misfireChecks, ReadsOwn sh c := by
  simp only [misfireChecks, List.forall_mem_append, List.forall_mem_map, List.forall_mem_cons, List.not_mem_nil,
    false_imp_iff, implies_true, and_true]
  refine ⟨fun i _ => ?_, ?_⟩
  · simp only [ReadsOwn, checkHolds, thrMapCheck, checkReader_mem List.mem_cons_self]
  · and_intros <;> rfl

theorem knockChecks_readOwn (sh : Shadow) : ∀ c ∈ knockChecks, ReadsOwn sh c := by
  simp only [knockChecks, List.forall_mem_cons, List.not_mem_nil, false_imp_iff, implies_true, and_true]
  and_intros <;> rfl

theorem queueChecks_readOwn (sh : Shadow) : ∀ c ∈ queueChecks, ReadsOwn sh c := by
  simp only [queueChecks, List.forall_mem_cons, List.not_mem_nil, false_imp_iff, implies_true, and_true]
  and_intros <;> rfl

theorem freezeChecks_readOwn (sh : Shadow) : ∀ c ∈ freezeChecks, ReadsOwn sh c := by
  simp only [freezeChecks, List.forall_mem_cons, List.not_mem_nil, false_imp_iff, implies_true, and_true]
  and_intros <;> rfl

/-! ### The conditions of a good block -/

section
variable {base : Nat} {sh : Shadow}

theorem validated_geometry (h : validate base sh = none) :
    ∀ c ∈ geometryChecks, c.words ≠ [4, 5, 6] → c.test (shadowWord sh) = true := fun c hc hw =>
  (geometryChecks_readOwn sh c hc hw).symm.trans
    (validate_none h (.badGeometry, geometryChecks) (by simp [groups]) c hc)

theorem validated_firingOrder (h : validate base sh = none) : checkHolds ⟨[4, 5, 6], firingOrderGood⟩ sh = true :=
  validate_none h (.badGeometry, geometryChecks) (by simp [groups]) _ (by simp [geometryChecks])

theorem validated_windows (h : validate base sh = none) : ∀ c ∈ windowsChecks base, c.test (shadowWord sh) = true :=
  fun c hc => (windowsChecks_readOwn base sh c hc).symm.trans (validate_windows h c hc)

theorem validated_misfire (h : validate base sh = none) : ∀ c ∈ misfireChecks, c.test (shadowWord sh) = true :=
  fun c hc => (misfireChecks_readOwn sh c hc).symm.trans
    (validate_none h (.badMisfire, misfireChecks) (by simp [groups]) c hc)

theorem validated_knock (h : validate base sh = none) : ∀ c ∈ knockChecks, c.test (shadowWord sh) = true :=
  fun c hc => (knockChecks_readOwn sh c hc).symm.trans
    (validate_none h (.badKnock, knockChecks) (by simp [groups]) c hc)

theorem validated_queue (h : validate base sh = none) : ∀ c ∈ queueChecks, c.test (shadowWord sh) = true :=
  fun c hc => (queueChecks_readOwn sh c hc).symm.trans
    (validate_none h (.badQueue, queueChecks) (by simp [groups]) c hc)

theorem validated_freeze (h : validate base sh = none) : ∀ c ∈ freezeChecks, c.test (shadowWord sh) = true :=
  fun c hc => (freezeChecks_readOwn sh c hc).symm.trans
    (validate_none h (.badFreeze, freezeChecks) (by simp [groups]) c hc)

end

/-! ### The GEOMETRY group (R28) -/

section
variable {r : Reader}

/-- The ranges of the GEOMETRY fields and the checks between them. -/
theorem geometry_ranges (h : ∀ c ∈ geometryChecks, c.words ≠ [4, 5, 6] → c.test r = true) :
    2 ≤ fNcyl r ∧ fNcyl r ≤ 8 ∧ 12 ≤ fTeethN r ∧ fTeethN r ≤ 72 ∧ 1 ≤ fMissingM r ∧ fMissingM r ≤ 3 ∧
      fMissingM r + 8 ≤ fTeethN r ∧ 2 * fTeethN r % fNcyl r = 0 ∧ fTdcRef r < 2 * fTeethN r ∧
      fSegOffset r < segmentLength r ∧ 10 ≤ fTickNs r ∧ fTickNs r ≤ 1000 ∧ fCamLo r ≤ fCamHi r ∧
      fCamHi r < fTeethN r ∧ fCamEdge r ≤ 1 ∧ 1 ≤ fConfirmRevs r ∧ fConfirmRevs r ≤ 4 ∧ 20 ≤ fGapMin r ∧
      fGapMin r < fGapMax r ∧ fGapMax r ≤ 80 ∧ 2 ≤ fGlitchMin r ∧ fGlitchMin r ≤ 15 ∧ 1 ≤ fGlitchLimit r ∧
      fGlitchLimit r ≤ 7 ∧ 2 ≤ fPhaseTimeoutRevs r ∧ fPhaseTimeoutRevs r ≤ 8 ∧ 10 ≤ fStallTimeout r ∧
      fStallTimeout r ≤ 20000 ∧ 1 ≤ fArbBound r ∧ fArbBound r ≤ 15 ∧ fAlertPolarity r ≤ 1 := by
  simp [geometryChecks, inRange, segmentsDivide] at h
  and_intros <;> omega

theorem segmentsDivide_of_geometry (h : ∀ c ∈ geometryChecks, c.words ≠ [4, 5, 6] → c.test r = true) :
    segmentsDivide r = true :=
  h ⟨[4], segmentsDivide⟩ (by simp [geometryChecks]) (by decide)

/-- Where L exists, a condition on every firing position holds of each (R28). -/
theorem everyPosition_holds {p : Nat → Bool} (hd : segmentsDivide r = true) (h : everyPosition r p = true) :
    ∀ k, k < fNcyl r → p k = true := by
  simpa [everyPosition, hd] using h

/-- No segment boundary falls where there is no tooth. -/
theorem geometry_boundaries (h : ∀ c ∈ geometryChecks, c.words ≠ [4, 5, 6] → c.test r = true) :
    ∀ k, k < fNcyl r → missingPosition r (segmentBoundary r k) = false := fun k hk => by
  have hc := h ⟨[4, 7], fun r => everyPosition r (fun k => !missingPosition r (segmentBoundary r k))⟩
    (by simp [geometryChecks]) (by decide)
  simpa using everyPosition_holds (segmentsDivide_of_geometry h) hc k hk

end

/-- The check of the firing order sees the words of the eight entries there can be. -/
theorem fFiringOrder_checkReader (sh : Shadow) {k : Nat} (h : k < 8) :
    fFiringOrder (checkReader [4, 5, 6] sh) k = fFiringOrder (shadowWord sh) k := by
  have hk : 5 + k / 4 ∈ [4, 5, 6] := by
    obtain h | h : k / 4 = 0 ∨ k / 4 = 1 := by omega
    all_goals simp [h]
  unfold fFiringOrder; rw [checkReader_mem hk]

/-- Every cylinder number has a firing position (R28). -/
theorem firingOrder_onto {sh : Shadow} (hn : fNcyl (shadowWord sh) ≤ 8)
    (h : checkHolds ⟨[4, 5, 6], firingOrderGood⟩ sh = true) :
    ∀ c, 1 ≤ c → c ≤ fNcyl (shadowWord sh) →
      ∃ k, k < fNcyl (shadowWord sh) ∧ fFiringOrder (shadowWord sh) k = c := by
  intro c h1 hc
  have hcyl : fNcyl (checkReader [4, 5, 6] sh) = fNcyl (shadowWord sh) := rfl
  simp only [checkHolds, firingOrderGood, hcyl, List.all_eq_true, List.mem_range, List.contains_iff_mem, List.mem_map]
    at h
  obtain ⟨k, hk, he⟩ := h (c - 1) (by omega)
  exact ⟨k, hk, by rw [← fFiringOrder_checkReader sh (by omega), he]; omega⟩

/-! ### The other groups (R29 to R32) -/

section
variable {r : Reader}

/-- The sizes of the windows. -/
theorem windows_sizes {base : Nat} (h : ∀ c ∈ windowsChecks base, c.test r = true) :
    16 ≤ fToothSize r ∧ fToothSize r ≤ 4096 ∧ 16 ≤ fKnockASize r ∧ fKnockASize r ≤ 8192 ∧ fKnockASize r % 2 = 0 ∧
      (fKnockBSize r ≠ 0 → 16 ≤ fKnockBSize r ∧ fKnockBSize r ≤ 8192 ∧ fKnockBSize r % 2 = 0) ∧
      136 ≤ fReportSize r ∧ fReportSize r ≤ 65536 ∧ 25 ≤ fFreezeSize r ∧ fFreezeSize r ≤ 65536 := by
  simp [windowsChecks, inRange, or_imp, forall_and] at h
  and_intros <;> omega

/-- A present window's base is a multiple of 4, and the window ends in the address space. -/
theorem window_placed {base : Nat} (h : ∀ c ∈ windowsChecks base, c.test r = true) {v : WindowFields}
    (hv : v ∈ windowFields) (hp : v.present r = true) : v.base r % 4 = 0 ∧ v.base r + v.bytes r ≤ 2 ^ 24 := by
  have hc : ∀ c ∈ windowChecks base v, c.test r = true := fun c hc =>
    h c (List.mem_append_left _ (List.mem_append_right _ (List.mem_flatMap.mpr ⟨v, hv, hc⟩)))
  simp only [windowChecks, List.forall_mem_cons, ifPresent, hp, Bool.not_true, Bool.false_or, beq_iff_eq,
    decide_eq_true_eq] at hc
  exact ⟨hc.1, hc.2.1⟩

/-- Every window that is present is so placed; KNOCK_B alone may be absent. -/
theorem windows_placed {base : Nat} (h : ∀ c ∈ windowsChecks base, c.test r = true) :
    (fToothBase r % 4 = 0 ∧ fKnockABase r % 4 = 0 ∧ (fKnockBSize r ≠ 0 → fKnockBBase r % 4 = 0) ∧
      fMarkerBase r % 4 = 0 ∧ fReportBase r % 4 = 0 ∧ fFreezeBase r % 4 = 0) ∧
    (fToothBase r + 4 * fToothSize r ≤ 2 ^ 24 ∧ fKnockABase r + 2 * fKnockASize r ≤ 2 ^ 24 ∧
      (fKnockBSize r ≠ 0 → fKnockBBase r + 2 * fKnockBSize r ≤ 2 ^ 24) ∧ fMarkerBase r + 4 ≤ 2 ^ 24 ∧
      fReportBase r + 4 * fReportSize r ≤ 2 ^ 24 ∧ fFreezeBase r + 4 * fFreezeSize r ≤ 2 ^ 24) := by
  have hall : ∀ v ∈ windowFields, v.present r = true → v.base r % 4 = 0 ∧ v.base r + v.bytes r ≤ 2 ^ 24 :=
    fun v hv hp => window_placed h hv hp
  simp only [windowFields, List.forall_mem_cons, bne_iff_ne, true_imp_iff] at hall
  obtain ⟨⟨htooth, htooth'⟩, ⟨ha, ha'⟩, hb, ⟨hmarker, hmarker'⟩, ⟨hreport, hreport'⟩, ⟨hfreeze, hfreeze'⟩, -⟩ := hall
  exact ⟨⟨htooth, ha, fun hn => (hb hn).1, hmarker, hreport, hfreeze⟩,
    ⟨htooth', ha', fun hn => (hb hn).2, hmarker', hreport', hfreeze'⟩⟩

/-- The ranges of the `thr_map` entries. -/
theorem misfire_thrMap (h : ∀ c ∈ misfireChecks, c.test r = true) :
    ∀ i, i < 16 → ∀ h, h < 2 → 1 ≤ bitField (r (32 + i)) (16 * h) 16 ∧ bitField (r (32 + i)) (16 * h) 16 ≤ 32767 := by
  intro i hi k hk
  have hc := h (thrMapCheck i) (List.mem_append_left _ (List.mem_map_of_mem (List.mem_range.mpr hi)))
  simp only [thrMapCheck, inRange, Bool.and_eq_true, decide_eq_true_eq] at hc
  obtain rfl | rfl : k = 0 ∨ k = 1 := by omega
  · exact hc.1
  · exact hc.2

/-- The ranges of the other MISFIRE fields, and the checks between them. -/
theorem misfire_ranges (h : ∀ c ∈ misfireChecks, c.test r = true) :
    (∀ i, 1 ≤ i → i ≤ 7 → 1 ≤ fRpmEdge r i ∧ fRpmEdge r i ≤ 20000) ∧
    (∀ i, 1 ≤ i → i ≤ 6 → fRpmEdge r i < fRpmEdge r (i + 1)) ∧
    (∀ i, i < 3 → 8 ≤ fSurfScale r i ∧ fSurfScale r i ≤ 64) ∧
    (1 ≤ fTransientLimit r ∧ fTransientLimit r ≤ 4095 ∧ fHoldoffCycles r ≤ 15 ∧ fShadowEnable r ≤ 1 ∧
      16 ≤ fRateWindow r ∧ fRateWindow r ≤ 1024 ∧ 1 ≤ fSuspectLimit r ∧ fSuspectLimit r ≤ fFaultLimit r ∧
      fFaultLimit r ≤ 1000) := by
  replace h := fun c hc => h c (List.mem_append_right _ hc)
  simp only [List.forall_mem_cons, List.not_mem_nil, false_imp_iff, implies_true, and_true, inRange, Bool.and_eq_true,
    decide_eq_true_eq, List.all_eq_true, List.mem_range] at h
  obtain ⟨h12, h34, h56, h7, hrising, hsurf, hrest⟩ := h
  refine ⟨fun i h1 hi => ?_, fun i h1 hi => ?_, hsurf, by omega⟩
  · obtain rfl | rfl | rfl | rfl | rfl | rfl | rfl : i = 1 ∨ i = 2 ∨ i = 3 ∨ i = 4 ∨ i = 5 ∨ i = 6 ∨ i = 7 := by omega
    all_goals omega
  · have := hrising (i - 1) (by omega)
    rwa [show i - 1 + 1 = i by omega, show i - 1 + 2 = i + 1 by omega] at this

/-- The ranges of the KNOCK fields, and the checks between them. -/
theorem knock_ranges (h : ∀ c ∈ knockChecks, c.test r = true) :
    fKwStart r < segmentLength r ∧ 1 ≤ fKwWidth r ∧ fKwWidth r + fKwStart r ≤ segmentLength r ∧
      fSensAFirst r < fNcyl r ∧ fSensALast r < fNcyl r ∧
      (fKnockBSize r ≠ 0 → fSensBFirst r < fNcyl r ∧ fSensBLast r < fNcyl r) ∧ 4 ≤ fKnockMinSamples r ∧
      16 ≤ fKnockThr r ∧ fKnockThr r < fHeavyThr r ∧ fHeavyThr r ≤ 4095 ∧ 1 ≤ fImpactCeiling r ∧
      fImpactCeiling r ≤ 32767 ∧ 1 ≤ fBgShift r ∧ fBgShift r ≤ 8 ∧ 2 ≤ fBiasShift r ∧ fBiasShift r ≤ 10 ∧
      1 ≤ fLightRate r ∧ fLightRate r ≤ fHeavyRate r ∧ fHeavyRate r ≤ 1000 := by
  simp [knockChecks, inRange] at h
  and_intros <;> omega

/-- No knock window opens or closes where there is no tooth. -/
theorem knock_positions (hd : segmentsDivide r = true) (h : ∀ c ∈ knockChecks, c.test r = true) :
    ∀ k, k < fNcyl r → missingPosition r (windowOpen r k) = false ∧ missingPosition r (windowClose r k) = false := by
  intro k hk
  have ho := h ⟨[4, 7, 23], fun r => everyPosition r (fun k => !missingPosition r (windowOpen r k))⟩
    (by simp [knockChecks])
  have hc := h ⟨[4, 7, 23], fun r => everyPosition r (fun k => !missingPosition r (windowClose r k))⟩
    (by simp [knockChecks])
  exact ⟨by simpa using everyPosition_holds hd ho k hk, by simpa using everyPosition_holds hd hc k hk⟩

/-- The ranges of the QUEUE and FREEZE fields, and the room their windows leave. -/
theorem queue_freeze_ranges (hq : ∀ c ∈ queueChecks, c.test r = true) (hf : ∀ c ∈ freezeChecks, c.test r = true) :
    8 ≤ fQueueCapacity r ∧ fQueueCapacity r ≤ 64 ∧ 72 + 8 * fQueueCapacity r ≤ fReportSize r ∧ fFrzPre r ≤ 15 ∧
      fFrzPost r ≤ 8 ∧ fFreezeMode r ≤ 2 ∧ 8 + 17 * (fFrzPre r + 1 + fFrzPost r) ≤ fFreezeSize r := by
  simp only [queueChecks, List.forall_mem_cons, inRange, Bool.and_eq_true, decide_eq_true_eq] at hq
  simp only [freezeChecks, List.forall_mem_cons, decide_eq_true_eq] at hf
  unfold Config.firstSlotWord at hq
  unfold Config.frameHeaderWords Config.cycleRecordWords at hf
  omega

end

/-- Settles O24: every check of a good block holds, and speaks of the block's own fields. -/
theorem validatedFields : Obligations.ValidatedFields := by
  intro base sh hv r
  have hgeo := validated_geometry hv
  have hwin := validated_windows hv
  have hmis := validated_misfire hv
  have hknock := validated_knock hv
  have hranges := geometry_ranges hgeo
  obtain ⟨hbases, hends⟩ := windows_placed hwin
  obtain ⟨hrpm, hrising, hsurf, hrest⟩ := misfire_ranges hmis
  have hopenClose := knock_positions (segmentsDivide_of_geometry hgeo) hknock
  exact ⟨hranges, firingOrder_onto hranges.2.1 (validated_firingOrder hv),
    fun k hk => ⟨geometry_boundaries hgeo k hk, hopenClose k hk⟩, windows_sizes hwin, hbases, hends,
    misfire_thrMap hmis, hrpm, hrising, hsurf, hrest, knock_ranges hknock,
    queue_freeze_ranges (validated_queue hv) (validated_freeze hv)⟩

end Sys2Proof.Machine
end

section
/-! The command table, and a STOP (R25, R35, R55, R78, R101, R129, R165, R179). -/

namespace Sys2Proof.Machine

/-! ### Values of the control word (R25, R188) -/

theorem takeCommand_none (s : State) : takeCommand 0 s = s := rfl

theorem commandOf_unknown {v : Word} (h : 2 < v.toNat) : commandOf v = .unknown := by
  unfold commandOf; split
  · omega
  · omega
  · omega
  · rfl

theorem takeCommand_unknown {v : Word} (h : 2 < v.toNat) (s : State) :
    takeCommand v s = refuseCommand .unknownCommand s := by
  unfold takeCommand; rw [commandOf_unknown h]

theorem takeCommand_start_refused {s : State}
    (h : s.loader.op = .loading ∨ s.loader.op = .running ∨ s.loader.op = .stopping) :
    takeCommand 1 s = refuseCommand .refused s := by
  show commandStart s = _
  unfold commandStart
  rcases h with h | h | h <;> rw [h]

theorem takeCommand_stop {s : State} (h : s.loader.op = .running) : takeCommand 2 s = takeStop s := by
  show commandStop s = _
  unfold commandStop; rw [h]

theorem takeCommand_stop_refused {s : State} (h : s.loader.op ≠ .running) :
    takeCommand 2 s = refuseCommand .refused s := by
  show commandStop s = _
  rcases commandStop_cases s with ⟨ho, _⟩ | e
  · exact absurd ho h
  · exact e

/-- The turn of a word write to the control word is a grant, and LOADER takes the value (R5). -/
theorem turn_command {s : State} (hr : s.resetPin = false) (waiting : Bool) (v : Word) :
    turn waiting (setupAccess s 1 .word v) s = takeCommand v (grantSystem waiting (setupAccess s 1 .word v) s) := by
  show turnWrite waiting (setupAccess s 1 .word v) v s = _
  unfold turnWrite; dsimp only; rw [writeFate_command hr v]; rfl

/-- A command that is a word write to the control word has LOADER take its value at its turn. -/
theorem exec_command {c : Instr} {s : State} {v : Word} (hc : accessOf s c = some (setupAccess s 1 .word v))
    (ht : onTurn s) (hr : s.resetPin = false) :
    exec c s = .next (takeCommand v (forwarded (setupAccess s 1 .word v) s)) :=
  exec_granted hc rfl ht (writeFate_command hr v) rfl

/-! ### Requests of a STOP -/

/-- A request that is no initialisation request leaves the list as the head of the new one (R20). -/
theorem addRequest_appends (k : RequestKind) (l : List Request) : l <+: addRequest false k l := by
  unfold addRequest; split
  · have hid : l.map (fun r => if pendingOf k r then { r with initial := r.initial || false } else r) = l := by
      simp
    exact ⟨[], (List.append_nil l).trans hid.symm⟩
  · exact ⟨_, rfl⟩

theorem tellHeader_appends {e : Env} {f : Header → Header} {b : Blocks} {l : List Request} (h : l <+: b.rpw) :
    l <+: (tellHeader e f b).rpw := by
  unfold tellHeader requestMirror; split
  · exact h
  · split
    · exact h.trans (addRequest_appends _ _)
    · exact h

theorem stopBlocks_appends {e : Env} {b : Blocks} {l : List Request} (h : l <+: b.rpw) :
    l <+: (stopBlocks e b).rpw := by
  have hc : l <+: (crankStop e (tapStop b)).rpw := tellHeader_appends h
  unfold stopBlocks frzStop; split
  · exact tellHeader_appends hc
  · exact hc

/-- What the blocks see of LOADER at a STOP: STOPPING. -/
def stopEnv (s : State) : Env := { s.env with op := .stopping }

/-- LOADER announces STOPPING, and the blocks then take the STOP (R35, log 14). -/
theorem takeStop_blocks (s : State) :
    (takeStop s).blocks = stopBlocks (stopEnv s) (announceOp (stopEnv s) (commandRequests s.blocks)) := rfl

/-- What a STOP requests stands behind the two requests of its command (R25, log 14). -/
theorem takeStop_appends (s : State) : (commandRequests s.blocks).rpw <+: (takeStop s).blocks.rpw := by
  have htwice : (request .loadStatus (commandRequests s.blocks)).rpw = (commandRequests s.blocks).rpw :=
    addRequest_twice false rfl _
  rw [takeStop_blocks]
  refine stopBlocks_appends ?_
  unfold announceOp
  rw [decideAlert_rpw]
  exact tellHeader_appends ⟨[], by rw [List.append_nil, htwice]⟩

/-- Settles O20: the value and the operating state decide, by the table of R25. -/
theorem commandTable : Obligations.CommandTable := by
  refine ⟨fun s waiting v hr => ?_, fun s ht hr => ⟨?_, fun v hv => ?_, fun ho => ?_, fun ho => ?_⟩⟩
  · intro a g t requests refused
    have ht : t = takeCommand v g := turn_command hr waiting v
    refine ⟨?_, fun hv => ?_, ?_, ?_, ?_, ?_⟩
    · rintro rfl; exact ht
    · exact ht.trans (takeCommand_unknown hv g)
    · rintro rfl ho; exact ht.trans (takeCommand_start_refused (s := g) ho)
    · rintro rfl ho; exact ht.trans (takeCommand_stop_refused (s := g) ho)
    · rintro rfl ho
      rw [ht, takeCommand_start (s := g) ho]
      exact ⟨rfl, rfl, rfl, rfl, (announceOp_rpw_invalid (e := (beginLoad g).env) rfl (commandRequests s.blocks)).trans
        (addRequest_twice false rfl (addRequest false .controlNone s.blocks.rpw))⟩
    · rintro rfl ho
      rw [ht, takeCommand_stop (s := g) ho]
      obtain ⟨later, hlater⟩ := takeStop_appends g
      exact ⟨rfl, rfl, rfl, later, hlater.symm⟩
  · rw [exec_command (v := 0) rfl ht hr, takeCommand_none]
  · rw [exec_command (v := v) rfl ht hr, takeCommand_unknown hv]; rfl
  · rw [exec_command (v := 1) rfl ht hr, takeCommand_start_refused (s := forwarded _ s) ho]; rfl
  · rw [exec_command (v := 2) rfl ht hr, takeCommand_stop_refused (s := forwarded _ s) ho]; rfl

/-! ### STOP (R35) -/

theorem alertOf_iff {op : OpState} {q : Evq} (h : inCharge op = true) :
    alertOf op q = true ↔ ∃ k, SlotState.ready k ∈ q.slots ∧ maskNames q.alertMask k = true := by
  unfold alertOf
  rw [h, Bool.true_and, List.any_eq_true]
  constructor
  · rintro ⟨x, hx, ha⟩
    cases x with
    | ready k => exact ⟨k, hx, ha⟩
    | free => cases ha
    | filling k => cases ha
  · rintro ⟨k, hk, hm⟩; exact ⟨_, hk, hm⟩

theorem frzStop_collecting {e : Env} {b : Blocks} (h : b.frz.state = .collecting) :
    frzStop e b = abandonCollection e b := by
  unfold frzStop; rw [h]

theorem frzStop_other {e : Env} {b : Blocks} (h : b.frz.state ≠ .collecting) : frzStop e b = b := by
  unfold frzStop; split
  · next hs => exact absurd hs h
  · rfl

/-- A collection that is abandoned leaves FRZ IDLE, with the frame cleared (R179). -/
theorem abandonCollection_frz (e : Env) (b : Blocks) :
    (abandonCollection e b).frz = { clearFrame b.frz with state := .idle } :=
  tellFreeze_frz _ _

theorem rowsKept.trans {b c d : Blocks} (h : rowsKept b c) (k : rowsKept c d) : rowsKept b d := by
  obtain ⟨hrows, hcycles, hwcur⟩ := h
  obtain ⟨krows, kcycles, kwcur⟩ := k
  exact ⟨krows.trans hrows, kcycles.trans hcycles, kwcur.trans hwcur⟩

section
variable (e : Env) (b : Blocks)

theorem stopBlocks_tap : (stopBlocks e b).tap = { b.tap with fifo := [], note := .none } := by
  simp [stopBlocks, tapStop]

theorem stopBlocks_crank : (stopBlocks e b).crank = crankStopped b.crank := by
  simp [stopBlocks, crankStop]

theorem stopBlocks_seg : (stopBlocks e b).seg = { b.seg with openSeg := none } := by
  simp [stopBlocks, dropSegment]

theorem stopBlocks_knock : (stopBlocks e b).knock = { b.knock with openWin := none } := by
  simp [stopBlocks, dropWindow]

theorem stopBlocks_evq : (stopBlocks e b).evq = b.evq := by simp [stopBlocks]

theorem stopBlocks_rowsKept : rowsKept b (stopBlocks e b) := by simp [stopBlocks, rowsKept]

theorem stopBlocks_header : (stopBlocks e b).rate.header.op = b.rate.header.op ∧
    (stopBlocks e b).rate.header.sync = .stopped := by
  simp [stopBlocks, crankStop, crankStopped, crankStalled, crankLost]

/-- A collection is abandoned, and a frame in any other state stands (R179). -/
theorem stopBlocks_frz : (stopBlocks e b).frz =
    if b.frz.state = .collecting then { clearFrame b.frz with state := .idle } else b.frz := by
  unfold stopBlocks
  split
  · next h => rw [frzStop_collecting (by simpa using h), abandonCollection_frz]; simp
  · next h => rw [frzStop_other (by simpa using h)]; simp

end

/-- Settles O21: LOADER announces STOPPING, and each block then takes its own part of the STOP. -/
theorem stopDrains : Obligations.StopDrains := by
  intro s ht hr ho a
  have hexec : exec .stop s = .next (takeStop (forwarded a s)) := by
    rw [exec_command (v := 2) rfl ht hr, takeCommand_stop (s := forwarded _ s) ho]
  have hkinds : ∀ k ∈ (commandRequests s.blocks).rpw.map Request.kind, requested (takeStop (forwarded a s)) k :=
    fun k hk => requested_iff_mem.mpr (((takeStop_appends (forwarded a s)).map Request.kind).subset hk)
  have hblocks := takeStop_blocks (forwarded a s)
  refine ⟨_, hexec, hr, rfl, ramAfter_storesOnly rfl, rfl, rfl, ?_, ?_, ?_, ?_, ?_, ?_, fun hf => ?_, fun hf => ?_, ?_,
    ?_, ?_, hkinds _ (addRequest_keeps_kind _ _ (addRequest_has _ _ _)), hkinds _ (addRequest_has _ _ _)⟩
  · rw [hblocks, stopBlocks_tap, announceOp_tap]; rfl
  · rw [hblocks, stopBlocks_crank, announceOp_crank]; rfl
  · rw [hblocks, stopBlocks_seg, announceOp_seg]; rfl
  · rw [hblocks, stopBlocks_knock, announceOp_knock]; rfl
  · rw [hblocks, stopBlocks_evq, announceOp_evq]; rfl
  · rw [hblocks, stopBlocks_evq, announceOp_evq]; exact alertOf_iff (op := .stopping) rfl
  · rw [hblocks, stopBlocks_frz, announceOp_frz]; exact if_pos hf
  · rw [hblocks, stopBlocks_frz, announceOp_frz]; exact if_neg hf
  · have hop : rowsKept s.blocks (announceOp (stopEnv (forwarded a s)) (commandRequests s.blocks)) :=
      announceOp_rowsKept _ (commandRequests s.blocks)
    rw [hblocks]; exact hop.trans (stopBlocks_rowsKept _ _)
  · rw [hblocks, (stopBlocks_header _ _).1]; exact announceOp_header_op _ _
  · rw [hblocks, (stopBlocks_header _ _).2]

end Sys2Proof.Machine
end

section
/-! Events as a block raises them: what EVQ places and what the offer to FRZ leaves (R152 to R157, R170). -/

namespace Sys2Proof.Machine

section
variable {e : Env} {ev : Event} {b : Blocks}

theorem raise_ignored (h : e.op ≠ .running) : raise e ev b = b := if_neg h

/-- In RUNNING EVQ takes the event first, and FRZ is offered it then (R152). -/
theorem raise_running (h : e.op = .running) : raise e ev b = offerEvent e ev (takeEvent e ev b) := if_pos h

theorem takeEvent_masked (h : maskNames (fEventMask e.reader) ev.kind = false) : takeEvent e ev b = b := by
  unfold takeEvent; exact if_neg (by simp [h])

theorem takeEvent_placed (hm : maskNames (fEventMask e.reader) ev.kind = true)
    (hs : b.evq.slots[b.evq.producer]? = some .free) : takeEvent e ev b = placeEvent e ev b := by
  unfold takeEvent; rw [if_pos hm, if_pos hs]

theorem offerEvent_grown {l : List Request} (h : Grown l b.rpw) : Grown l (offerEvent e ev b).rpw := by
  unfold offerEvent; split
  · exact trigger_grown h
  · exact h

theorem placeEvent_slot (hs : b.evq.slots[b.evq.producer]? = some .free) :
    (placeEvent e ev b).evq.slots[b.evq.producer]? = some (.filling ev.kind) := by
  have hlt : b.evq.producer < b.evq.slots.length := (List.getElem?_eq_some_iff.mp hs).1
  simp [placeEvent, hlt]

/-- The words of a placed event, as EVQ fills them in (R155, R193). -/
def placedWords (ev : Event) (b : Blocks) : Vector Word 8 := eventWords ev (contextOf b) b.evq.dropped b.evq.seq

theorem placeEvent_requests :
    .event b.evq.producer (placedWords ev b) ∈ (placeEvent e ev b).rpw.map Request.kind := by
  unfold placeEvent tellProducer
  exact (tellHeader_grown .refl).keeps_kind (addRequest_has false _ b.rpw)

/-- An event that is raised, not masked and finds its slot FREE fills the slot, and its record is requested. -/
theorem raise_placed (ho : e.op = .running) (hm : maskNames (fEventMask e.reader) ev.kind = true)
    (hs : b.evq.slots[b.evq.producer]? = some .free) :
    (raise e ev b).evq.slots[b.evq.producer]? = some (.filling ev.kind) ∧
      .event b.evq.producer (placedWords ev b) ∈ (raise e ev b).rpw.map Request.kind := by
  rw [raise_running ho, takeEvent_placed hm hs, offerEvent_evq]
  exact ⟨placeEvent_slot hs, (offerEvent_grown .refl).keeps_kind placeEvent_requests⟩

/-- A masked event reaches neither EVQ nor TAP (R154). -/
theorem raise_masked (h : maskNames (fEventMask e.reader) ev.kind = false) :
    (raise e ev b).evq = b.evq ∧ (raise e ev b).tap = b.tap := by
  by_cases ho : e.op = .running
  · rw [raise_running ho, takeEvent_masked h]; exact ⟨offerEvent_evq _ _ _, offerEvent_tap _ _ _⟩
  · rw [raise_ignored ho]; exact ⟨rfl, rfl⟩

theorem takeEvent_flagSet {f : Flag} (h : f ≠ .queueDropped) :
    flagSet (takeEvent e ev b).tap f = flagSet b.tap f := by
  unfold takeEvent dropEvent; split
  · split
    · simp
    · rw [setFlag_flagSet]; simp [Ne.symm h]
  · rfl

/-- A raised event sets QUEUE_DROPPED at most (R157). -/
theorem raise_flagSet {f : Flag} (h : f ≠ .queueDropped) : flagSet (raise e ev b).tap f = flagSet b.tap f := by
  by_cases ho : e.op = .running
  · rw [raise_running ho, offerEvent_tap, takeEvent_flagSet h]
  · rw [raise_ignored ho]

theorem raise_rowsKept : rowsKept b (raise e ev b) := by simp [rowsKept]

end

end Sys2Proof.Machine
end

section
/-! Writes to the setup block: taken, refused, and those of a tunable word (R22, R37 to R39, R164, R178). -/

namespace Sys2Proof.Machine

/-! ### The lanes of a merged word (R22) -/

/-- No bit of another lane is in the mask of the lanes. -/
theorem laneMask_getLsbD_other {l : Lanes} {k : Nat} (hk : k < 4) (h : k ∉ enabledLanes l) {i : Nat} (hi : i < 8) :
    (laneMask l).getLsbD (8 * k + i) = false := by
  have hall : ∀ l : Lanes, ∀ k : Fin 4, k.val ∉ enabledLanes l → ∀ i : Fin 8,
      (laneMask l).getLsbD (8 * k.val + i.val) = false := by
    intro l
    cases l with
    | word => decide
    | half high => cases high <;> decide
    | byte j => revert j; decide
  exact hall l ⟨k, hk⟩ h ⟨i, hi⟩

/-- A merged word takes the enabled bytes of the new word and keeps the others of the old. -/
theorem laneByte_mergeLanes (old new : Word) (l : Lanes) {k : Nat} (hk : k < 4) :
    laneByte (mergeLanes old new l) k = if k ∈ enabledLanes l then laneByte new k else laneByte old k := by
  apply BitVec.eq_of_getLsbD_eq
  intro i hi
  split
  · next h => simp [mergeLanes, laneByte_getLsbD _ _ hi, laneMask_getLsbD h hi]
  · next h =>
    simp only [mergeLanes, laneByte_getLsbD _ _ hi, BitVec.getLsbD_or, BitVec.getLsbD_and, BitVec.getLsbD_not,
      laneMask_getLsbD_other hk h hi]
    simp [show 8 * k + i < 32 by omega]

/-! ### The fate of a setup write (R5) -/

theorem mergedShadow_eq {off : Nat} (h : off ≠ 1) (l : Lanes) (d : Word) (sh : Shadow) :
    mergedShadow off l d sh = sh.setIfInBounds off (mergeLanes (shadowWord sh off) d l) :=
  if_neg h

/-- The fate that LOADER's decision gives a setup write (R37 to R39). -/
def decidedFate (off : Nat) : SetupFate → Fate
  | .take => .setup off
  | .locked => .refuseSetup false off
  | .outOfRange => .refuseSetup true off

/-- A write to a setup word other than the control and the load status word is LOADER's to decide. -/
theorem writeFate_setup {s : State} {off : BitVec 7} (hr : s.resetPin = false) (h1 : off ≠ 1) (h2 : off ≠ 2)
    (l : Lanes) (d : Word) :
    writeFate s (setupAccess s off.toNat l d) d =
      decidedFate off.toNat (decideSetup (setupBaseByte s.path.setupSel) off.toNat l d s.loader) := by
  have hn1 : off.toNat ≠ 1 := fun h => h1 (BitVec.eq_of_toNat_eq h)
  have hn2 : off.toNat ≠ 2 := fun h => h2 (BitVec.eq_of_toNat_eq h)
  rw [writeFate_window _ _ hr, windowOf_setupAccess s off.isLt]
  show setupFate s off.toNat l d = _
  unfold setupFate; rw [if_neg hn1, if_neg hn2]
  cases decideSetup (setupBaseByte s.path.setupSel) off.toNat l d s.loader <;> rfl

/-- A setup write that LOADER takes is forwarded, and taken. -/
theorem exec_setupWrite_taken {s : State} {off : BitVec 7} {l : Lanes} {d : Word} (ht : onTurn s)
    (hr : s.resetPin = false) (h1 : off ≠ 1) (h2 : off ≠ 2)
    (h : decideSetup (setupBaseByte s.path.setupSel) off.toNat l d s.loader = .take) :
    exec (.setupWrite off l d) s =
      .next (takeSetup off.toNat l d (forwarded (setupAccess s off.toNat l d) s)) :=
  exec_granted (f := .setup off.toNat) rfl rfl ht (by rw [writeFate_setup hr h1 h2, h]; rfl) rfl

/-! ### Setup writes that are taken (R37, R39) -/

theorem takeSetup_open {s : State} (h : setupOpen s.loader = true) (off : Nat) (l : Lanes) (d : Word) :
    takeSetup off l d s =
      { s with loader := { s.loader with shadow := mergedShadow off l d s.loader.shadow } } :=
  if_pos h

/-- In the guarded phases the owner of a tunable word is told of it. -/
theorem takeSetup_guarded {s : State} (h : setupOpen s.loader = false) (off : Nat) (l : Lanes) (d : Word) :
    takeSetup off l d s = onBlocks (tunableChanged off)
      { s with loader := { s.loader with shadow := mergedShadow off l d s.loader.shadow } } :=
  if_neg (by simp [h])

theorem setupOpen_iff (l : Loader) : setupOpen l = true ↔ l.op = .unconfigured ∨ l.op = .stopped ∨
    (l.op = .loading ∧ l.phase = .reading) := by
  unfold setupOpen
  cases l.op <;> cases l.phase <;> simp

/-- Settles O25: in these states LOADER takes every write unchecked, and tells no block. -/
theorem setupWriteOpen : Obligations.SetupWriteOpen := by
  refine ⟨fun s off l d ht hr h1 h2 ho => ⟨?_, forwarded_storesOnly _ _⟩,
    fun old new l k hk => laneByte_mergeLanes old new l hk⟩
  have hopen : setupOpen s.loader = true := (setupOpen_iff _).mpr ho
  have hn1 : off.toNat ≠ 1 := fun h => h1 (BitVec.eq_of_toNat_eq h)
  rw [exec_setupWrite_taken ht hr h1 h2 (decideSetup_open hopen), takeSetup_open (by exact hopen), mergedShadow_eq hn1]
  rfl

/-! ### Mode writes (R178) -/

/-- FRZ after an accepted write to the word that holds `freeze_mode`. -/
def modeWritten (m : FreezeMode) (f : Frz) : Frz :=
  match f.state with
  | .idle => { f with mode := m, state := if m = .off then .idle else .armed }
  | .armed => { f with mode := m, state := if m = .off then .idle else .armed }
  | .collecting => if m = .off then { clearFrame f with mode := m, state := .idle } else { f with mode := m }
  | .writing => { f with mode := m }
  | .held => { f with mode := m }

/-- A mode write leaves FRZ as given, and tells RATE of a new freeze state alone. -/
theorem modeWrite_cases (e : Env) (m : FreezeMode) (b : Blocks) :
    ((modeWritten m b.frz).state = b.frz.state ∧ modeWrite e m b = { b with frz := modeWritten m b.frz }) ∨
      modeWrite e m b = tellFreeze e { b with frz := modeWritten m b.frz } := by
  unfold modeWrite modeWritten
  cases hs : b.frz.state with
  | idle =>
    by_cases hm : m = .off
    · left; simp [hm, hs]
    · right; simp [hm, setFreezeState]
  | armed =>
    by_cases hm : m = .off
    · right; simp [hm, setFreezeState]
    · left; simp [hm, hs]
  | collecting =>
    by_cases hm : m = .off
    · right; simp [hm, abandonCollection, setFreezeState, clearFrame]
    · left; simp [hm, hs]
  | writing => left; simp [hs]
  | held => left; simp [hs]

theorem modeWrite_frz (e : Env) (m : FreezeMode) (b : Blocks) : (modeWrite e m b).frz = modeWritten m b.frz := by
  rcases modeWrite_cases e m b with ⟨_, h⟩ | h <;> rw [h]
  exact tellFreeze_frz _ _

theorem modeWrite_eq (e : Env) (m : FreezeMode) (b : Blocks) :
    modeWrite e m b = { b with
      frz := (modeWrite e m b).frz, rate := (modeWrite e m b).rate, rpw := (modeWrite e m b).rpw } := by
  rcases modeWrite_cases e m b with ⟨_, h⟩ | h <;> rw [h]
  unfold tellFreeze
  rw [tellHeader_frz]
  exact tellHeader_eq _ _ _

/-- RATE hears of the freeze state that a mode write leaves, where its header showed the one before (R135, R178). -/
theorem modeWrite_headerStep (e : Env) (m : FreezeMode) {b : Blocks} (h : b.rate.header.freeze = b.frz.state) :
    headerStep e.table.valid (fun x => { x with freeze := (modeWrite e m b).frz.state }) b (modeWrite e m b) := by
  rw [modeWrite_frz]
  rcases modeWrite_cases e m b with ⟨hs, hm⟩ | hm <;> rw [hm]
  · rw [hs, ← h]; exact ⟨fun _ => ⟨rfl, rfl⟩, fun hne => absurd rfl hne⟩
  · exact tellHeader_headerStep e (fun x => { x with freeze := (modeWritten m b.frz).state })
      { b with frz := modeWritten m b.frz }

/-- The freeze state after a mode write, by the one before (R178). -/
theorem modeWritten_state (m : FreezeMode) (f : Frz) :
    (modeWritten m f).state = match f.state with
      | .idle => if m = .off then .idle else .armed
      | .armed => if m = .off then .idle else .armed
      | .collecting => if m = .off then .idle else .collecting
      | .writing => .writing
      | .held => .held := by
  unfold modeWritten
  cases f.state with
  | idle => rfl
  | armed => rfl
  | collecting =>
    by_cases hm : m = .off
    · simp [hm]
    · simp [hm]
  | writing => rfl
  | held => rfl

theorem modeWritten_mode (m : FreezeMode) (f : Frz) : (modeWritten m f).mode = m := by
  unfold modeWritten
  split
  · rfl
  · rfl
  · split <;> rfl
  · rfl
  · rfl

/-- A mode write changes mode and state alone, unless it abandons a collection. -/
theorem modeWritten_kept {m : FreezeMode} {f : Frz}
    (h : f.state ≠ .collecting ∨ (modeWritten m f).state = .collecting) :
    modeWritten m f = { f with mode := m, state := (modeWritten m f).state } := by
  unfold modeWritten at h ⊢
  cases hs : f.state with
  | idle => rfl
  | armed => rfl
  | collecting =>
    by_cases hm : m = .off
    · simp [hs, hm] at h
    · simp [hm]
  | writing => rfl
  | held => rfl

/-- A mode of OFF abandons a collection and clears the frame. -/
theorem modeWritten_abandoned {m : FreezeMode} {f : Frz} (h : f.state = .collecting)
    (hi : (modeWritten m f).state = .idle) :
    modeWritten m f = { clearFrame f with mode := .off, state := .idle } := by
  have hm : m = .off := by
    refine Classical.byContradiction fun hm => ?_
    rw [modeWritten_state, h] at hi
    simp [hm] at hi
  subst hm
  unfold modeWritten; rw [h]; rfl

/-! ### Tunable writes that are accepted (R39) -/

theorem setupOpen_eq_false {l : Loader}
    (h : l.op = .running ∨ l.op = .stopping ∨ (l.op = .loading ∧ l.phase = .initialising)) : setupOpen l = false := by
  have hg := (guarded_iff l).mpr h
  simpa [guarded] using hg

/-- Settles O27: LOADER takes the merged word, and tells EVQ or FRZ where the word is theirs. -/
theorem tunableWriteAccepted : Obligations.TunableWriteAccepted := by
  intro s off l d ht hr h1 h2 ho a sh s' hgeo hacc
  have hopen : setupOpen s.loader = false := setupOpen_eq_false ho
  have hn1 : off.toNat ≠ 1 := fun h => h1 (BitVec.eq_of_toNat_eq h)
  have hsh : mergedShadow off.toNat l d s.loader.shadow = sh := mergedShadow_eq hn1 _ _ _
  have hexec : exec (.setupWrite off l d) s = .next (onBlocks (tunableChanged off.toNat) s') := by
    rw [exec_setupWrite_taken ht hr h1 h2 ((decideSetup_guarded hopen).2.1 hgeo (by rw [hsh]; exact hacc)),
      takeSetup_guarded (s := forwarded a s) hopen]
    simp only [forwarded_loader, hsh]
    rfl
  refine ⟨fun h62 h64 => ?_, ?_, ?_⟩
  · have hn62 : off.toNat ≠ 62 := fun h => h62 (BitVec.eq_of_toNat_eq h)
    have hn64 : off.toNat ≠ 64 := fun h => h64 (BitVec.eq_of_toNat_eq h)
    rw [hexec, onBlocks_id]
    unfold tunableChanged; rw [if_neg hn62, if_neg hn64]
  · rintro rfl
    rw [hexec]; rfl
  · rintro rfl hfreeze
    let m := freezeModeOf (fFreezeMode (shadowWord sh))
    have hfrz : (modeWrite s'.env m s.blocks).frz = modeWritten m s.blocks.frz := modeWrite_frz _ _ _
    refine ⟨{ s' with blocks := modeWrite s'.env m s.blocks }, hexec, ?_, ?_, ?_, fun h => ?_, fun h hi => ?_,
      modeWrite_headerStep s'.env m hfreeze⟩
    · exact congrArg (fun b => ({ s' with blocks := b } : State)) (modeWrite_eq _ _ _)
    · rw [hfrz]; exact modeWritten_mode _ _
    · rw [hfrz]; exact modeWritten_state _ _
    · rw [hfrz] at h ⊢
      rw [modeWritten_mode]; exact modeWritten_kept h
    · rw [hfrz] at hi ⊢
      exact modeWritten_abandoned h hi

/-! ### Setup writes that are refused (R38, R39) -/

section
variable (range : Bool) (off : Nat) (e : Env) (b : Blocks)

variable {range off e b} in
theorem refuseSetup_again (h : flagSet b.tap .setupRefused = true) : refuseSetup range off e b = b := if_pos h

variable {range off e b} in
theorem refuseSetup_first (h : flagSet b.tap .setupRefused = false) :
    refuseSetup range off e b = raise e (setupRefusedEvent range off) (setFlag e .setupRefused b) :=
  if_neg (by simp [h])

/-- A refusal sets SETUP_REFUSED, and its event QUEUE_DROPPED at most. -/
theorem refuseSetup_flags :
    flagSet (refuseSetup range off e b).tap .setupRefused = true ∧
      ∀ f, f ≠ .setupRefused → f ≠ .queueDropped → flagSet (refuseSetup range off e b).tap f = flagSet b.tap f := by
  cases h : flagSet b.tap .setupRefused with
  | true => rw [refuseSetup_again h]; exact ⟨h, fun _ _ _ => rfl⟩
  | false =>
    rw [refuseSetup_first h]
    refine ⟨?_, fun f hf hq => ?_⟩
    · rw [raise_flagSet (by decide), setFlag_flagSet]; simp
    · rw [raise_flagSet hq, setFlag_flagSet]; simp [Ne.symm hf]

/-- CRANK, SEG and KNOCK hear nothing of a refusal, and RATE through its header alone. -/
theorem refuseSetup_kept :
    (refuseSetup range off e b).crank = b.crank ∧ (refuseSetup range off e b).seg = b.seg ∧
      (refuseSetup range off e b).knock = b.knock ∧ rowsKept b (refuseSetup range off e b) := by
  unfold refuseSetup; split
  · exact ⟨rfl, rfl, rfl, rfl, rfl, rfl⟩
  · simp [rowsKept, setFlag_knock _ .setupRefused _ rfl]

variable {e} in
/-- Outside RUNNING a refusal raises no event (R152). -/
theorem refuseSetup_unraised (h : e.op ≠ .running) :
    (refuseSetup range off e b).evq = b.evq ∧ (refuseSetup range off e b).frz = b.frz ∧
      flagSet (refuseSetup range off e b).tap .queueDropped = flagSet b.tap .queueDropped := by
  unfold refuseSetup; split
  · exact ⟨rfl, rfl, rfl⟩
  · rw [raise_ignored h, setFlag_flagSet]; simp

variable {e b} in
/-- In RUNNING the flag's change raises SETUP_REFUSED (R51). -/
theorem refuseSetup_raised (ho : e.op = .running) (h : flagSet b.tap .setupRefused = false)
    (hm : maskNames (fEventMask e.reader) .setupRefused = true) (hs : b.evq.slots[b.evq.producer]? = some .free) :
    (refuseSetup range off e b).evq.slots[b.evq.producer]? = some (.filling .setupRefused) ∧
      .event b.evq.producer (placedWords (setupRefusedEvent range off) (setFlag e .setupRefused b)) ∈
        (refuseSetup range off e b).rpw.map Request.kind := by
  rw [refuseSetup_first h]
  have hp := raise_placed (e := e) (ev := setupRefusedEvent range off) (b := setFlag e .setupRefused b) ho hm
    (by rw [setFlag_evq]; exact hs)
  rw [setFlag_evq] at hp
  exact hp

/-- The detail of SETUP_REFUSED, and the offset that is its value (R193). -/
theorem setupRefused_words :
    bitField ((placedWords (setupRefusedEvent range off) b).get 0) 16 16 = (if range then 2 else 1) ∧
      (placedWords (setupRefusedEvent range off) b).get 3 = BitVec.ofNat 32 off := by
  have hword : (placedWords (setupRefusedEvent range off) b).get 0 =
      place 12 0 8 ||| place 0 8 8 ||| place (if range then 2 else 1) 16 16 := rfl
  refine ⟨?_, rfl⟩
  rw [hword]
  cases range <;> decide

end

/-- A setup write that LOADER refuses is dropped. -/
theorem exec_setupWrite_refused {s : State} {off : BitVec 7} {l : Lanes} {d : Word} {range : Bool} (ht : onTurn s)
    (hf : writeFate s (setupAccess s off.toNat l d) d = .refuseSetup range off.toNat) :
    ∃ t, exec (.setupWrite off l d) s = .next t ∧ endedOnly (setupAccess s off.toNat l d) .dropped d s t ∧
      Granted (onBlocks (refuseSetup range off.toNat) (endedBy (setupAccess s off.toNat l d) .dropped d s)) t := by
  obtain ⟨t, hexec, hend, htx⟩ := exec_ended (c := .setupWrite off l d) rfl rfl ht hf rfl
  exact ⟨t, hexec, hend, htx ▸ decideInternal_kept _⟩

/-- Settles O26: in the guarded phases such a write is LOCKED or OUT_OF_RANGE; it is dropped, the flag is set, and
on the flag's change the event is raised. -/
theorem setupWriteRefused : Obligations.SetupWriteRefused := by
  intro s off l d ht hr h1 h2 ho hrefused
  have hopen : setupOpen s.loader = false := setupOpen_eq_false ho
  have hn1 : off.toNat ≠ 1 := fun h => h1 (BitVec.eq_of_toNat_eq h)
  rw [← mergedShadow_eq hn1] at hrefused
  obtain ⟨hlocked, -, hrange⟩ := decideSetup_guarded (base := setupBaseByte s.path.setupSel) (off := off.toNat) (l := l)
    (d := d) hopen
  have hfate : writeFate s (setupAccess s off.toNat l d) d = .refuseSetup (!geometryWord off.toNat) off.toNat := by
    rw [writeFate_setup hr h1 h2]
    cases hg : geometryWord off.toNat with
    | true => rw [hlocked hg]; rfl
    | false => rw [hrange hg (hrefused.resolve_left (by simp [hg]))]; rfl
  obtain ⟨t, hexec, hend, g⟩ := exec_setupWrite_refused ht hfate
  obtain ⟨hflag, hflags⟩ := refuseSetup_flags (!geometryWord off.toNat) off.toNat s.env s.blocks
  obtain ⟨hcrank, hseg, hknock, hrows⟩ := refuseSetup_kept (!geometryWord off.toNat) off.toNat s.env s.blocks
  have hblocks : sameBlocks (refuseSetup (!geometryWord off.toNat) off.toNat s.env s.blocks) t.blocks := g.blocks
  refine ⟨t, hexec, hend, ?_, fun f hf hq => ?_, g.crank.trans hcrank, g.seg.trans hseg, g.knock.trans hknock,
    g.rowsKept hrows, fun hs => ?_, fun hn => ?_, fun hrun hs hm hfree => ?_⟩
  · unfold flagIn; rw [g.tap]; exact hflag
  · unfold flagIn; rw [g.tap]; exact hflags f hf hq
  · rwa [refuseSetup_again hs] at hblocks
  · obtain ⟨hevq, hfrz, hq⟩ := refuseSetup_unraised (!geometryWord off.toNat) off.toNat s.blocks (e := s.env) hn
    refine ⟨g.evq.trans hevq, g.frz.trans hfrz, ?_⟩
    unfold flagIn; rw [g.tap]; exact hq
  · obtain ⟨hslot, hword⟩ := refuseSetup_raised (!geometryWord off.toNat) off.toNat (e := s.env) hrun hs hm hfree
    obtain ⟨hdetail, hvalue⟩ :=
      setupRefused_words (!geometryWord off.toNat) off.toNat (setFlag s.env .setupRefused s.blocks)
    refine ⟨?_, _, g.requests.requested_iff.mp (requested_iff_mem.mpr hword), ?_, hvalue⟩
    · unfold slotIn; rw [g.evq]; exact hslot
    · rw [hdetail]; cases geometryWord off.toNat <;> rfl

end Sys2Proof.Machine
end

section
/-! The end of a freeze writer's word: the next word, or the frame HELD with FREEZE_READY (R36, R152, R175, R176). -/

namespace Sys2Proof.Machine

/-- The end of a live freeze writer's access, with nothing of the system side waiting. -/
theorem exec_freezeWriteDone_live {s : State} {a : Access} (hp : s.path.port = some ⟨.freeze, a, true⟩)
    (ha : s.path.access = none) (hb : s.path.bus = []) :
    exec .freezeWriteDone s = .next (decideInternal (frameWordDone (freePort s))) := by
  have hi := frameWordDone_inside (freePort s)
  rw [exec_freezeWriteDone, accessDone_some hp]
  exact congrArg _ (settled_no_access (hi.access.trans ha) (hi.bus.trans hb))

/-! ### The next word (R175) -/

/-- The state with the freeze writer's list replaced. -/
def withWords (l : List FrameWord) (s : State) : State :=
  { s with blocks := { s.blocks with frz := { s.blocks.frz with writeList := l } } }

theorem frameWordDone_more {s : State} {w v : FrameWord} {tail : List FrameWord}
    (h : s.blocks.frz.writeList = w :: v :: tail) : frameWordDone s = withWords (v :: tail) s := by
  unfold frameWordDone; rw [h]; rfl

theorem frameWordDone_last {s : State} {w : FrameWord} (h : s.blocks.frz.writeList = [w]) :
    frameWordDone s = writeOutDone s := by
  unfold frameWordDone; rw [h]

/-- The grant to the freeze writer, of the word at the head of its list (R175). -/
theorem grantFreeze_cons {s : State} {w : FrameWord} {rest : List FrameWord} (h : s.blocks.frz.writeList = w :: rest) :
    grantFreeze s = grant .freeze (wordWrite (freezeWordAddr s.path.table w.index, w.value)) s := by
  unfold grantFreeze; rw [h]

/-- With words left, no request and no read of LOADER, the next word is granted as the port becomes free. -/
theorem frameWord_next {s : State} {w v : FrameWord} {tail : List FrameWord} (hr : s.resetPin = false)
    (hw : s.blocks.frz.writeList = w :: v :: tail) (hl : s.blocks.rpw = []) (hc : loaderClaims s.loader = false) :
    decideInternal (frameWordDone (freePort s)) =
      grant .freeze (wordWrite (freezeWordAddr s.path.table v.index, v.value))
        (portFreed (withWords (v :: tail) s)) := by
  have hclaim : firstInternal (freePort (withWords (v :: tail) s)) = some .freeze :=
    firstInternal_of_freeze hr hl hc (by simp [withWords])
  rw [frameWordDone_more (s := freePort s) hw]
  exact (decideInternal_freePort hclaim).trans (grantFreeze_cons (s := portFreed (withWords (v :: tail) s)) rfl)

/-! ### The frame HELD (R176) -/

theorem frameHeld_frz (e : Env) (b : Blocks) :
    (frameHeld e b).frz = { b.frz with state := .held, writeList := [] } := tellFreeze_frz _ _

theorem frameHeld_header_freeze (e : Env) (b : Blocks) : (frameHeld e b).rate.header.freeze = .held :=
  (tellFreeze_header_freeze _ _).trans rfl

theorem frameHeld_rowsKept (e : Env) (b : Blocks) : rowsKept b (frameHeld e b) := by simp [rowsKept]

/-- Where the header showed WRITING and the window table is VALID, the frame HELD requests a mirror (R135). -/
theorem frameHeld_requests {e : Env} {b : Blocks} (hv : e.table.valid = true) (h : b.rate.header.freeze = .writing) :
    (frameHeld e b).rpw = addRequest false .header b.rpw := by
  have hstep := (tellHeader_headerStep e (fun x => { x with freeze := .held })
    { b with frz := { b.frz with writeList := [], state := .held } }).2
    (fun he => by have := congrArg Header.freeze he; simp [h] at this)
  exact hstep.2.trans (if_pos hv)

/-- The state with the frame HELD, the port free. -/
def heldState (s : State) : State := onBlocks frameHeld (freePort s)

theorem writeOutDone_eq (s : State) :
    writeOutDone (freePort s) =
      onBlocks (fun e => raise e (freezeReadyEvent s.blocks.frz)) (checkStopped (heldState s)) :=
  rfl

/-! ### FREEZE_READY in RUNNING (R152, R176) -/

/-- While a frame is HELD, an offer counts as a missed trigger where the mask names it, and does nothing else (R172). -/
theorem offerEvent_held {e : Env} {ev : Event} {b : Blocks} (h : b.frz.state = .held) :
    offerEvent e ev b = if maskNames (fFreezeTriggerMask e.reader) ev.kind then missTrigger b else b := by
  unfold offerEvent trigger; rw [h]

/-- FRZ after FREEZE_READY is offered to it. -/
theorem raise_held_frz {e : Env} {ev : Event} {b : Blocks} (ho : e.op = .running) (h : b.frz.state = .held) :
    (raise e ev b).frz = { b.frz with
      missed := if maskNames (fFreezeTriggerMask e.reader) ev.kind then min 255 (b.frz.missed + 1)
        else b.frz.missed } := by
  have hs : (takeEvent e ev b).frz.state = .held := by rw [takeEvent_frz]; exact h
  rw [raise_running ho, offerEvent_held hs]
  split
  · unfold missTrigger; rw [takeEvent_frz]
  · exact takeEvent_frz _ _ _

/-- FRZ after the frame is HELD and an event is raised. -/
theorem raise_frameHeld_frz {e : Env} (ev : Event) (b : Blocks) (ho : e.op = .running) :
    (raise e ev (frameHeld e b)).frz = { b.frz with
      state := .held, writeList := []
      missed := if maskNames (fFreezeTriggerMask e.reader) ev.kind then min 255 (b.frz.missed + 1)
        else b.frz.missed } := by
  rw [raise_held_frz ho (by rw [frameHeld_frz]), frameHeld_frz]

theorem raise_held_header {e : Env} {ev : Event} {b : Blocks} (h : b.frz.state = .held) :
    (raise e ev b).rate.header.freeze = b.rate.header.freeze := by
  by_cases ho : e.op = .running
  · have hs : (takeEvent e ev b).frz.state = .held := by rw [takeEvent_frz]; exact h
    rw [raise_running ho, offerEvent_held hs]
    split <;> simp
  · rw [raise_ignored ho]

/-- The clause of O41 on the last word in RUNNING. -/
theorem frameWord_last_running {s t : State} (ho : s.loader.op = .running)
    (g : Granted (writeOutDone (freePort s)) t) :
    outsideKept s t ∧ t.blocks.frz.state = .held ∧
      t.blocks.frz = { s.blocks.frz with state := .held, writeList := [], missed := t.blocks.frz.missed } ∧
      t.blocks.rate.header.freeze = .held ∧ rowsKept s.blocks t.blocks ∧ t.blocks.crank = s.blocks.crank ∧
      t.blocks.seg = s.blocks.seg ∧ t.blocks.knock = s.blocks.knock ∧
      (maskNames (fFreezeTriggerMask s.setup) .freezeReady = false → t.blocks.frz.missed = s.blocks.frz.missed) ∧
      (maskNames (fFreezeTriggerMask s.setup) .freezeReady = true →
        t.blocks.frz.missed = min 255 (s.blocks.frz.missed + 1)) ∧
      (maskNames (fEventMask s.setup) .freezeReady = true → slotIn s s.blocks.evq.producer = some .free →
        slotIn t s.blocks.evq.producer = some (.filling .freezeReady) ∧
        ∃ words, requested t (.event s.blocks.evq.producer words) ∧
          words.get 3 = s.blocks.frz.trigger.elim 0 Trigger.cycle ∧
          words.get 4 = BitVec.ofNat 32 (s.blocks.frz.pre + 1 + s.blocks.frz.post)) ∧
      (maskNames (fEventMask s.setup) .freezeReady = false → t.blocks.evq = s.blocks.evq ∧
        t.blocks.tap = s.blocks.tap) := by
  have hx : writeOutDone (freePort s) = onBlocks (fun e => raise e (freezeReadyEvent s.blocks.frz)) (heldState s) := by
    have hop : (heldState s).loader.op ≠ .stopping := by
      show s.loader.op ≠ .stopping
      simp [ho]
    rw [writeOutDone_eq, checkStopped_other fun h => hop h.1]
  rw [hx] at g
  have hstate : (frameHeld s.env s.blocks).frz.state = .held := by rw [frameHeld_frz]
  have hfrz := g.frz.trans (raise_frameHeld_frz (e := s.env) (freezeReadyEvent s.blocks.frz) s.blocks ho)
  refine ⟨⟨g.resetPin, g.pending, by rw [g.path]; rfl, by rw [g.loader]; rfl, g.shadow, g.ram⟩, by rw [hfrz],
    by rw [hfrz], ?_, g.rowsKept ((frameHeld_rowsKept _ _).trans raise_rowsKept), ?_, ?_, ?_, fun hm => ?_,
    fun hm => ?_, fun hm hs => ?_, fun hm => ?_⟩
  · rw [g.rate]; exact (raise_held_header hstate).trans (frameHeld_header_freeze _ _)
  · rw [g.crank]; exact (raise_crank _ _ _).trans (frameHeld_crank _ _)
  · rw [g.seg]; exact (raise_seg _ _ _).trans (frameHeld_seg _ _)
  · rw [g.knock]; exact (raise_knock _ _ _).trans (frameHeld_knock _ _)
  · rw [hfrz]; exact if_neg (Bool.eq_false_iff.mp hm)
  · rw [hfrz]; exact if_pos hm
  · have hp := raise_placed (e := s.env) (ev := freezeReadyEvent s.blocks.frz) (b := frameHeld s.env s.blocks) ho hm
      (by rw [frameHeld_evq]; exact hs)
    rw [frameHeld_evq] at hp
    obtain ⟨hslot, hword⟩ := hp
    refine ⟨?_, _, g.requests.requested_iff.mp (requested_iff_mem.mpr hword), rfl, rfl⟩
    unfold slotIn; rw [g.evq]; exact hslot
  · obtain ⟨hevq, htap⟩ :=
      raise_masked (e := s.env) (ev := freezeReadyEvent s.blocks.frz) (b := frameHeld s.env s.blocks) hm
    exact ⟨g.evq.trans (hevq.trans (frameHeld_evq _ _)), g.tap.trans (htap.trans (frameHeld_tap _ _))⟩

/-! ### The last word in STOPPING (R36) -/

theorem checkStopped_op (s : State) (h : s.loader.op = .stopping) :
    (checkStopped s).loader.op = .stopping ∨ (checkStopped s).loader.op = .stopped := by
  rcases checkStopped_cases s with e | ⟨_, _, _, e⟩ <;> rw [e]
  · exact .inl h
  · exact .inr rfl

theorem checkStopped_header_freeze (s : State) :
    (checkStopped s).blocks.rate.header.freeze = s.blocks.rate.header.freeze := by
  rcases checkStopped_cases s with e | ⟨_, _, _, e⟩ <;> rw [e]
  rw [onBlocks_blocks, announceOp_header]

/-- In STOPPING no event is raised: the frame is HELD, and LOADER may end STOPPING. -/
theorem writeOutDone_stopping {s : State} (ho : s.loader.op = .stopping) :
    writeOutDone (freePort s) = checkStopped (heldState s) := by
  rw [writeOutDone_eq]
  have hop : (checkStopped (heldState s)).loader.op ≠ .running := by
    rcases checkStopped_op (heldState s) ho with hx | hx <;> simp [hx]
  exact onBlocks_id (raise_ignored hop)

/-- Settles O41: with words left the freeze writer's own claim is granted; after the last the frame is HELD, LOADER is
told, and FREEZE_READY is raised in RUNNING alone. -/
theorem freezeWordWritten : Obligations.FreezeWordWritten := by
  intro s a w rest hr hp ha hb hw
  rw [exec_freezeWriteDone_live hp ha hb]
  refine ⟨?_, ?_, ?_⟩
  · rintro v tail rfl hl hc x
    rw [frameWord_next hr hw hl hc]
    exact ⟨_, rfl, hr, rfl, rfl, rfl, rfl, ramAfter_storesOnly rfl⟩
  · rintro rfl ho
    rw [frameWordDone_last (s := freePort s) hw]
    exact ⟨_, rfl, frameWord_last_running ho (decideInternal_kept _)⟩
  · rintro rfl ho
    rw [frameWordDone_last (s := freePort s) hw, writeOutDone_stopping ho]
    have g := decideInternal_kept (checkStopped (heldState s))
    have han := checkStopped_announced (heldState s)
    generalize decideInternal (checkStopped (heldState s)) = t at g
    refine ⟨t, rfl, g.resetPin.trans (han.resetPin.trans hr), g.pending.trans han.pending,
      g.frz.trans (han.frz.trans (frameHeld_frz _ _)), ?_, g.tap.trans (han.tap.trans (frameHeld_tap _ _)),
      g.crank.trans (han.crank.trans (frameHeld_crank _ _)), g.seg.trans (han.seg.trans (frameHeld_seg _ _)),
      g.knock.trans (han.knock.trans (frameHeld_knock _ _)), g.rowsKept ((frameHeld_rowsKept _ _).trans han.rows),
      fun n hn => (g.ram n hn).trans (by rw [han.ram]; rfl), ?_, fun hv hf => ?_⟩
    · rw [g.rate, checkStopped_header_freeze]; exact frameHeld_header_freeze _ _
    · rw [g.op]; exact checkStopped_op (heldState s) ho
    · have hreq : (heldState s).blocks.rpw = addRequest false .header s.blocks.rpw :=
        frameHeld_requests (e := s.env) hv hf
      have hhas : .header ∈ (heldState s).blocks.rpw.map Request.kind := hreq ▸ addRequest_has _ _ _
      rw [checkStopped_other fun h => by simp [h.2.1] at hhas] at g
      exact ⟨g.op.trans ho, g.requests.requested_iff.mp (requested_iff_mem.mpr hhas)⟩

end Sys2Proof.Machine
end

section
/-! Suspension, the rows' counts and the backgrounds: what every step keeps of them (R47, R116, R122, R138). -/

namespace Sys2Proof.Machine

/-! ### What the three invariants read of the blocks -/

/-- The flags, the suspensions, the backgrounds and the rows are as before. -/
structure Unmoved (b c : Blocks) : Prop where
  flags : c.tap.flags = b.tap.flags
  suspended : c.knock.suspended = b.knock.suspended
  background : c.knock.background = b.knock.background
  rows : c.rate.rows = b.rate.rows

theorem Unmoved.of_frames {b c : Blocks} (ht : c.tap = b.tap) (hk : c.knock = b.knock)
    (hr : c.rate.rows = b.rate.rows) : Unmoved b c :=
  ⟨by rw [ht], by rw [hk], by rw [hk], hr⟩

/-- A property of the blocks that each change of what the invariants read passes on. A row changes only by functions
that keep its counts in agreement, and the backgrounds only by what a closed window teaches. -/
structure BlocksKept (Q : Blocks → Prop) : Prop where
  unmoved : ∀ {b c}, Q b → Unmoved b c → Q c
  setFlag : ∀ e f b, Q b → Q (setFlag e f b)
  clearFlag : ∀ e f b, Q b → Q (clearFlag e f b)
  updateRow : ∀ e n f b, (∀ r, rowCountsAgree r → rowCountsAgree (f r)) → Q b → Q (updateRow e n f b)
  learn : ∀ r w b, Q b → Q { b with knock := learnBoth r w b.knock }
  start : ∀ r b, Q (startBlocks r b)
  reset : Q Blocks.reset

/-! ### One value of two -/

theorem PerSensor.get_set_same {α : Type} (p : PerSensor α) (x : Sensor) (v : α) : (p.set x v).get x = v := by
  cases x <;> rfl

theorem PerSensor.get_set_ne {α : Type} {p : PerSensor α} {x y : Sensor} {v : α} (h : y ≠ x) :
    (p.set x v).get y = p.get y := by
  cases x <;> cases y
  case A.B | B.A => rfl
  all_goals exact absurd rfl h

/-! ### Changes of a row's counts (R137, R138, R143) -/

theorem countSegment_agrees (c : SegClass) {r : Row} (h : rowCountsAgree r) : rowCountsAgree (countSegment c r) := by
  obtain ⟨hm, hk, he, hke⟩ := h
  unfold countSegment; split
  · split <;> (dsimp only [rowCountsAgree]; omega)
  · split <;> (dsimp only [rowCountsAgree]; omega)
  · exact ⟨hm, hk, he, hke⟩

theorem segmentRow_agrees (res : SegmentResult) {r : Row} (h : rowCountsAgree r) :
    rowCountsAgree (segmentRow res r) := by
  have hc := countSegment_agrees res.segClass h
  unfold segmentRow totalSegment; split <;> exact hc

theorem countWindow_agrees (c : KnockClass) {r : Row} (h : rowCountsAgree r) : rowCountsAgree (countWindow c r) := by
  obtain ⟨hm, hk, he, hke⟩ := h
  unfold countWindow; split
  · split <;> (dsimp only [rowCountsAgree]; omega)
  · split <;> (dsimp only [rowCountsAgree]; omega)
  · split <;> (dsimp only [rowCountsAgree]; omega)
  · exact ⟨hm, hk, he, hke⟩
  · exact ⟨hm, hk, he, hke⟩

theorem windowRow_agrees (res : WindowResult) {r : Row} (h : rowCountsAgree r) : rowCountsAgree (windowRow res r) :=
  countWindow_agrees res.knockClass h

/-- A close begins the counts of the next rating window at 0 (R143). -/
theorem closeRow_agrees (rd : Reader) (w : Nat) (r : Row) : rowCountsAgree (closeRow rd w r) :=
  ⟨Nat.le_refl 0, Nat.le_refl 0, Nat.zero_le _, Nat.zero_le _⟩

/-! ### The operations of the blocks, each by the changes it is made of -/

/-- An effect where a firing position matches keeps what the effect keeps. -/
theorem atPosition_keeps {Q : Blocks → Prop} {b : Blocks} {o : Option Nat} {f : Nat → Blocks → Blocks}
    (hf : ∀ k, Q (f k b)) (h : Q b) : Q (atPosition o f b) := by
  unfold atPosition; split
  · exact hf _
  · exact h

section
variable {Q : Blocks → Prop} (K : BlocksKept Q) {e : Env} {b : Blocks}
include K

theorem tellHeader_keeps_invariant {f : Header → Header} (h : Q b) : Q (tellHeader e f b) :=
  K.unmoved h (.of_frames (by simp) (by simp) (by simp))

theorem setCrank_keeps_invariant {c : Crank} (h : Q b) : Q (setCrank c b) := K.unmoved h ⟨rfl, rfl, rfl, rfl⟩

theorem moveCrank_keeps_invariant {c : Crank} (h : Q b) : Q (moveCrank e c b) := by
  unfold moveCrank; exact tellHeader_keeps_invariant K (setCrank_keeps_invariant K h)

theorem clearFlagsOf_keeps_invariant {m : Word} {fs : List Flag} (h : Q b) : Q (clearFlagsOf e m fs b) := by
  induction fs generalizing b with
  | nil => exact h
  | cons f fs ih =>
    refine ih ?_
    split
    · exact K.clearFlag e f b h
    · exact h

/-! Events. -/

theorem takeEvent_keeps_invariant {ev : Event} (h : Q b) : Q (takeEvent e ev b) := by
  unfold takeEvent; split
  · split
    · exact K.unmoved h (.of_frames (by simp) (by simp) (by simp))
    · exact K.setFlag e _ _ (K.unmoved h ⟨rfl, rfl, rfl, rfl⟩)
  · exact h

theorem raise_keeps_invariant {ev : Event} (h : Q b) : Q (raise e ev b) := by
  by_cases ho : e.op = .running
  · rw [raise_running ho]
    have ht : Q (takeEvent e ev b) := takeEvent_keeps_invariant K h
    exact K.unmoved ht (.of_frames (by simp) (by simp) (by simp))
  · rwa [raise_ignored ho]

theorem raiseIf_keeps_invariant {c : Bool} {ev : Event} (h : Q b) : Q (raiseIf e c ev b) := by
  unfold raiseIf; split
  · exact raise_keeps_invariant K h
  · exact h

theorem raiseOption_keeps_invariant {o : Option Event} (h : Q b) : Q (raiseOption e o b) := by
  unfold raiseOption; split
  · exact raise_keeps_invariant K h
  · exact h

/-! RATE. -/

theorem closeCylinder_keeps_invariant {t : Stamp} {c : Nat} (h : Q b) : Q (closeCylinder e t c b) :=
  raiseIf_keeps_invariant K (raiseIf_keeps_invariant K
    (K.updateRow e c _ b (fun r _ => closeRow_agrees e.reader b.rate.wcur r) h))

theorem closeCylinders_keeps_invariant {t : Stamp} {cs : List Nat} (h : Q b) : Q (closeCylinders e t cs b) := by
  induction cs generalizing b with
  | nil => exact h
  | cons c cs ih => exact ih (closeCylinder_keeps_invariant K h)

theorem rateCycleStart_keeps_invariant {t : Stamp} (h : Q b) : Q (rateCycleStart e t b) := by
  have ht : Q (tellHeader e (fun x => { x with cycle := b.crank.cycle }) b) := tellHeader_keeps_invariant K h
  unfold rateCycleStart; dsimp only; split
  · exact K.unmoved ht ⟨rfl, rfl, rfl, rfl⟩
  · exact K.unmoved (closeCylinders_keeps_invariant K ht) ⟨rfl, rfl, rfl, rfl⟩

/-! SEG. -/

theorem finishSegment_keeps_invariant {o : Option (Fin 24)} {m : Measures} {c : SegClass} {t : Stamp} (h : Q b) :
    Q (finishSegment e o m c t b) := by
  have hf : Q (fileSegment e o m c { b with seg := segMeasured e.reader m c b.seg }) :=
    K.unmoved h (.of_frames (by simp) (by simp) (by simp))
  have hr := tellHeader_keeps_invariant K (e := e) (f := fun x => { x with rpm := (segmentResult e m c).rpm })
    (K.updateRow e (segmentResult e m c).cylinder _ _ (fun _ => segmentRow_agrees (segmentResult e m c)) hf)
  unfold finishSegment takeSegmentResult
  exact K.unmoved (raiseIf_keeps_invariant K hr) ⟨rfl, rfl, rfl, rfl⟩

theorem segEnd_keeps_invariant {t : Stamp} (h : Q b) : Q (segEnd e t b) := by
  unfold segEnd; split
  · exact h
  · exact finishSegment_keeps_invariant K h

/-! KNOCK. -/

theorem finishWindow_keeps_invariant {w : KnockWindow} {v : WindowVerdict} {t : Stamp} (h : Q b) :
    Q (finishWindow e w v t b) := by
  have hf : Q (fileWindow w.position v b) := K.unmoved h (.of_frames (by simp) (by simp) (by simp))
  have hr := K.updateRow e w.cylinder _ _ (fun _ => windowRow_agrees (windowResult e w v b.knock)) hf
  unfold finishWindow
  exact K.unmoved (raiseOption_keeps_invariant K hr) ⟨rfl, rfl, rfl, rfl⟩

theorem knockClose_keeps_invariant {t : Stamp} (h : Q b) : Q (knockClose e t b) := by
  unfold knockClose; split
  · exact h
  · next w _ => exact finishWindow_keeps_invariant K (K.learn e.reader w b h)

/-! CRANK. -/

theorem lossNotices_keeps_invariant (h : Q b) : Q (lossNotices e b) := by
  refine K.unmoved h ⟨by simp, ?_, ?_, by simp⟩ <;> (unfold lossNotices; simp [dropWindow])

theorem loseTo_keeps_invariant {c : Crank} {ev : Event} (h : Q b) : Q (loseTo e c ev b) := by
  unfold loseTo; split
  · exact tellHeader_keeps_invariant K
      (raise_keeps_invariant K (lossNotices_keeps_invariant K (setCrank_keeps_invariant K h)))
  · exact moveCrank_keeps_invariant K h

theorem lossOfSync_keeps_invariant {r : LossReason} {o : Option Stamp} {n : Nat} {t : Stamp} (h : Q b) :
    Q (lossOfSync e r o n t b) := loseTo_keeps_invariant K h

theorem glitchTooth_keeps_invariant {t : Stamp} (h : Q b) : Q (glitchTooth e t b) := by
  unfold glitchTooth; split
  · exact lossOfSync_keeps_invariant K h
  · exact setCrank_keeps_invariant K h

theorem countUnphased_keeps_invariant {t : Stamp} (h : Q b) : Q (countUnphased e t b) := by
  unfold countUnphased; dsimp only; split
  · exact raise_keeps_invariant K (setCrank_keeps_invariant K h)
  · exact setCrank_keeps_invariant K h

theorem spanMissing_keeps_invariant {t : Stamp} (h : Q b) : Q (spanMissing e t b) := by
  unfold spanMissing; split
  · exact raise_keeps_invariant K (setCrank_keeps_invariant K h)
  · exact h

theorem phaseLoss_keeps_invariant {t : Stamp} (h : Q b) : Q (phaseLoss e t b) := by
  unfold phaseLoss
  exact tellHeader_keeps_invariant K
    (raise_keeps_invariant K (lossNotices_keeps_invariant K (setCrank_keeps_invariant K h)))

theorem spanAt_keeps_invariant {t : Stamp} (h : Q b) : Q (spanAt e t b) := by
  have hm := spanMissing_keeps_invariant K (e := e) (t := t) h
  unfold spanAt; split
  · unfold judgeSpan closeSpan; split
    · exact phaseLoss_keeps_invariant K (setCrank_keeps_invariant K hm)
    · exact setCrank_keeps_invariant K hm
  · exact h

theorem handOn_keeps_invariant {p : Nat} {t : Stamp} (h : Q b) : Q (handOn e p t b) := by
  have h1 := atPosition_keeps (o := positionAt e.reader segmentBoundary p) (f := fun _ => segEnd e t)
    (fun _ => segEnd_keeps_invariant K h) h
  have h2 := atPosition_keeps (o := positionAt e.reader windowClose p) (f := fun _ => knockClose e t)
    (fun _ => knockClose_keeps_invariant K h1) h1
  unfold handOn; dsimp only
  generalize atPosition (positionAt e.reader windowClose p) _ _ = b2 at h2
  have h3 : Q (if positionAt e.reader segmentBoundary p = some 0 then cycleStart e t b2 else b2) := by
    split
    · exact rateCycleStart_keeps_invariant K (K.unmoved h2 ⟨rfl, rfl, rfl, rfl⟩)
    · exact h2
  have h4 := atPosition_keeps (o := positionAt e.reader segmentBoundary p) (f := fun k => segStart e k t)
    (fun _ => K.unmoved h3 ⟨rfl, rfl, rfl, rfl⟩) h3
  exact atPosition_keeps (f := fun j => knockOpen e j) (fun _ => K.unmoved h4 ⟨rfl, rfl, rfl, rfl⟩) h4

theorem toothHunt_keeps_invariant {t : Stamp} {p : Nat} (h : Q b) : Q (toothHunt e t p b) := by
  unfold toothHunt; split
  · exact setCrank_keeps_invariant K h
  · exact moveCrank_keeps_invariant K h
  · exact setCrank_keeps_invariant K h
  · exact glitchTooth_keeps_invariant K h

theorem toothVerify_keeps_invariant {t : Stamp} {p : Nat} (h : Q b) : Q (toothVerify e t p b) := by
  unfold toothVerify; split
  · split
    · exact setCrank_keeps_invariant K h
    · exact moveCrank_keeps_invariant K h
  · split <;> exact moveCrank_keeps_invariant K h
  · exact moveCrank_keeps_invariant K h
  · exact glitchTooth_keeps_invariant K h

theorem toothCrankSync_keeps_invariant {t : Stamp} {p : Nat} (h : Q b) : Q (toothCrankSync e t p b) := by
  unfold toothCrankSync toothLoss; split
  · split
    · exact setCrank_keeps_invariant K h
    · exact lossOfSync_keeps_invariant K h
  · split
    · exact countUnphased_keeps_invariant K (setCrank_keeps_invariant K h)
    · exact lossOfSync_keeps_invariant K h
  · exact lossOfSync_keeps_invariant K h
  · exact glitchTooth_keeps_invariant K h

theorem toothPhased_keeps_invariant {t : Stamp} {p : Nat} (h : Q b) : Q (toothPhased e t p b) := by
  unfold toothPhased toothLoss; split
  · split
    · exact lossOfSync_keeps_invariant K h
    · exact handOn_keeps_invariant K (setCrank_keeps_invariant K h)
  · split
    · have hs := spanAt_keeps_invariant K (e := e) (t := t) (setCrank_keeps_invariant K
        (c := { acceptGap e.reader t p b.crank with position := positionAfterGap e.reader b.crank.position }) h)
      unfold handOnIfPhased; split
      · exact handOn_keeps_invariant K hs
      · exact hs
    · exact lossOfSync_keeps_invariant K h
  · exact lossOfSync_keeps_invariant K h
  · exact glitchTooth_keeps_invariant K h

theorem tooth_keeps_invariant {t : Stamp} (h : Q b) : Q (tooth e t b) := by
  unfold tooth; split
  · unfold toothFirst; split
    · exact moveCrank_keeps_invariant K h
    · exact setCrank_keeps_invariant K h
  · split
    · unfold toothWide; split
      · exact moveCrank_keeps_invariant K h
      · exact setCrank_keeps_invariant K h
      · exact moveCrank_keeps_invariant K h
      · exact lossOfSync_keeps_invariant K h
      · exact lossOfSync_keeps_invariant K h
    · unfold toothPeriod; split
      · exact moveCrank_keeps_invariant K h
      · exact toothHunt_keeps_invariant K h
      · exact toothVerify_keeps_invariant K h
      · exact toothCrankSync_keeps_invariant K h
      · exact toothPhased_keeps_invariant K h

theorem camEdge_keeps_invariant {k : ToothKind} {t : Stamp} (h : Q b) : Q (camEdge e k t b) := by
  unfold camEdge; dsimp only; split
  · split
    · exact h
    · exact h
    · exact h
    · unfold enterPhased
      have hp : Q { setCrank (crankPhased b.crank) b with seg := segPhased b.seg } :=
        K.unmoved h ⟨rfl, rfl, rfl, rfl⟩
      exact tellHeader_keeps_invariant K (raise_keeps_invariant K hp)
    · split
      · unfold edgeRev0; dsimp only; split
        · exact raise_keeps_invariant K (setCrank_keeps_invariant K h)
        · exact setCrank_keeps_invariant K h
      · exact raise_keeps_invariant K (setCrank_keeps_invariant K h)
  · exact h

theorem takeRecord_keeps_invariant {r : ToothRecord} (h : Q b) : Q (takeRecord e r b) := by
  have hn : Q (takeNote e r b) := by
    unfold takeNote; split
    · exact h
    · exact h
    · exact lossOfSync_keeps_invariant K h
    · exact lossOfSync_keeps_invariant K h
  unfold takeRecord takeKind; split
  · exact tooth_keeps_invariant K (setCrank_keeps_invariant K hn)
  · exact camEdge_keeps_invariant K hn
  · exact camEdge_keeps_invariant K hn

theorem takeHead_keeps_invariant (h : Q b) : Q (takeHead e b) := by
  unfold takeHead; split
  · exact h
  · split
    · exact takeRecord_keeps_invariant K (K.unmoved h ⟨rfl, rfl, rfl, rfl⟩)
    · exact h

theorem stallExpiry_keeps_invariant (h : Q b) : Q (stallExpiry e b) := loseTo_keeps_invariant K h

theorem expireStall_keeps_invariant (h : Q b) : Q (expireStall e b) := by
  unfold expireStall; split
  · exact h
  · exact stallExpiry_keeps_invariant K h

theorem stallTick_keeps_invariant (h : Q b) : Q (stallTick e b) := by
  unfold stallTick; split
  · exact h
  · split
    · exact stallExpiry_keeps_invariant K h
    · exact setCrank_keeps_invariant K h

/-! TAP. -/

theorem streamFault_keeps_invariant {f : StreamFaultKind} {v w : Word} (h : Q b) : Q (streamFault e f v w b) := by
  unfold streamFault; split
  · exact h
  · exact raise_keeps_invariant K (K.setFlag e _ b h)

theorem takeTooth_keeps_invariant {a : Access} {d : Word} (h : Q b) : Q (takeTooth e a d b) := by
  have hp : Q (toothPosition e (toothSlot e a) b) := by
    unfold toothPosition; split
    · exact streamFault_keeps_invariant K (K.unmoved h ⟨rfl, rfl, rfl, rfl⟩)
    · exact K.unmoved h ⟨rfl, rfl, rfl, rfl⟩
  unfold takeTooth; dsimp only; split
  · unfold toothContent; split
    · unfold toothRoom; split
      · exact K.unmoved hp ⟨rfl, rfl, rfl, rfl⟩
      · exact streamFault_keeps_invariant K (K.unmoved hp ⟨rfl, rfl, rfl, rfl⟩)
    · exact streamFault_keeps_invariant K hp
  · exact streamFault_keeps_invariant K hp

theorem handSample_keeps_invariant {x : Sensor} {v : Int} (h : Q b) : Q (handSample e x v b) :=
  K.unmoved h ⟨rfl, rfl, rfl, rfl⟩

theorem takeKnock_keeps_invariant {x : Sensor} {a : Access} {d : Word} (h : Q b) : Q (takeKnock e x a d b) := by
  have hp : ∀ n w, Q (knockPosition e x n w b) := by
    intro n w; unfold knockPosition; split
    · exact streamFault_keeps_invariant K (K.unmoved h ⟨rfl, rfl, rfl, rfl⟩)
    · exact K.unmoved h ⟨rfl, rfl, rfl, rfl⟩
  unfold takeKnock knockSize; dsimp only; split
  · exact handSample_keeps_invariant K (handSample_keeps_invariant K (hp _ _))
  · exact handSample_keeps_invariant K (hp _ _)
  · exact streamFault_keeps_invariant K (hp _ _)

theorem takeMarkerKind_keeps_invariant {k : MarkerKind} {v : Nat} (h : Q b) : Q (takeMarkerKind e k v b) := by
  have hc : ∀ c : Tap, c.flags = b.tap.flags → Q (tellContext e { b with tap := c }) :=
    fun c hf => tellHeader_keeps_invariant K (K.unmoved h ⟨hf, rfl, rfl, rfl⟩)
  cases k with
  | ignCut => exact hc { b.tap with cut := BitVec.ofNat 8 v } rfl
  | load => exact hc { b.tap with load := BitVec.ofNat 2 v } rfl
  | surface => exact hc { b.tap with surface := BitVec.ofNat 2 v } rfl
  | syncReset =>
    show Q (syncResetRequest e b)
    unfold syncResetRequest; split
    · exact h
    · exact lossOfSync_keeps_invariant K h
  | freeze => exact K.unmoved h (.of_frames (trigger_tap ..) (trigger_knock ..) (trigger_rate_rows ..))

theorem takeMarker_keeps_invariant {a : Access} {d : Word} (h : Q b) : Q (takeMarker e a d b) := by
  unfold takeMarker; split
  · unfold markerContent markerFault; split
    · split
      · exact takeMarkerKind_keeps_invariant K h
      · exact streamFault_keeps_invariant K h
    · exact streamFault_keeps_invariant K h
  · exact streamFault_keeps_invariant K h

/-! LOADER. -/

theorem refuseSetup_keeps_invariant {r : Bool} {off : Nat} (h : Q b) : Q (refuseSetup r off e b) := by
  unfold refuseSetup; split
  · exact h
  · exact raise_keeps_invariant K (K.setFlag e _ b h)

theorem announceOp_keeps_invariant (h : Q b) : Q (announceOp e b) :=
  K.unmoved h (.of_frames (announceOp_tap e b) (announceOp_knock e b) (announceOp_rowsKept e b).1)

theorem commandRequests_keeps_invariant (h : Q b) : Q (commandRequests b) := K.unmoved h ⟨rfl, rfl, rfl, rfl⟩

theorem stopBlocks_keeps_invariant (h : Q b) : Q (stopBlocks e b) :=
  K.unmoved h ⟨by rw [stopBlocks_tap], by rw [stopBlocks_knock], by rw [stopBlocks_knock],
    (stopBlocks_rowsKept e b).1⟩

theorem takeCommand_keeps_invariant (v : Word) {s : State} (h : Q s.blocks) : Q (takeCommand v s).blocks := by
  have hc : Q (commandRequests s.blocks) := commandRequests_keeps_invariant K h
  rcases takeCommand_cases v s with e | ⟨_, e⟩ | ⟨_, e⟩ | ⟨_, e⟩ <;> rw [e]
  · exact h
  · exact hc
  · exact announceOp_keeps_invariant K hc
  · exact stopBlocks_keeps_invariant K (announceOp_keeps_invariant K hc)

theorem takeSetup_keeps_invariant (off : Nat) (l : Lanes) (d : Word) {s : State} (h : Q s.blocks) :
    Q (takeSetup off l d s).blocks := by
  have ht : ∀ e, Q (tunableChanged off e s.blocks) := by
    intro e
    unfold tunableChanged; split
    · exact K.unmoved h ⟨rfl, rfl, rfl, rfl⟩
    · split
      · exact K.unmoved h (.of_frames (by simp) (by simp) (by simp))
      · exact h
  unfold takeSetup; dsimp only; split
  · exact h
  · exact ht _

theorem loaderRead_keeps_invariant (d : Word) {s : State} (h : Q s.blocks) : Q (loaderRead d s).blocks := by
  rcases loaderRead_cases d s with e | ⟨_, _, e⟩ | ⟨_, e⟩ <;> rw [e]
  · exact h
  · exact announceOp_keeps_invariant K h
  · rw [loadSucceeded_blocks]; exact K.unmoved (K.start _ s.blocks) ⟨rfl, rfl, rfl, rfl⟩

theorem checkStopped_keeps_invariant {s : State} (h : Q s.blocks) : Q (checkStopped s).blocks := by
  rcases checkStopped_cases s with e | ⟨_, _, _, e⟩ <;> rw [e]
  · exact h
  · exact announceOp_keeps_invariant K h

theorem headDone_keeps_invariant {s : State} (h : Q s.blocks) : Q (headDone s).blocks := by
  rcases headDone_cases s with e | ⟨r, rest, _, e⟩ <;> rw [e]
  · exact h
  · have hr : Q (headRemoved s rest).blocks := K.unmoved h ⟨rfl, rfl, rfl, rfl⟩
    refine checkStopped_keeps_invariant K ?_
    rcases makerTold_cases r (headRemoved s rest) with e | ⟨_, e⟩ | ⟨_, _, e⟩ <;> rw [e]
    · exact hr
    · exact K.unmoved hr ⟨rfl, rfl, rfl, rfl⟩
    · exact announceOp_keeps_invariant K hr

theorem frameWordDone_keeps_invariant {s : State} (h : Q s.blocks) : Q (frameWordDone s).blocks := by
  unfold frameWordDone; split
  · exact h
  · have hh : Q (onBlocks frameHeld s).blocks := K.unmoved h (.of_frames (by simp) (by simp) (by simp))
    exact raise_keeps_invariant K (checkStopped_keeps_invariant K hh)
  · exact K.unmoved h ⟨rfl, rfl, rfl, rfl⟩

/-- What every change of the blocks passes on, every step passes on. -/
theorem BlocksKept.kept : Kept (fun s => Q s.blocks) where
  bus _ _ h := h
  hold _ _ h := h
  endAccess _ _ _ _ h := h
  snapshot _ _ h := h
  patience _ h := h
  grantSystem _ _ _ _ _ h := h
  grantReport s _ _ h := by
    have g := grantTo_kept s .report
    exact K.unmoved h (.of_frames g.tap g.knock (by rw [← g.rate]; rfl))
  grantLoader _ _ _ _ h := h
  grantFreeze s _ _ h := by
    have g := grantTo_kept s .freeze
    exact K.unmoved h (.of_frames g.tap g.knock (by rw [← g.rate]; rfl))
  command _ d h := takeCommand_keeps_invariant K d h
  setup _ off l d _ h := takeSetup_keeps_invariant K off l d h
  tooth _ _ _ _ h := takeTooth_keeps_invariant K h
  knock _ _ _ _ _ h := takeKnock_keeps_invariant K h
  marker _ _ _ _ h := takeMarker_keeps_invariant K h
  slotRelease _ _ _ _ h := K.unmoved h ⟨rfl, rfl, rfl, rfl⟩
  frameRelease _ _ h := K.unmoved h (.of_frames (by simp) (by simp) (by simp))
  protect _ h := K.setFlag _ _ _ h
  refuseSetup _ _ _ h := refuseSetup_keeps_invariant K h
  flagClear _ _ h := clearFlagsOf_keeps_invariant K h
  freePort _ h := h
  loaderRead s u _ _ _ h := loaderRead_keeps_invariant K _ (s := Machine.freePort s) h
  headDone _ h := headDone_keeps_invariant K h
  frameWordDone _ h := frameWordDone_keeps_invariant K h
  takeHead _ h := takeHead_keeps_invariant K h
  expireStall _ h := expireStall_keeps_invariant K h
  stallTick _ h := stallTick_keeps_invariant K h
  assertReset _ h := K.unmoved h ⟨rfl, rfl, rfl, rfl⟩
  releaseReset _ _ _ _ _ := K.reset
  autoStart _ _ h := announceOp_keeps_invariant K h
  pending _ _ h := h

end

/-! ### Suspension follows the KNOCK_SKIP flags (R47, R116) -/

/-- Each sensor's suspension is its KNOCK_SKIP flag. -/
def suspensionInStep (b : Blocks) : Prop := ∀ x : Sensor, b.knock.suspended.get x = flagSet b.tap (skipFlag x)

theorem knockFlagSet_get (f : Flag) (k : Knock) (x : Sensor) :
    (knockFlagSet f k).suspended.get x = (k.suspended.get x || decide (f = skipFlag x)) := by
  cases f <;> cases x <;> simp [knockFlagSet, flagSensor, suspend, skipFlag, PerSensor.get, PerSensor.set]

/-- KNOCK hears of a flag where the flag changes, and not again (R51). -/
theorem setFlag_knock_eq (e : Env) (f : Flag) (b : Blocks) :
    (setFlag e f b).knock = if flagSet b.tap f then b.knock else knockFlagSet f b.knock := by
  unfold setFlag; split
  · rfl
  · exact tellFlags_knock _ _

theorem learn_suspended (x : Sensor) (c : Nat) (p : Option PartResult) (k : Knock) :
    (learn x c p k).suspended = k.suspended := by
  unfold learn; split <;> rfl

theorem suspensionInStep_reset : suspensionInStep Blocks.reset := by intro x; cases x <;> rfl

theorem suspensionInStep_kept : BlocksKept suspensionInStep where
  unmoved h u x := by unfold flagSet; rw [u.suspended, u.flags]; exact h x
  setFlag e f b h x := by
    rw [setFlag_knock_eq, setFlag_flagSet, ← h x]
    cases hf : flagSet b.tap f with
    | false => exact knockFlagSet_get f b.knock x
    | true =>
      by_cases hx : f = skipFlag x
      · subst hx; simp [h x, hf]
      · simp [hx]
  clearFlag e f b h x := by
    rw [clearFlag_knock, flagSet_clearFlag, ← h x]
    cases hf : flagSet b.tap f with
    | true => exact knockFlagCleared_get f b.knock x
    | false =>
      by_cases hx : f = skipFlag x
      · subst hx; simp [h x, hf]
      · simp [hx]
  updateRow e n f b _ h x := by rw [updateRow_knock, updateRow_tap]; exact h x
  learn r w b h x := by
    show (learnBoth r w b.knock).suspended.get x = _
    unfold learnBoth; rw [learn_suspended, learn_suspended]; exact h x
  start _ _ := suspensionInStep_reset
  reset := suspensionInStep_reset

/-! ### The counts of the rows agree (R138) -/

/-- Every row's counts agree. -/
def rowsAgree (b : Blocks) : Prop := ∀ i : Fin 8, rowCountsAgree (b.rate.rows.get i)

theorem updateRow_get (e : Env) (n : Nat) (f : Row → Row) (b : Blocks) (i : Fin 8) :
    (updateRow e n f b).rate.rows.get i =
      if i = cylinderCode n then updatedRow f (b.rate.rows.get i) else b.rate.rows.get i := by
  have hrows : (updateRow e n f b).rate.rows =
      b.rate.rows.set (cylinderCode n) (updatedRow f (rowOf b.rate n)) := by
    unfold updateRow; rw [requestMirror_rate]
  rw [hrows]
  show (b.rate.rows.set (cylinderCode n) _)[i.val] = _
  by_cases h : i = cylinderCode n
  · rw [if_pos h, h]; exact Vector.getElem_set_self ..
  · rw [if_neg h]; exact Vector.getElem_set_ne (cylinderCode n).isLt i.isLt fun e => h (Fin.ext e.symm)

theorem rowCountsAgree_start (c : BitVec 3) : rowCountsAgree (Row.start c) :=
  ⟨Nat.le_refl 0, Nat.le_refl 0, Nat.zero_le _, Nat.zero_le _⟩

theorem startRow_agrees (ncyl code : Nat) : rowCountsAgree (startRow ncyl code) := by
  unfold startRow; split <;> exact rowCountsAgree_start _

theorem rateStart_row (r : Reader) (i : Fin 8) : (rateStart r).rows.get i = startRow (fNcyl r) i := by
  match i with
  | 0 | 1 | 2 | 3 | 4 | 5 | 6 | 7 => rfl

theorem rowsAgree_kept : BlocksKept rowsAgree where
  unmoved h u i := by rw [u.rows]; exact h i
  setFlag e f b h i := by rw [setFlag_rate_rows]; exact h i
  clearFlag e f b h i := by rw [clearFlag_rate_rows]; exact h i
  updateRow e n f b hf h i := by
    rw [updateRow_get]; split
    · exact hf _ (h i)
    · exact h i
  learn _ _ _ h := h
  start r b i := by
    show rowCountsAgree ((rateStart r).rows.get i)
    rw [rateStart_row]; exact startRow_agrees _ _
  reset i := by
    show rowCountsAgree ((Vector.replicate 8 (Row.start 0)).get i)
    have hi : (Vector.replicate 8 (Row.start 0)).get i = Row.start 0 := Vector.getElem_replicate i.isLt
    rw [hi]; exact rowCountsAgree_start 0

/-! ### Backgrounds are at least 1 (R122) -/

/-- Every seeded background of KNOCK is at least 1. -/
def backgroundsSeeded (k : Knock) : Prop := ∀ (x : Sensor) (i : Fin 8), backgroundGood ((k.background.get x).get i)

theorem backgroundsGood_iff (s : State) : backgroundsGood s ↔ backgroundsSeeded s.blocks.knock :=
  ⟨fun h x i => match x with
    | .A => (h i).1
    | .B => (h i).2, fun h i => ⟨h .A i, h .B i⟩⟩

theorem backgroundAfter_ge (n i bg : Nat) : 1 ≤ backgroundAfter n i bg := by
  unfold backgroundAfter
  generalize (bg : Int) + ((i : Int) - bg) / (2 : Int) ^ n = v
  omega

/-- A part leaves its background, seeds it with at least 1, or moves it to at least 1 (R118 to R122). -/
theorem classPart_background (r : Reader) (cut : Bool) {bg : Option Nat} (p : SensorPart) (h : backgroundGood bg) :
    backgroundGood (classPart r cut bg p).background := by
  unfold classPart; split
  · exact h
  · split
    · exact h
    · split
      · exact h
      · unfold evaluatePart; split
        · exact h
        · split
          · rintro v ⟨⟩; exact Nat.le_max_left ..
          · unfold ratedPart; dsimp only; split
            · exact h
            · split
              · exact h
              · rintro v ⟨⟩; exact backgroundAfter_ge _ _ _

theorem partResult_background {r : Reader} {w : KnockWindow} {k : Knock} (h : backgroundsSeeded k) (x : Sensor) :
    ∀ q ∈ partResult r w k x, backgroundGood q.background := by
  intro q hq
  obtain ⟨p, _, rfl⟩ := Option.map_eq_some_iff.mp hq
  exact classPart_background r w.cut p (h x (cylinderCode w.cylinder))

theorem learn_seeded {x : Sensor} {c : Nat} {p : Option PartResult} {k : Knock} (h : backgroundsSeeded k)
    (hp : ∀ q ∈ p, backgroundGood q.background) : backgroundsSeeded (learn x c p k) := by
  unfold learn; split
  · exact h
  · next q =>
    have hset : ∀ i : Fin 8,
        backgroundGood (((k.background.get x).set (cylinderCode c) q.background).get i) := by
      intro i
      show backgroundGood (((k.background.get x).set (cylinderCode c) q.background)[i.val])
      rw [Vector.getElem_set]; split
      · exact hp q rfl
      · exact h x i
    intro y i
    show backgroundGood (((k.background.set x _).get y).get i)
    by_cases hy : y = x
    · rw [hy, PerSensor.get_set_same]; exact hset i
    · rw [PerSensor.get_set_ne hy]; exact h y i

theorem learnBoth_seeded (r : Reader) (w : KnockWindow) {k : Knock} (h : backgroundsSeeded k) :
    backgroundsSeeded (learnBoth r w k) :=
  learn_seeded (learn_seeded h (partResult_background h .A)) (partResult_background h .B)

theorem knockFlagSet_background (f : Flag) (k : Knock) : (knockFlagSet f k).background = k.background := by
  unfold knockFlagSet; split <;> rfl

theorem knockReset_seeded : backgroundsSeeded Knock.reset := by
  intro x i
  have hi : (Knock.reset.background.get x).get i = none := by cases x <;> exact Vector.getElem_replicate i.isLt
  rw [hi]; rintro v ⟨⟩

theorem backgroundsSeeded_congr {k l : Knock} (h : backgroundsSeeded k) (e : l.background = k.background) :
    backgroundsSeeded l := by
  unfold backgroundsSeeded; rw [e]; exact h

theorem backgroundsSeeded_kept : BlocksKept (fun b => backgroundsSeeded b.knock) where
  unmoved h u := backgroundsSeeded_congr h u.background
  setFlag e f b h := backgroundsSeeded_congr h (by
    rw [setFlag_knock_eq]; split
    · rfl
    · exact knockFlagSet_background f b.knock)
  clearFlag e f b h := backgroundsSeeded_congr h (by
    rw [clearFlag_knock]; split
    · rw [knockFlagCleared_eq]
    · rfl)
  updateRow e n f b _ h := by rw [updateRow_knock]; exact h
  learn r w _ h := learnBoth_seeded r w h
  start _ _ := knockReset_seeded
  reset := knockReset_seeded

/-- Settles O58: KNOCK hears of a KNOCK_SKIP flag at each of its changes; each count of a row moves with the count it
is bounded by, and a close zeroes them together; a background is seeded and moved to at least 1. -/
theorem suspensionCountsBackgrounds : Obligations.SuspensionCountsBackgrounds := by
  refine ⟨fun s t h ht => ?_, fun s t h ht => ?_, fun s t h ht => ?_⟩
  · exact suspensionInStep_kept.kept.step h ht
  · exact rowsAgree_kept.kept.step h ht
  · exact (backgroundsGood_iff t).mpr (backgroundsSeeded_kept.kept.step ((backgroundsGood_iff s).mp h) ht)

end Sys2Proof.Machine
end

section
/-! Stream faults, and the writes to the tooth ring and the knock rings (R41 to R47, R51, R52). -/

namespace Sys2Proof.Machine

/-! ### Stream writes at their turn (R6) -/

/-- A write to a window of TAP in RUNNING is forwarded, and TAP takes it. -/
theorem exec_stream {c : Instr} {s : State} {a : Access} {d : Word} {f : Fate} (hc : accessOf s c = some a)
    (hd : a.dir = .write d) (ht : onTurn s) (hr : s.resetPin = false) (ho : s.loader.op = .running)
    (hw : windowFate s a.lanes d (windowOfAccess s a) = streamFate s f) (hg : f.granted = true) :
    exec c s = .next (takeWrite a d (forwarded a s) f) := by
  refine exec_granted hc hd ht ?_ hg
  rw [writeFate_window a d hr, hw]; exact if_pos ho

/-- What TAP does with a forwarded write it does to the blocks alone. -/
theorem throughPort_onBlocks (a : Access) (s : State) (f : Env → Blocks → Blocks) :
    throughPort a s (onBlocks f (forwarded a s)) :=
  ⟨rfl, rfl, rfl, rfl, ramAfter_storesOnly rfl⟩

/-! ### Stream faults (R51, R52) -/

/-- TAP with its flags alone changed. -/
theorem Tap.eq_of_fields {t u : Tap} (htooth : t.tooth = u.tooth) (hknock : t.knock = u.knock) (hfifo : t.fifo = u.fifo)
    (hnote : t.note = u.note) (hcut : t.cut = u.cut) (hload : t.load = u.load) (hsurface : t.surface = u.surface) :
    t = { u with flags := t.flags } := by
  rw [← htooth, ← hknock, ← hfifo, ← hnote, ← hcut, ← hload, ← hsurface]

section
variable {e : Env} {f : StreamFaultKind} {v w : Word} {b : Blocks}

theorem streamFault_again (h : flagSet b.tap (faultFlag f) = true) : streamFault e f v w b = b := if_pos h

theorem streamFault_first (h : flagSet b.tap (faultFlag f) = false) :
    streamFault e f v w b = raise e (streamFaultEvent f v w) (setFlag e (faultFlag f) b) := if_neg (by simp [h])

/-- A stream fault sets its flag, and its event QUEUE_DROPPED at most. -/
theorem streamFault_flagSet {g : Flag} (hg : g ≠ .queueDropped) :
    flagSet (streamFault e f v w b).tap g = (flagSet b.tap g || decide (faultFlag f = g)) := by
  cases h : flagSet b.tap (faultFlag f) with
  | true =>
    rw [streamFault_again h]
    by_cases hf : faultFlag f = g
    · rw [← hf, h]; rfl
    · simp [hf]
  | false => rw [streamFault_first h, raise_flagSet hg, setFlag_flagSet]

/-- KNOCK hears of a stream fault where its flag changes. -/
theorem streamFault_knock :
    (streamFault e f v w b).knock =
      if flagSet b.tap (faultFlag f) then b.knock else knockFlagSet (faultFlag f) b.knock := by
  cases h : flagSet b.tap (faultFlag f) with
  | true => rw [streamFault_again h]; rfl
  | false => rw [streamFault_first h, raise_knock, setFlag_knock_eq, h]

theorem streamFault_knock_kept (h : flagSensor (faultFlag f) = none) : (streamFault e f v w b).knock = b.knock := by
  rw [streamFault_knock]; unfold knockFlagSet; rw [h]; exact ite_self _

theorem streamFault_tap_eq : (streamFault e f v w b).tap = { b.tap with flags := (streamFault e f v w b).tap.flags } :=
  Tap.eq_of_fields (by simp) (by simp) (by simp) (by simp) (by simp) (by simp) (by simp)

theorem streamFault_rowsKept : rowsKept b (streamFault e f v w b) := by simp [rowsKept]

/-- The event of a stream fault, raised in RUNNING where the flag changes (R51). -/
theorem streamFault_raised (ho : e.op = .running) (h : flagSet b.tap (faultFlag f) = false)
    (hm : maskNames (fEventMask e.reader) .streamFault = true) (hs : b.evq.slots[b.evq.producer]? = some .free) :
    (streamFault e f v w b).evq.slots[b.evq.producer]? = some (.filling .streamFault) ∧
      .event b.evq.producer (placedWords (streamFaultEvent f v w) (setFlag e (faultFlag f) b)) ∈
        (streamFault e f v w b).rpw.map Request.kind := by
  rw [streamFault_first h]
  have hp := raise_placed (e := e) (ev := streamFaultEvent f v w) (b := setFlag e (faultFlag f) b) ho hm
    (by rw [setFlag_evq]; exact hs)
  rw [setFlag_evq] at hp
  exact hp

/-- The detail of STREAM_FAULT, its value and its limit (R52, R193). -/
theorem streamFault_words :
    bitField ((placedWords (streamFaultEvent f v w) b).get 0) 16 16 = streamFaultCode f ∧
      (placedWords (streamFaultEvent f v w) b).get 3 = v ∧ (placedWords (streamFaultEvent f v w) b).get 4 = w := by
  have hword : (placedWords (streamFaultEvent f v w) b).get 0 =
      place 9 0 8 ||| place 0 8 8 ||| place (streamFaultCode f) 16 16 := rfl
  refine ⟨?_, rfl, rfl⟩
  rw [hword]
  cases f <;> decide

end

/-! ### Rings (R42, R46) -/

theorem ringSkips_iff (r : RingIndex) (i : Nat) : ringSkips r i = true ↔ r.aligned = true ∧ i ≠ r.expected := by
  simp [ringSkips]

/-- What every judgement of a stream write leaves: the marker context, CRANK, SEG, and RATE but for its header. -/
structure StreamKept (b c : Blocks) : Prop where
  cut : c.tap.cut = b.tap.cut
  load : c.tap.load = b.tap.load
  surface : c.tap.surface = b.tap.surface
  crank : c.crank = b.crank
  seg : c.seg = b.seg
  rows : rowsKept b c

/-! ### The tooth ring (R41 to R44) -/

/-- What a write to the tooth ring leaves besides: the knock rings, and KNOCK. -/
structure ToothKept (b c : Blocks) : Prop extends StreamKept b c where
  rings : c.tap.knock = b.tap.knock
  knock : c.knock = b.knock

/-- The note after the position judgement: a skip is noted where no fault is (R44). -/
def noteAtPosition (t : Tap) (n : Nat) : LossNote :=
  if (t.tooth.aligned = true ∧ n ≠ t.tooth.expected) ∧ t.note = .none then .skip else t.note

section
variable (e : Env) (n : Nat) (b : Blocks)

theorem toothPosition_kept : ToothKept b (toothPosition e n b) := by
  unfold toothPosition; split
  · have hk := streamFault_knock_kept (e := e) (f := .toothSkip) (v := eventNat n)
      (w := eventNat b.tap.tooth.expected) (b := noteFault .skip (alignTooth e n b)) rfl
    exact ⟨⟨by simp, by simp, by simp, by simp, by simp, by simp [rowsKept]⟩, by simp, hk⟩
  · exact ⟨⟨rfl, rfl, rfl, rfl, rfl, rfl, rfl, rfl⟩, rfl, rfl⟩

theorem toothPosition_tooth : (toothPosition e n b).tap.tooth = ⟨true, (n + 1) % e.table.toothSize⟩ := by
  unfold toothPosition; split
  · rw [streamFault_tap_tooth]; rfl
  · rfl

theorem toothPosition_note : (toothPosition e n b).tap.note = noteAtPosition b.tap n := by
  unfold toothPosition noteAtPosition
  simp only [← ringSkips_iff]
  split
  · next h =>
    rw [streamFault_tap_note]
    by_cases hn : b.tap.note = .none <;> simp [noteFault, noteAfter, alignTooth, h, hn]
  · next h => simp [alignTooth, h]

theorem toothPosition_flagSet {g : Flag} (hg : g ≠ .queueDropped) :
    flagSet (toothPosition e n b).tap g =
      (flagSet b.tap g || (ringSkips b.tap.tooth n && decide (Flag.toothSkip = g))) := by
  unfold toothPosition; split
  · next h => rw [streamFault_flagSet hg, h]; rfl
  · next h => simp [alignTooth, flagSet, h]

end

/-- The fault that the judgements of size, content and room find, in this order (R41 to R43). -/
def toothFault (l : Lanes) (d : Word) (held : Nat) : Option StreamFaultKind :=
  if l ≠ .word then some .size
  else if toothKind d = none then some .format
  else if 8 ≤ held then some .overrun
  else none

/-- The flag that each fault of size, content and room sets, and when. -/
theorem toothFault_flag (l : Lanes) (d : Word) (held : Nat) :
    ((toothFault l d held).map faultFlag = some .size ↔ l ≠ .word) ∧
    ((toothFault l d held).map faultFlag = some .format ↔ l = .word ∧ toothKind d = none) ∧
    ((toothFault l d held).map faultFlag = some .overrun ↔ l = .word ∧ toothKind d ≠ none ∧ 8 ≤ held) ∧
    ∀ f, f ∉ [Flag.size, .format, .overrun] → (toothFault l d held).map faultFlag ≠ some f := by
  unfold toothFault
  split
  · grind [faultFlag]
  · split
    · grind [faultFlag]
    · split <;> grind [faultFlag]

section
variable {e : Env} {a : Access} {d : Word} {b : Blocks}

/-- A good word whose record finds room (R43). -/
theorem takeTooth_good {k : ToothKind} (hl : a.lanes = .word) (hk : toothKind d = some k)
    (hroom : b.tap.fifo.length < 8) :
    takeTooth e a d b = joinFifo k (toothStamp d) (toothPosition e (toothSlot e a) b) := by
  unfold takeTooth; rw [hl]; dsimp only
  unfold toothContent; rw [hk]; dsimp only
  exact if_pos (by rw [toothPosition_fifo]; exact hroom)

/-- A good word whose record finds none (R43). -/
theorem takeTooth_full (hl : a.lanes = .word) (hk : toothKind d ≠ none) (hfull : 8 ≤ b.tap.fifo.length) :
    takeTooth e a d b = streamFault e .overrun (eventNat (toothSlot e a)) (eventNat 8)
      (noteFault .overrun (toothPosition e (toothSlot e a) b)) := by
  obtain ⟨k, hk⟩ := Option.ne_none_iff_exists'.mp hk
  unfold takeTooth; rw [hl]; dsimp only
  unfold toothContent; rw [hk]; dsimp only
  exact if_neg (by rw [toothPosition_fifo]; exact Nat.not_lt.mpr hfull)

/-- A word with a FORMAT fault (R41). -/
theorem takeTooth_bad (hl : a.lanes = .word) (hk : toothKind d = none) :
    takeTooth e a d b =
      streamFault e .format d (eventNat (toothSlot e a)) (toothPosition e (toothSlot e a) b) := by
  unfold takeTooth; rw [hl]; dsimp only
  unfold toothContent; rw [hk]

/-- A write of the wrong size (R42). -/
theorem takeTooth_size (hl : a.lanes ≠ .word) :
    takeTooth e a d b = streamFault e .size (eventNat (byteAddr a - e.table.toothBase)) (eventNat (sizeBytes a.lanes))
      (toothPosition e (toothSlot e a) b) := by
  unfold takeTooth; dsimp only; split
  · next h => exact absurd h hl
  · rfl

variable (e a d b)

/-- What a write to the tooth ring comes to after its position is judged. -/
theorem takeTooth_cases :
    let p := toothPosition e (toothSlot e a) b
    let fault := toothFault a.lanes d b.tap.fifo.length
    (∃ k, fault = none ∧ takeTooth e a d b = joinFifo k (toothStamp d) p) ∨
      ∃ f v w q, fault = some f ∧ flagSensor (faultFlag f) = none ∧ (q = p ∨ q = noteFault .overrun p) ∧
        takeTooth e a d b = streamFault e f v w q := by
  intro p fault
  by_cases hl : a.lanes = .word
  · cases hk : toothKind d with
    | none => exact .inr ⟨.format, _, _, p, by simp [fault, toothFault, hl, hk], rfl, .inl rfl, takeTooth_bad hl hk⟩
    | some k =>
      by_cases hroom : b.tap.fifo.length < 8
      · exact .inl ⟨k, by simp [fault, toothFault, hl, hk, hroom], takeTooth_good hl hk hroom⟩
      · exact .inr ⟨.overrun, _, _, _, by simp [fault, toothFault, hl, hk, Nat.not_lt.mp hroom], rfl, .inr rfl,
          takeTooth_full hl (by simp [hk]) (Nat.not_lt.mp hroom)⟩
  · exact .inr ⟨.size, _, _, p, by simp [fault, toothFault, hl], rfl, .inl rfl, takeTooth_size hl⟩

theorem takeTooth_kept : ToothKept b (takeTooth e a d b) := by
  obtain ⟨⟨hcut, hload, hsurface, hcrank, hseg, hrows⟩, hrings, hknock⟩ := toothPosition_kept e (toothSlot e a) b
  rcases takeTooth_cases e a d b with ⟨k, _, h⟩ | ⟨f, v, w, q, _, hf, rfl | rfl, h⟩ <;> rw [h]
  · exact ⟨⟨hcut, hload, hsurface, hcrank, hseg, hrows⟩, hrings, hknock⟩
  · exact ⟨⟨by simpa, by simpa, by simpa, by simpa, by simpa, hrows.trans streamFault_rowsKept⟩, by simpa,
      (streamFault_knock_kept hf).trans hknock⟩
  · exact ⟨⟨(streamFault_tap_cut ..).trans hcut, (streamFault_tap_load ..).trans hload,
      (streamFault_tap_surface ..).trans hsurface, by simpa, by simpa, hrows.trans (by simp [rowsKept])⟩,
      (streamFault_tap_knock ..).trans hrings, (streamFault_knock_kept hf).trans hknock⟩

theorem takeTooth_tooth :
    (takeTooth e a d b).tap.tooth = ⟨true, (toothSlot e a + 1) % e.table.toothSize⟩ := by
  rcases takeTooth_cases e a d b with ⟨k, _, h⟩ | ⟨f, v, w, q, _, _, rfl | rfl, h⟩ <;> rw [h]
  · exact toothPosition_tooth _ _ _
  · rw [streamFault_tap_tooth]; exact toothPosition_tooth _ _ _
  · rw [streamFault_tap_tooth]; exact toothPosition_tooth _ _ _

/-- The flags after a write to the tooth ring: a skip's, and that of the first fault of size, content and room. -/
theorem takeTooth_flagSet {g : Flag} (hg : g ≠ .queueDropped) :
    flagSet (takeTooth e a d b).tap g =
      (flagSet b.tap g || (ringSkips b.tap.tooth (toothSlot e a) && decide (Flag.toothSkip = g)) ||
        decide ((toothFault a.lanes d b.tap.fifo.length).map faultFlag = some g)) := by
  have hp := toothPosition_flagSet e (toothSlot e a) b hg
  rcases takeTooth_cases e a d b with ⟨k, hn, h⟩ | ⟨f, v, w, q, hf, _, rfl | rfl, h⟩ <;> rw [h]
  · rw [hn, ← hp]; simp [joinFifo, flagSet]
  · rw [hf, streamFault_flagSet hg, hp]; simp
  · rw [hf, streamFault_flagSet hg, ← hp]; simp [noteFault, flagSet]

end

/-- Settles O31: position is judged first and always, and the first fault of size, content and room keeps the record
out of the FIFO. -/
theorem toothWriteTaken : Obligations.ToothWriteTaken := by
  intro s w l d ht hr ho hwin a slot tap skip note next bad full
  have hexec : exec (.toothWrite w l d) s = .next (onBlocks (fun e => takeTooth e a d) (forwarded a s)) :=
    exec_stream (f := .tooth) rfl rfl ht hr ho (by rw [hwin]; rfl) rfl
  obtain ⟨⟨hcut, hload, hsurface, hcrank, hseg, hrows⟩, hrings, hknock⟩ := takeTooth_kept s.env a d s.blocks
  have hnote : (toothPosition s.env slot s.blocks).tap.note = note := toothPosition_note s.env slot s.blocks
  have hfifo : (toothPosition s.env slot s.blocks).tap.fifo = tap.fifo := toothPosition_fifo s.env slot s.blocks
  have hskip : ringSkips tap.tooth slot = true ↔ skip := ringSkips_iff _ _
  have hflag : ∀ g, g ≠ .queueDropped → (flagSet (takeTooth s.env a d s.blocks).tap g = true ↔
      flagIn s g = true ∨ (skip ∧ Flag.toothSkip = g) ∨
        (toothFault l d tap.fifo.length).map faultFlag = some g) := by
    intro g hg
    rw [takeTooth_flagSet s.env a d s.blocks hg, ← hskip]
    simp [or_assoc, a, slot, tap, toothSlot, State.env, flagIn]
  obtain ⟨hsize, hformat, hover, hother⟩ := toothFault_flag l d tap.fifo.length
  refine ⟨_, hexec, throughPort_onBlocks _ _ _, takeTooth_tooth s.env a d s.blocks, hrings, hcut, hload, hsurface,
    hcrank, hseg, hknock, hrows, fun k hl hk hroom => ?_, fun hfull => ?_, fun hbad => ?_, ?_, ?_, ?_, ?_, ?_⟩
  · show (takeTooth s.env a d s.blocks).tap.fifo = _ ∧ (takeTooth s.env a d s.blocks).tap.note = _ ∧
      (_ → takeTooth s.env a d s.blocks = _)
    rw [takeTooth_good hl hk hroom]
    refine ⟨by rw [← hfifo, ← hnote]; rfl, rfl, fun hno => ?_⟩
    have halign : toothPosition s.env slot s.blocks = alignTooth s.env slot s.blocks := if_neg (mt hskip.mp hno)
    rw [← hnote]
    show joinFifo k _ (toothPosition s.env slot s.blocks) = _
    rw [halign]; rfl
  · obtain ⟨hl, hk, hheld⟩ := hfull
    show (takeTooth s.env a d s.blocks).tap.fifo = _ ∧ (takeTooth s.env a d s.blocks).tap.note = _
    rw [takeTooth_full hl hk hheld, streamFault_tap_fifo, streamFault_tap_note]
    exact ⟨hfifo, by rw [← hnote]; rfl⟩
  · have hb : ∃ f v w, takeTooth s.env a d s.blocks = streamFault s.env f v w (toothPosition s.env slot s.blocks) :=
      hbad.elim (fun h => ⟨_, _, _, takeTooth_bad h.1 h.2⟩) (fun h => ⟨_, _, _, takeTooth_size h⟩)
    obtain ⟨f, v, w, h⟩ := hb
    show (takeTooth s.env a d s.blocks).tap.fifo = _ ∧ (takeTooth s.env a d s.blocks).tap.note = _
    rw [h, streamFault_tap_fifo, streamFault_tap_note]
    exact ⟨hfifo, hnote⟩
  · exact (hflag _ (by decide)).trans (by simp [hother .toothSkip])
  · exact (hflag _ (by decide)).trans (by simp [hsize])
  · exact (hflag _ (by decide)).trans (by simp [hformat]; rfl)
  · exact (hflag _ (by decide)).trans (by simp [hover]; rfl)
  · intro f hf
    obtain ⟨hne, hdrop, hf⟩ : Flag.toothSkip ≠ f ∧ f ≠ .queueDropped ∧ f ∉ [Flag.size, .format, .overrun] := by
      revert f; decide
    exact Bool.eq_iff_iff.mpr ((hflag f hdrop).trans (by simp [hne, hother f hf]))

end Sys2Proof.Machine
end

section
/-! The writes to the knock rings (R45 to R47). -/

namespace Sys2Proof.Machine

/-- What a write to a knock ring leaves besides: the tooth ring, the FIFO and the note. -/
structure KnockKept (b c : Blocks) : Prop extends StreamKept b c where
  tooth : c.tap.tooth = b.tap.tooth
  fifo : c.tap.fifo = b.tap.fifo
  note : c.tap.note = b.tap.note

/-- KNOCK with the samples of a write handed over, low halfword first (R45). -/
def withSamples (r : Reader) (x : Sensor) (l : Lanes) (d : Word) (k : Knock) : Knock :=
  match l with
  | .word => takeSample r x (signedHalf d true) (takeSample r x (signedHalf d false) k)
  | .half high => takeSample r x (signedHalf d high) k
  | .byte _ => k

/-- The halfword of a knock ring that an access names (R46). -/
def knockHalfword (e : Env) (x : Sensor) (a : Access) : Nat := (byteAddr a - e.table.knockBase.get x) / 2

/-- The blocks after the position judgement of a write to a knock ring. -/
def knockPositioned (e : Env) (x : Sensor) (a : Access) (b : Blocks) : Blocks :=
  knockPosition e x (knockHalfword e x a) (halfwords a.lanes) b

theorem faultFlag_skipFault (x : Sensor) : faultFlag (skipFault x) = skipFlag x := by cases x <;> rfl

theorem flagSensor_skipFlag (x : Sensor) : flagSensor (skipFlag x) = some x := by cases x <;> rfl

theorem skipFlag_ne (x : Sensor) : skipFlag x ≠ .size ∧ skipFlag x ≠ .queueDropped := by cases x <;> decide

section
variable (e : Env) (x : Sensor) (n w : Nat) (b : Blocks)

theorem knockPosition_kept : KnockKept b (knockPosition e x n w b) := by
  unfold knockPosition; split
  · exact ⟨⟨by simp, by simp, by simp, by simp, by simp, by simp [rowsKept]⟩, by simp, by simp, by simp⟩
  · exact ⟨⟨rfl, rfl, rfl, rfl, rfl, rfl, rfl, rfl⟩, rfl, rfl, rfl⟩

theorem knockPosition_ring :
    (knockPosition e x n w b).tap.knock =
      b.tap.knock.set x (ringAfter (e.table.knockSize.get x) n w) := by
  unfold knockPosition; split
  · rw [streamFault_tap_knock]; rfl
  · rfl

/-- A skip suspends its sensor where its flag is clear (R47, R51). -/
theorem knockPosition_knock :
    (knockPosition e x n w b).knock =
      if ringSkips (b.tap.knock.get x) n = true ∧ flagSet b.tap (skipFlag x) = false then suspend x b.knock
      else b.knock := by
  unfold knockPosition; split
  · next h =>
    have hs : knockFlagSet (skipFlag x) b.knock = suspend x b.knock := by
      unfold knockFlagSet; rw [flagSensor_skipFlag]
    rw [streamFault_knock, faultFlag_skipFault]
    cases hf : flagSet b.tap (skipFlag x) <;> simp_all [flagSet]
  · next h => simp [h]

theorem knockPosition_flagSet {g : Flag} (hg : g ≠ .queueDropped) :
    flagSet (knockPosition e x n w b).tap g =
      (flagSet b.tap g || (ringSkips (b.tap.knock.get x) n && decide (skipFlag x = g))) := by
  unfold knockPosition; split
  · next h => rw [streamFault_flagSet hg, h, faultFlag_skipFault]; rfl
  · next h => simp [flagSet, h]

end

section
variable {e : Env} {x : Sensor} {a : Access} {d : Word} {b : Blocks}

/-- A write of a halfword or a word hands its samples over. -/
theorem takeKnock_samples (hl : ∀ i, a.lanes ≠ .byte i) :
    takeKnock e x a d b = { knockPositioned e x a b with
      knock := withSamples e.reader x a.lanes d (knockPositioned e x a b).knock } := by
  unfold takeKnock knockSize; dsimp only; split
  · next h => rw [h]; simp only [knockPositioned, h]; rfl
  · next h => rw [h]; simp only [knockPositioned, h]; rfl
  · next h => exact absurd h (hl _)

/-- A byte write has fault SIZE and no sample. -/
theorem takeKnock_byte {i : Fin 4} (hl : a.lanes = .byte i) :
    takeKnock e x a d b = streamFault e .size (eventNat (byteAddr a - e.table.knockBase.get x))
      (eventNat (sizeBytes a.lanes)) (knockPositioned e x a b) := by
  simp only [takeKnock, knockPositioned, hl]; rfl

theorem lanes_not_byte_or_byte (l : Lanes) : (∀ i, l ≠ .byte i) ∨ ∃ i, l = .byte i := by
  cases l <;> simp

variable (e x a d b)

theorem takeKnock_kept : KnockKept b (takeKnock e x a d b) := by
  obtain ⟨⟨hcut, hload, hsurface, hcrank, hseg, hrows⟩, htooth, hfifo, hnote⟩ :=
    knockPosition_kept e x (knockHalfword e x a) (halfwords a.lanes) b
  rcases lanes_not_byte_or_byte a.lanes with hl | ⟨i, hl⟩
  · rw [takeKnock_samples hl]
    exact ⟨⟨hcut, hload, hsurface, hcrank, hseg, hrows⟩, htooth, hfifo, hnote⟩
  · rw [takeKnock_byte hl]
    exact ⟨⟨by simpa, by simpa, by simpa, by simpa, by simpa, hrows.trans streamFault_rowsKept⟩, by simpa, by simpa,
      by simpa⟩

theorem takeKnock_ring :
    (takeKnock e x a d b).tap.knock =
      b.tap.knock.set x (ringAfter (e.table.knockSize.get x) (knockHalfword e x a) (halfwords a.lanes)) := by
  rcases lanes_not_byte_or_byte a.lanes with hl | ⟨i, hl⟩
  · rw [takeKnock_samples hl]; exact knockPosition_ring ..
  · rw [takeKnock_byte hl, streamFault_tap_knock]; exact knockPosition_ring ..

theorem takeKnock_knock :
    (takeKnock e x a d b).knock = withSamples e.reader x a.lanes d (knockPositioned e x a b).knock := by
  rcases lanes_not_byte_or_byte a.lanes with hl | ⟨i, hl⟩
  · rw [takeKnock_samples hl]
  · rw [takeKnock_byte hl, streamFault_knock_kept rfl, hl]; rfl

theorem takeKnock_flagSet {g : Flag} (hg : g ≠ .queueDropped) :
    flagSet (takeKnock e x a d b).tap g = true ↔
      flagSet b.tap g = true ∨ (ringSkips (b.tap.knock.get x) (knockHalfword e x a) = true ∧ skipFlag x = g) ∨
        ((∃ i, a.lanes = .byte i) ∧ Flag.size = g) := by
  have hp : flagSet (knockPositioned e x a b).tap g = _ :=
    knockPosition_flagSet e x (knockHalfword e x a) (halfwords a.lanes) b hg
  rcases lanes_not_byte_or_byte a.lanes with hl | ⟨i, hl⟩
  · rw [takeKnock_samples hl]
    simp [hp, hl]
  · rw [takeKnock_byte hl, streamFault_flagSet hg]
    simp [hp, hl, or_assoc]; rfl

end

/-- Settles O32: position is judged first and always, a skip suspends before the samples are handed over. -/
theorem knockWriteTaken : Obligations.KnockWriteTaken := by
  intro s w l d x ht hr ho hwin a h width ring skip next k0 k
  have hexec : exec (.knockWrite w l d) s = .next (onBlocks (fun e => takeKnock e x a d) (forwarded a s)) :=
    exec_stream (f := .knock x) rfl rfl ht hr ho (by rw [hwin]; rfl) rfl
  obtain ⟨⟨hcut, hload, hsurface, hcrank, hseg, hrows⟩, htooth, hfifo, hnote⟩ := takeKnock_kept s.env x a d s.blocks
  have hwidth : halfwords l = width := by cases l <;> rfl
  have hskip : ringSkips ring h = true ↔ skip := ringSkips_iff _ _
  have hring : (takeKnock s.env x a d s.blocks).tap.knock = s.blocks.tap.knock.set x next := by
    rw [takeKnock_ring]; show _ = PerSensor.set _ _ (RingIndex.mk _ ((h + width) % _)); rw [← hwidth]; rfl
  have hk0 : (knockPositioned s.env x a s.blocks).knock = k0 := by
    refine (knockPosition_knock ..).trans ?_
    simp only [← hskip, k0]; rfl
  have hk : (takeKnock s.env x a d s.blocks).knock = k := by
    rw [takeKnock_knock, hk0]; cases l <;> rfl
  have hflag : ∀ g, g ≠ .queueDropped → (flagSet (takeKnock s.env x a d s.blocks).tap g = true ↔
      flagIn s g = true ∨ (skip ∧ skipFlag x = g) ∨ ((∃ i, l = .byte i) ∧ Flag.size = g)) := by
    intro g hg
    rw [takeKnock_flagSet s.env x a d s.blocks hg, ← hskip]; rfl
  obtain ⟨hsize, hdrop⟩ := skipFlag_ne x
  refine ⟨_, hexec, throughPort_onBlocks _ _ _, ?_, fun y hy => ?_, htooth, hfifo, hnote, hcut, hload, hsurface,
    hcrank, hseg, hk, hrows, fun hno hl => ?_, ?_, ?_, fun f hskipf hsizef hdropf => ?_⟩
  · exact (congrArg (PerSensor.get · x) hring).trans (PerSensor.get_set_same ..)
  · exact (congrArg (PerSensor.get · y) hring).trans (PerSensor.get_set_ne hy)
  · have halign : knockPositioned s.env x a s.blocks = alignKnock s.env x h (halfwords l) s.blocks :=
      if_neg (mt hskip.mp hno)
    show takeKnock s.env x a d s.blocks = _
    rw [← hk, takeKnock_knock, takeKnock_samples hl, halign, ← hring, takeKnock_ring]; rfl
  · exact (hflag _ hdrop).trans (by simp [hsize.symm])
  · exact (hflag _ (by decide)).trans (by simp [hsize])
  · exact Bool.eq_iff_iff.mpr ((hflag f hdropf).trans (by simp [hskipf.symm, hsizef.symm]))

end Sys2Proof.Machine
end

section
/-! Marker writes with a fault (R48, R51). -/

namespace Sys2Proof.Machine

section
variable {e : Env} {a : Access} {d : Word} {b : Blocks}

/-- A word of unknown kind or bad value. -/
theorem takeMarker_bad (hl : a.lanes = .word) (h : markerKind d = none ∨
    ∃ k, markerKind d = some k ∧ markerInRange (fNcyl e.reader) k (bitField d 0 16) = false) :
    takeMarker e a d b = streamFault e .marker d 0 b := by
  unfold takeMarker; rw [hl]; dsimp only
  unfold markerContent
  rcases h with hk | ⟨k, hk, hr⟩ <;> rw [hk]
  · rfl
  · dsimp only; rw [hr]; rfl

/-- A write of the wrong size. -/
theorem takeMarker_size (hl : a.lanes ≠ .word) :
    takeMarker e a d b =
      streamFault e .size (eventNat (byteAddr a - e.table.markerBase)) (eventNat (sizeBytes a.lanes)) b := by
  unfold takeMarker; split
  · next h => exact absurd h hl
  · rfl

/-- The fault of a marker write by its size. -/
def markerWriteFault (l : Lanes) : StreamFaultKind := if l = .word then .marker else .size

theorem markerWriteFault_facts (l : Lanes) :
    faultFlag (markerWriteFault l) = (if l = .word then .marker else .size) ∧
      flagSensor (faultFlag (markerWriteFault l)) = none ∧
      streamFaultCode (markerWriteFault l) = (if l = .word then 7 else 1) ∧
      faultFlag (markerWriteFault l) ≠ .queueDropped := by
  unfold markerWriteFault; split <;> decide

/-- The fault of a marker write, with its value and its limit. -/
theorem takeMarker_fault (h : a.lanes ≠ .word ∨ markerKind d = none ∨
    ∃ k, markerKind d = some k ∧ markerInRange (fNcyl e.reader) k (bitField d 0 16) = false) :
    takeMarker e a d b = streamFault e (markerWriteFault a.lanes)
      (if a.lanes = .word then d else BitVec.ofNat 32 (byteAddr a - e.table.markerBase))
      (if a.lanes = .word then 0 else BitVec.ofNat 32 (sizeBytes a.lanes)) b := by
  by_cases hl : a.lanes = .word
  · simp only [markerWriteFault, if_pos hl]; exact takeMarker_bad hl (h.resolve_left (fun hn => hn hl))
  · simp only [markerWriteFault, if_neg hl]; exact takeMarker_size hl

end

/-- Settles O36: the fault's flag rises, and its event with it where the flag was clear. -/
theorem markerFaults : Obligations.MarkerFaults := by
  intro s l d ht hr ho a hwin hbad fault
  obtain ⟨(hfault : _ = fault), hsensor, hcode, hdrop⟩ := markerWriteFault_facts l
  have hexec : exec (.markerFault l d) s = .next (onBlocks (fun e => streamFault e (markerWriteFault l)
      (if l = .word then d else BitVec.ofNat 32 (byteAddr a - e.table.markerBase))
      (if l = .word then 0 else BitVec.ofNat 32 (sizeBytes l))) (forwarded a s)) := by
    rw [exec_stream (f := .marker) rfl rfl ht hr ho (by rw [hwin]; rfl) rfl]
    exact congrArg (fun b => Host.Outcome.next { forwarded a s with blocks := b }) 
      (takeMarker_fault (e := s.env) (a := a) (b := s.blocks) hbad)
  refine ⟨_, hexec, throughPort_onBlocks _ _ _, ?_, fun f hf hne => ?_, streamFault_tap_eq, by simp, by simp,
    streamFault_knock_kept hsensor, streamFault_rowsKept, fun hset => ?_, fun hclear hmask hslot => ?_⟩
  · exact (streamFault_flagSet (hfault ▸ hdrop)).trans (by simp [hfault])
  · exact (streamFault_flagSet hne).trans (by simp [hfault, hf.symm, flagIn, forwarded])
  · exact streamFault_again (by rw [hfault]; exact hset)
  · obtain ⟨hfilling, hword⟩ := streamFault_raised (e := s.env) ho (by rw [hfault]; exact hclear) hmask hslot
    obtain ⟨hdetail, hvalue, hlimit⟩ := streamFault_words
    exact ⟨hfilling, _, requested_iff_mem.mpr hword, hdetail.trans hcode, hvalue, hlimit⟩

end Sys2Proof.Machine
end

section
/-! Marker words taken, and the context markers (R48, R49). -/

namespace Sys2Proof.Machine

/-! ### Marker words (R186) -/

theorem markerWord_toNat (k : MarkerKind) (v : BitVec 16) :
    (markerWord k v).toNat = 2 ^ 16 * markerCode k + v.toNat := by
  have hcode : markerCode k < 2 ^ 16 := by cases k <;> decide
  rw [Nat.two_pow_add_eq_or_of_lt v.isLt, Nat.or_comm, markerWord, BitVec.toNat_or]
  simp only [place, BitVec.toNat_ofNat]
  congr 1 <;> omega

theorem markerWord_value (k : MarkerKind) (v : BitVec 16) : bitField (markerWord k v) 0 16 = v.toNat := by
  rw [bitField, markerWord_toNat, Nat.shiftRight_zero]; omega

theorem markerWord_kind (k : MarkerKind) (v : BitVec 16) : bitField (markerWord k v) 16 16 = markerCode k := by
  have hcode : markerCode k < 2 ^ 16 := by cases k <;> decide
  rw [bitField, markerWord_toNat, Nat.shiftRight_eq_div_pow]; omega

theorem markerKind_markerWord (k : MarkerKind) (v : BitVec 16) : markerKind (markerWord k v) = some k := by
  unfold markerKind; rw [markerWord_kind]; cases k <;> rfl

section
variable {s : State} {k : MarkerKind} {v : BitVec 16}

/-- The window that a marker write names. -/
theorem windowOfAccess_markerAccess :
    windowOfAccess s (markerAccess s k v) = windowOf s.path (4 * (markerAddr s).toNat) := rfl

/-- A marker in range is taken (R48). -/
theorem takeMarker_taken {e : Env} {b : Blocks} (h : markerInRange (fNcyl e.reader) k v.toNat = true) :
    takeMarker e (markerAccess s k v) (markerWord k v) b = takeMarkerKind e k v.toNat b := by
  show markerContent e (markerWord k v) b = _
  unfold markerContent
  rw [markerKind_markerWord]; dsimp only
  rw [markerWord_value]; exact if_pos h

/-- A marker in range, written in RUNNING, is forwarded and acts. -/
theorem exec_marker {c : Instr} (hc : accessOf s c = some (markerAccess s k v)) (ht : onTurn s)
    (hr : s.resetPin = false) (ho : s.loader.op = .running) (hw : windowOf s.path (4 * (markerAddr s).toNat) = .marker)
    (h : markerInRange (fNcyl s.setup) k v.toNat = true) :
    exec c s = .next (onBlocks (fun e => takeMarkerKind e k v.toNat) (forwarded (markerAccess s k v) s)) := by
  rw [exec_stream (f := .marker) hc rfl ht hr ho (by rw [windowOfAccess_markerAccess, hw]; rfl) rfl]
  exact congrArg (fun b => Host.Outcome.next { forwarded (markerAccess s k v) s with blocks := b })
    (takeMarker_taken (e := s.env) (b := s.blocks) h)

end

/-! ### The marker context (R49) -/

/-- One step of the header is told by what the change makes of the header as it stands. -/
theorem headerStep_congr {valid : Bool} {f g : Header → Header} {b c : Blocks} (h : g b.rate.header = f b.rate.header)
    (hg : headerStep valid g b c) : headerStep valid f b c := by
  unfold headerStep at *; rwa [h] at hg

/-- A marker that gives TAP a new context: RATE is told of what differs from its header. -/
theorem exec_context {s : State} {k : MarkerKind} {v : BitVec 16} {c : Instr} {u : Tap} {f : Header → Header}
    (hexec : exec c s =
      .next (onBlocks (fun e => takeMarkerKind e k v.toNat) (forwarded (markerAccess s k v) s)))
    (htake : takeMarkerKind s.env k v.toNat s.blocks = tellContext s.env { s.blocks with tap := u })
    (hf : { s.blocks.rate.header with cut := u.cut, load := u.load, surface := u.surface } = f s.blocks.rate.header) :
    ∃ t, exec c s = .next t ∧ throughPort (markerAccess s k v) s t ∧
      t.blocks = { s.blocks with tap := u, rate := t.blocks.rate, rpw := t.blocks.rpw } ∧
      headerStep s.path.table.valid f s.blocks t.blocks := by
  refine ⟨_, hexec, throughPort_onBlocks _ _ _, ?_⟩
  show takeMarkerKind s.env k v.toNat s.blocks = { s.blocks with
      tap := u, rate := (takeMarkerKind s.env k v.toNat s.blocks).rate
      rpw := (takeMarkerKind s.env k v.toNat s.blocks).rpw } ∧
    headerStep s.path.table.valid f s.blocks (takeMarkerKind s.env k v.toNat s.blocks)
  rw [htake]
  exact ⟨tellHeader_eq _ _ _, headerStep_congr hf (tellHeader_headerStep s.env _ { s.blocks with tap := u })⟩

/-- Settles O34: the marker acts on its part of the context, which alone then differs from RATE's header. -/
theorem contextMarkers : Obligations.ContextMarkers := by
  intro s v ht hr ho hwin hcut hload hsurface
  refine ⟨fun hv => ?_, fun hv => ?_, fun hv => ?_⟩
  · exact exec_context (exec_marker rfl ht hr ho hwin (decide_eq_true hv))
      (by rw [← BitVec.ofNat_toNat]; rfl) (by rw [← hload, ← hsurface])
  · exact exec_context (exec_marker rfl ht hr ho hwin (decide_eq_true hv))
      (by rw [← BitVec.ofNat_toNat]; rfl) (by rw [← hcut, ← hsurface])
  · exact exec_context (exec_marker rfl ht hr ho hwin (decide_eq_true hv))
      (by rw [← BitVec.ofNat_toNat]; rfl) (by rw [← hcut, ← hload])

end Sys2Proof.Machine
end

section
/-! The acting markers: SYNC_RESET and FREEZE (R50, R75, R170 to R172). -/

namespace Sys2Proof.Machine

/-! ### A loss of sync (R72) -/

section
variable (e : Env) (b : Blocks)

theorem lossNotices_seg :
    (lossNotices e b).seg = { b.seg with openSeg := none, ring := (lossNotices e b).seg.ring } ∧
      ringSettled b.seg (lossNotices e b).seg := by
  have h : (lossNotices e b).seg = (segLoss e b).seg := by simp [lossNotices]
  refine ⟨by rw [h]; exact segLoss_seg e b, fun i => ?_⟩
  rw [h, segLoss, settleRing_get]; rfl

theorem lossNotices_knock : (lossNotices e b).knock = { b.knock with openWin := none } := by
  unfold lossNotices dropWindow; rw [frzLoss_knock, segLoss_knock]

/-- After the loss notice FRZ does not collect: a collection has been written out (R174). -/
theorem lossNotices_frz : (lossNotices e b).frz.state ≠ .collecting := by
  unfold lossNotices frzLoss; split
  · simp [writeOut, setFreezeState]
  · next h => exact h

end

section
variable {e : Env} {ev : Event} {b : Blocks}

/-- Out of PHASED no event starts a collection (R171). -/
theorem raise_unphased_frz (hs : b.crank.sync ≠ .phased) (hf : b.frz.state ≠ .collecting) :
    (raise e ev b).frz.state ≠ .collecting := by
  have htake : (takeEvent e ev b).frz.state ≠ .collecting := by simpa using hf
  have hno : collectionStarts (takeEvent e ev b) = false := by simp [collectionStarts, hs]
  unfold raise; split
  · unfold offerEvent; split
    · unfold trigger; rw [hno]; split <;> exact htake
    · exact htake
  · exact hf

/-- A loss of sync where CRANK was not synced moves CRANK alone. -/
theorem loseTo_unsynced {c : Crank} (h : synced b.crank.sync = false) : loseTo e c ev b = moveCrank e c b := by
  unfold loseTo; exact if_neg (by simp [h])

theorem loseTo_synced {c : Crank} (h : synced b.crank.sync = true) :
    loseTo e c ev b = tellSync e (raise e ev (lossNotices e (setCrank c b))) := if_pos h

/-- What a loss of sync leaves in every sync state. -/
theorem loseTo_kept {c : Crank} :
    (loseTo e c ev b).crank = c ∧ (loseTo e c ev b).rate.header.sync = c.sync ∧ rowsKept b (loseTo e c ev b) ∧
      (loseTo e c ev b).tap = { b.tap with flags := (loseTo e c ev b).tap.flags } ∧
      ∀ f, f ≠ .queueDropped → flagSet (loseTo e c ev b).tap f = flagSet b.tap f := by
  cases h : synced b.crank.sync with
  | false => rw [loseTo_unsynced h]; simp [rowsKept]
  | true =>
    rw [loseTo_synced h]
    refine ⟨by simp, by simp, by simp [rowsKept], Tap.eq_of_fields ?_ ?_ ?_ ?_ ?_ ?_ ?_, fun f hf => ?_⟩
    case refine_8 => rw [tellSync_tap, raise_flagSet hf, lossNotices_tap]; rfl
    all_goals simp

/-- What a loss of sync does to the blocks where CRANK was synced. -/
theorem loseTo_losses {c : Crank} (h : synced b.crank.sync = true) (hc : c.sync ≠ .phased) :
    (loseTo e c ev b).seg = { b.seg with openSeg := none, ring := (loseTo e c ev b).seg.ring } ∧
      ringSettled b.seg (loseTo e c ev b).seg ∧ (loseTo e c ev b).knock = { b.knock with openWin := none } ∧
      (loseTo e c ev b).frz.state ≠ .collecting := by
  obtain ⟨hseg, hring⟩ := lossNotices_seg e (setCrank c b)
  have hkeep : (loseTo e c ev b).seg = (lossNotices e (setCrank c b)).seg := by rw [loseTo_synced h]; simp
  rw [hkeep, loseTo_synced h]
  refine ⟨hseg, hring, by simp [lossNotices_knock], ?_⟩
  rw [tellSync_frz]
  exact raise_unphased_frz (by simpa using hc) (lossNotices_frz e _)

theorem loseTo_placed {c : Crank} (h : synced b.crank.sync = true) (ho : e.op = .running)
    (hm : maskNames (fEventMask e.reader) ev.kind = true) (hs : b.evq.slots[b.evq.producer]? = some .free) :
    (loseTo e c ev b).evq.slots[b.evq.producer]? = some (.filling ev.kind) := by
  have hevq : (lossNotices e (setCrank c b)).evq = b.evq := by simp
  rw [loseTo_synced h, tellSync_evq]
  have hp := (raise_placed (ev := ev) ho hm (by rw [hevq]; exact hs)).1
  rwa [hevq] at hp

theorem loseTo_masked {c : Crank} (hm : maskNames (fEventMask e.reader) ev.kind = false) :
    (loseTo e c ev b).evq = b.evq := by
  unfold loseTo; split
  · rw [tellSync_evq, (raise_masked hm).1]; simp
  · simp

end

theorem syncResetRequest_stopped {e : Env} {b : Blocks} (h : b.crank.sync = .stopped) : syncResetRequest e b = b := by
  unfold syncResetRequest; rw [h]

/-- The event of a sync reset request. -/
def resetEvent (b : Blocks) : Event := syncLostEvent .reset b.crank.position 0 0

/-- A sync reset request is a loss of sync, but in STOPPED (R75). -/
theorem syncResetRequest_loses {e : Env} {b : Blocks} (h : b.crank.sync ≠ .stopped) :
    syncResetRequest e b = loseTo e (crankLost .hunt none b.crank) (resetEvent b) b := by
  unfold syncResetRequest; split
  · next hs => exact absurd hs h
  · rfl

theorem synced_iff (st : SyncState) : synced st = true ↔ st = .crankSync ∨ st = .phased := by cases st <;> simp [synced]

/-- The marker SYNC_RESET in RUNNING is forwarded and hands CRANK a sync reset request (R50). -/
theorem exec_syncReset {s : State} (ht : onTurn s) (hr : s.resetPin = false) (ho : s.loader.op = .running)
    (hw : windowOf s.path (4 * (markerAddr s).toNat) = .marker) :
    exec .syncReset s =
      .next (onBlocks syncResetRequest (forwarded (markerAccess s .syncReset 0) s)) :=
  exec_marker rfl ht hr ho hw rfl

/-! ### The FREEZE marker (R50, R170 to R172) -/

theorem recordOfCycle_isSome_iff (ring : Vector CycleRecord 24) (c : BitVec 32) :
    (recordOfCycle ring c).isSome = true ↔ ringHolds ring c := by
  unfold recordOfCycle
  rw [List.find?_isSome]
  constructor
  · rintro ⟨r, hr, hmatch⟩
    obtain ⟨i, hi, rfl⟩ := Vector.mem_iff_getElem.mp (Vector.mem_toList_iff.mp hr)
    have hheld : ring[i].state ≠ .empty ∧ ring[i].cycle = c := by simpa using hmatch
    exact ⟨⟨i, hi⟩, hheld⟩
  · rintro ⟨i, hi⟩
    exact ⟨ring.get i, Vector.mem_toList_iff.mpr (Vector.getElem_mem i.isLt), by simpa using hi⟩

theorem collectionStarts_iff (b : Blocks) : collectionStarts b = true ↔ triggerUsable b := by
  simp [collectionStarts, recordOfCycle_isSome_iff]

theorem completeAtTrigger_iff (e : Env) (b : Blocks) : completeAtTrigger e b = true ↔ frameComplete e b := by
  simp [completeAtTrigger]

theorem setFreezeState_frz (e : Env) (st : FreezeState) (b : Blocks) :
    (setFreezeState e st b).frz = { b.frz with state := st } := by
  unfold setFreezeState tellFreeze; exact tellHeader_frz ..

section
variable (e : Env) (k : TriggerKind) (c : Option Nat) (b : Blocks)

theorem startCollection_eq : startCollection e k c b = { b with
    frz := (startCollection e k c b).frz, rate := (startCollection e k c b).rate
    rpw := (startCollection e k c b).rpw } := by
  rw [← startCollection_tap e k c b, ← startCollection_crank e k c b, ← startCollection_seg e k c b,
    ← startCollection_knock e k c b, ← startCollection_evq e k c b]

/-- A collection begins COLLECTING, or WRITING where its frame is complete (R171, R175). -/
theorem startCollection_frz : (startCollection e k c b).frz =
    if completeAtTrigger e b then
      { collectionOf e k c b with
        state := .writing, missed := 0, writeList := frameWords (collectionOf e k c b) }
    else { collectionOf e k c b with state := .collecting } := by
  unfold startCollection writeOut; dsimp only
  split
  · rw [setFreezeState_frz, setFreezeState_frz]; rfl
  · exact setFreezeState_frz ..

theorem startCollection_header :
    (startCollection e k c b).rate.header.freeze = (startCollection e k c b).frz.state := by
  unfold startCollection writeOut; dsimp only
  split <;> simp [setFreezeState]

theorem startCollection_begun : collectionBegun e k c b (startCollection e k c b) := by
  refine ⟨startCollection_header e k c b, ?_⟩
  rw [← completeAtTrigger_iff, startCollection_frz]
  cases h : completeAtTrigger e b with
  | true => exact ⟨rfl, rfl, rfl, rfl, rfl, rfl, fun hn => absurd rfl hn, fun _ => ⟨rfl, rfl, rfl⟩⟩
  | false => exact ⟨rfl, rfl, rfl, rfl, rfl, rfl, fun _ => ⟨rfl, rfl, rfl⟩, fun hn => absurd hn (by decide)⟩

end

section
variable {e : Env} {k : TriggerKind} {c : Option Nat} {b : Blocks}

theorem trigger_idle (h : b.frz.state = .idle) : trigger e k c b = b := by unfold trigger; rw [h]

theorem trigger_missed (h : b.frz.state = .collecting ∨ b.frz.state = .writing ∨ b.frz.state = .held) :
    trigger e k c b = missTrigger b := by
  unfold trigger; rcases h with h | h | h <;> rw [h]

theorem trigger_unusable (h : b.frz.state = .armed) (hu : ¬ triggerUsable b) : trigger e k c b = missTrigger b := by
  unfold trigger; rw [h]; exact if_neg (mt (collectionStarts_iff b).mp hu)

theorem trigger_usable (h : b.frz.state = .armed) (hu : triggerUsable b) :
    trigger e k c b = startCollection e k c b := by
  unfold trigger; rw [h]; exact if_pos ((collectionStarts_iff b).mpr hu)

end

/-- The marker FREEZE in RUNNING is forwarded and is a manual trigger (R50). -/
theorem exec_freeze {s : State} (ht : onTurn s) (hr : s.resetPin = false) (ho : s.loader.op = .running)
    (hw : windowOf s.path (4 * (markerAddr s).toNat) = .marker) :
    exec .freeze s =
      .next (onBlocks (fun e => trigger e .manual none) (forwarded (markerAccess s .freeze 0) s)) :=
  exec_marker rfl ht hr ho hw rfl

/-- Settles O35: SYNC_RESET is a loss of sync by CRANK's state, FREEZE a trigger by FRZ's. -/
theorem actingMarkers : Obligations.ActingMarkers := by
  constructor
  · intro s ht hr ho hw a lost
    have hexec := exec_syncReset ht hr ho hw
    refine ⟨fun hs => ?_, fun hs => ?_⟩
    · rw [hexec]; exact congrArg Host.Outcome.next (onBlocks_id (syncResetRequest_stopped hs))
    · have hblocks : (onBlocks syncResetRequest (forwarded a s)).blocks =
          loseTo s.env lost (resetEvent s.blocks) s.blocks := syncResetRequest_loses hs
      obtain ⟨hcrank, hsync, hrows, htap, hflags⟩ :=
        loseTo_kept (e := s.env) (ev := resetEvent s.blocks) (b := s.blocks) (c := lost)
      refine ⟨_, hexec, throughPort_onBlocks _ _ _, ?_⟩
      unfold flagIn slotIn
      rw [hblocks]
      refine ⟨hcrank, hsync, hrows, htap, hflags, fun h => ?_, fun h => ?_⟩
      · have hno : synced s.blocks.crank.sync = false := by rcases h with h | h <;> rw [h] <;> rfl
        rw [loseTo_unsynced hno]; simp
      · have hsynced := (synced_iff _).mpr h
        obtain ⟨hseg, hring, hknock, hfrz⟩ := loseTo_losses (e := s.env) (ev := resetEvent s.blocks) (b := s.blocks)
          (c := lost) hsynced SyncState.noConfusion
        exact ⟨hseg, hring, hknock, hfrz,
          loseTo_placed (e := s.env) (ev := resetEvent s.blocks) (b := s.blocks) hsynced ho,
          loseTo_masked (e := s.env) (ev := resetEvent s.blocks) (b := s.blocks)⟩
  · intro s ht hr ho hw a missed
    have hnext : ∀ b, trigger s.env .manual none s.blocks = b →
        exec .freeze s = .next { forwarded a s with blocks := b } :=
      fun b h => (exec_freeze ht hr ho hw).trans (by rw [← h]; rfl)
    exact ⟨fun hs => hnext _ (trigger_idle hs), fun hs => hnext _ (trigger_missed hs),
      fun hs hu => hnext _ (trigger_unusable hs hu), fun hs hu => ⟨_, hnext _ (trigger_usable hs hu),
        throughPort_onBlocks a s (fun e => startCollection e .manual none), startCollection_eq .., by simp [rowsKept],
        startCollection_begun ..⟩⟩

end Sys2Proof.Machine
end

section
/-! What SEG and KNOCK open: a record, a segment, a knock window (R83, R104, R111, R112). -/

namespace Sys2Proof.Machine

/-! ### A cycle start (R104) -/

theorem nextRecord_eq (o : Option (Fin 24)) : nextRecord o = o.elim 0 (fun j => j + 1) := by cases o <;> rfl

/-- A cycle start opens the record after the last one, and no other changes. -/
theorem segCycleStart_get (b : Blocks) (j : Fin 24) :
    (segCycleStart b).seg.ring.get j =
      if j = nextRecord b.seg.last then
        { state := .opened, cycle := b.crank.cycle, resync := b.seg.resync,
          positions := Vector.replicate 8 PositionResult.empty }
      else b.seg.ring.get j :=
  setRecord_get (nextRecord b.seg.last) j _ b.seg

/-! ### A segment start (R83) -/

/-- A segment start notes its start record at its firing position, where there is such a position. -/
theorem segStart_starts (e : Env) (k : Nat) (t : Stamp) (b : Blocks) (j : Fin 8) :
    (segStart e k t b).seg.starts.get j = if j.val = k then openRecord b.seg else b.seg.starts.get j := by
  show (b.seg.starts.setIfInBounds k (openRecord b.seg))[j.val] = _
  by_cases h : j.val = k
  · subst h; rw [if_pos rfl]; exact Vector.getElem_setIfInBounds_self j.isLt
  · rw [if_neg h]; exact Vector.getElem_setIfInBounds_ne j.isLt (fun e => h e.symm)

/-! ### A window open (R111, R112) -/

/-- A range of firing positions that does not wrap, or one that does (R111). -/
theorem coveredBy_iff (first last j : Nat) :
    coveredBy first last j = true ↔
      (first ≤ last ∧ first ≤ j ∧ j ≤ last) ∨ (last < first ∧ (first ≤ j ∨ j ≤ last)) := by
  unfold coveredBy
  split
  · rw [Bool.and_eq_true, decide_eq_true_iff, decide_eq_true_iff]; omega
  · rw [Bool.or_eq_true, decide_eq_true_iff, decide_eq_true_iff]; omega

theorem covers_B_iff (e : Env) (j : Nat) :
    covers e .B j = true ↔
      e.table.knockSize.b ≠ 0 ∧ coveredBy (fSensBFirst e.reader) (fSensBLast e.reader) j = true := by
  simp [covers]

theorem openPart_covered {e : Env} {x : Sensor} {j : Nat} {suspended : Bool} (h : covers e x j = true) :
    openPart e x j suspended = some ⟨0, 0, suspended⟩ := by unfold openPart; exact if_pos h

theorem openPart_uncovered {e : Env} {x : Sensor} {j : Nat} {suspended : Bool} (h : ¬ covers e x j = true) :
    openPart e x j suspended = none := by unfold openPart; exact if_neg h

/-- Settles O45: the record after the last one opens; the start record is the first OPEN one of the ring, and thus the
only one; a sensor has a part exactly where its range of firing positions covers the window's. -/
theorem noticesOpen : Obligations.NoticesOpen := by
  refine ⟨fun b => ?_, fun e k t b => ?_, fun e j b => ?_⟩
  · dsimp only
    rw [← nextRecord_eq]
    exact ⟨rfl, (segCycleStart_get b _).trans (if_pos rfl), fun j hj => (segCycleStart_get b j).trans (if_neg hj)⟩
  · exact ⟨openRecord b.seg, rfl, segStart_starts e k t b, openRecord_none, fun _ => openRecord_some⟩
  · have hA := coveredBy_iff (fSensAFirst e.reader) (fSensALast e.reader) j
    have hB := (covers_B_iff e j).trans (and_congr_right fun _ =>
      coveredBy_iff (fSensBFirst e.reader) (fSensBLast e.reader) j)
    exact ⟨_, _, rfl, fun h => openPart_covered (hA.mpr h), fun h => openPart_uncovered (mt hA.mp h),
      fun h => openPart_covered (hB.mpr h), fun h => openPart_uncovered (mt hB.mp h)⟩

end Sys2Proof.Machine
end

section
/-! The end of a segment: its measures, its class, its row, and what the blocks hold after it (R84 to R98, R137). -/

namespace Sys2Proof.Machine

/-! ### Measures (R85 to R89) -/

theorem transientMeasure_eq (time back : Nat) :
    transientMeasure time back = ((time : Int) - back).natAbs * 4096 / time := by
  have h : (if back ≤ time then time - back else back - time) = ((time : Int) - back).natAbs := by split <;> omega
  unfold transientMeasure; rw [h]

theorem thrEff_some {r : Reader} {rpm load surface : Nat} (h : surface < 3) :
    thrEff r rpm load surface = some (min 32767 (fThrMap r (rpmBand r rpm) load * fSurfScale r surface / 8)) := by
  unfold thrEff; exact if_pos h

/-! ### Conditions on the class (R94 to R96) -/

theorem entryCut_iff (o : Option SegEntry) : entryCut o = true ↔ ∃ y, o = some y ∧ y.segClass = .cut := by
  cases o <;> simp [entryCut]

theorem shadowed_iff (r : Reader) (m : Measures) :
    shadowed r m = true ↔ fShadowEnable r = 1 ∧
      ((∃ y, m.prev = some y ∧ y.segClass = .cut) ∨ ∃ y, m.back = some y ∧ y.segClass = .cut) := by
  simp [shadowed, entryCut_iff]

theorem exceedsTransient_iff (r : Reader) (m : Measures) :
    exceedsTransient r m = true ↔ ∃ a, m.transient = some a ∧ fTransientLimit r < a := by
  unfold exceedsTransient; cases m.transient <;> simp

theorem exceedsThreshold_iff {m : Measures} {thr : Nat} (h : m.threshold = some thr) :
    exceedsThreshold m = true ↔ ∃ v, m.metric = some v ∧ (thr : Int) ≤ v := by
  unfold exceedsThreshold; rw [h]; cases m.metric <;> simp

/-! ### The class, by the precedence of R90 -/

section
variable {r : Reader} {warmup holdoff : Nat} {m : Measures}

theorem classify_cut (hcut : m.cut = true) : classify r warmup holdoff m = .cut := by
  unfold classify; exact if_pos hcut

theorem classify_warmup (hcut : m.cut = false) (hw : warmup < fNcyl r) : classify r warmup holdoff m = .warmup := by
  simp [classify, hcut, hw]

theorem classify_rough (hcut : m.cut = false) (hw : fNcyl r ≤ warmup) (hs : m.surface = 3) :
    classify r warmup holdoff m = .rough := by
  simp [classify, hcut, Nat.not_lt.mpr hw, hs]

theorem classify_shadow (hcut : m.cut = false) (hw : fNcyl r ≤ warmup) (hs : m.surface ≠ 3)
    (hsh : shadowed r m = true) : classify r warmup holdoff m = .shadow := by
  simp [classify, hcut, Nat.not_lt.mpr hw, hs, hsh]

theorem classify_transient (hcut : m.cut = false) (hw : fNcyl r ≤ warmup) (hs : m.surface ≠ 3)
    (hsh : ¬ shadowed r m = true) (h : exceedsTransient r m = true ∨ 0 < holdoff) :
    classify r warmup holdoff m = .transient := by
  simp [classify, hcut, Nat.not_lt.mpr hw, hs, hsh, h]

/-- Past every other test M against thr_eff decides between MISFIRE and FIRED (R96). -/
theorem classify_judged (hcut : m.cut = false) (hw : fNcyl r ≤ warmup) (hs : m.surface ≠ 3)
    (hsh : ¬ shadowed r m = true) (hx : ¬ exceedsTransient r m = true) (hh : holdoff = 0) :
    classify r warmup holdoff m = if exceedsThreshold m then .misfire else .fired := by
  simp [classify, hcut, Nat.not_lt.mpr hw, hs, hsh, hx, hh]

end

/-! ### The holdoff counter (R95) -/

/-- The transient test is made for four of the classes alone. -/
theorem detects_of_tested {r : Reader} {c : SegClass} {m : Measures}
    (h : c ∈ [SegClass.rough, .transient, .misfire, .fired]) : detects r c m = exceedsTransient r m := by
  cases c
  case rough | transient | misfire | fired => rfl
  all_goals exact absurd h (by decide)

theorem detects_untested {r : Reader} {c : SegClass} {m : Measures} (h : c ∈ [SegClass.cut, .warmup, .shadow]) :
    detects r c m = false := by
  cases c
  case cut | warmup | shadow => rfl
  all_goals exact absurd h (by decide)

theorem detects_exceeds {r : Reader} {c : SegClass} {m : Measures} (h : detects r c m = true) :
    exceedsTransient r m = true := by
  cases c
  case cut | warmup | shadow => exact absurd h Bool.false_ne_true
  all_goals exact h

/-! ### The row (R137) -/

theorem satSucc_eq (limit v : Nat) : satSucc limit v = v + if v < limit then 1 else 0 := by
  unfold satSucc; split <;> rfl

/-- The counts of a segment result: of FIRED and MISFIRE alone, and both until the first is full (R137, step 1). -/
theorem countSegment_eq (c : SegClass) (r : Row) :
    countSegment c r = { r with
      evaluated := r.evaluated + if c ∈ [SegClass.fired, .misfire] ∧ r.evaluated < 65535 then 1 else 0
      misfires := r.misfires + if c = .misfire ∧ r.evaluated < 65535 then 1 else 0 } := by
  unfold countSegment
  cases c
  case fired | misfire => by_cases h : r.evaluated < 65535 <;> simp [h]
  all_goals simp

theorem totalSegment_eq (c : SegClass) (r : Row) :
    totalSegment c r = { r with
      totalMisfires := r.totalMisfires + if c = .misfire ∧ r.totalMisfires < 4294967295 then 1 else 0 } := by
  by_cases h : c = .misfire <;> simp [totalSegment, h, satSucc_eq]

/-- The row of a cylinder at a segment result, field by field. -/
theorem segmentRow_eq (res : SegmentResult) (r : Row) :
    segmentRow res r = { r with
      evaluated := r.evaluated + if res.segClass ∈ [SegClass.fired, .misfire] ∧ r.evaluated < 65535 then 1 else 0
      misfires := r.misfires + if res.segClass = .misfire ∧ r.evaluated < 65535 then 1 else 0
      totalMisfires := r.totalMisfires + if res.segClass = .misfire ∧ r.totalMisfires < 4294967295 then 1 else 0
      lastMetric := res.metric
      lastSegClass := res.segClass } := by
  unfold segmentRow; rw [totalSegment_eq, countSegment_eq]

theorem updateRow_rowOf (e : Env) (n : Nat) (f : Row → Row) (b : Blocks) :
    rowOf (updateRow e n f b).rate n = updatedRow f (rowOf b.rate n) :=
  (updateRow_get e n f b (cylinderCode n)).trans (if_pos rfl)

theorem rowOf_congr {rt rt' : Rate} (h : rt'.rows = rt.rows) (n : Nat) : rowOf rt' n = rowOf rt n := by
  unfold rowOf; rw [h]

/-! ### What a completion leaves (R84) -/

theorem fileSegment_seg (e : Env) (o : Option (Fin 24)) (m : Measures) (c : SegClass) (b : Blocks) :
    (fileSegment e o m c b).seg = { b.seg with ring := (fileSegment e o m c b).seg.ring } := by
  cases o with
  | none => rfl
  | some i =>
    by_cases h : m.position + 1 = fNcyl e.reader
    · simp only [fileSegment, if_pos h]; exact closeRecord_seg ..
    · simp only [fileSegment, if_neg h]; rfl

theorem raiseIf_false {e : Env} {cond : Bool} {ev : Event} {b : Blocks} (h : cond = false) :
    raiseIf e cond ev b = b := by subst h; rfl

theorem raiseIf_true {e : Env} {cond : Bool} {ev : Event} {b : Blocks} (h : cond = true) :
    raiseIf e cond ev b = raise e ev b := if_pos h

section
variable (e : Env) (o : Option (Fin 24)) (m : Measures) (c : SegClass) (t : Stamp) (b : Blocks)

/-- The blocks with SEG past step 7 of a completion and the result filed (R84, steps 5 to 8). -/
def filedBlocks : Blocks := fileSegment e o m c { b with seg := segMeasured e.reader m c b.seg }

theorem finishSegment_seg :
    (finishSegment e o m c t b).seg =
      { segMeasured e.reader m c b.seg with openSeg := none, ring := (filedBlocks e o m c b).seg.ring } := by
  have h : (finishSegment e o m c t b).seg = { (filedBlocks e o m c b).seg with openSeg := none } := by
    unfold finishSegment dropSegment; rw [raiseIf_seg, takeSegmentResult_seg]; rfl
  rw [h]; exact congrArg (fun g : Seg => { g with openSeg := none }) (fileSegment_seg ..)

theorem finishSegment_row :
    rowOf (finishSegment e o m c t b).rate (cylinderOf e.reader m.position) =
      updatedRow (segmentRow (segmentResult e m c)) (rowOf b.rate (cylinderOf e.reader m.position)) := by
  have hrows : (finishSegment e o m c t b).rate.rows = (updateRow e (segmentResult e m c).cylinder
      (segmentRow (segmentResult e m c)) (filedBlocks e o m c b)).rate.rows := by
    unfold finishSegment; rw [dropSegment_rate, raiseIf_rate_rows, takeSegmentResult, tellHeader_rate_rows]; rfl
  rw [rowOf_congr hrows]
  refine (updateRow_rowOf e (cylinderOf e.reader m.position) _ _).trans ?_
  rw [rowOf_congr (show (filedBlocks e o m c b).rate.rows = b.rate.rows by simp [filedBlocks])]

theorem finishSegment_header_rpm : (finishSegment e o m c t b).rate.header.rpm = m.rpm := by
  unfold finishSegment; rw [dropSegment_rate, raiseIf_header_rpm, takeSegmentResult_header_rpm]; rfl

end

section
variable {e : Env} {o : Option (Fin 24)} {m : Measures} {c : SegClass} {t : Stamp} {b : Blocks}

/-- A class other than MISFIRE calls for no event (R98). -/
theorem finishSegment_evq_kept (hc : c ≠ .misfire) : (finishSegment e o m c t b).evq = b.evq := by
  unfold finishSegment; rw [raiseIf_false (beq_false_of_ne hc)]; simp

theorem finishSegment_placed (ho : e.op = .running) (hm : maskNames (fEventMask e.reader) .misfire = true)
    (hs : b.evq.slots[b.evq.producer]? = some .free) :
    (finishSegment e o m .misfire t b).evq.slots[b.evq.producer]? = some (.filling .misfire) := by
  have hevq : (takeSegmentResult e (segmentResult e m .misfire) (filedBlocks e o m .misfire b)).evq = b.evq := by
    simp [filedBlocks]
  have hp := (raise_placed (ev := misfireEvent e m t) ho hm (by rw [hevq]; exact hs)).1
  rwa [hevq] at hp

end

section
variable {e : Env} {t : Stamp} {b : Blocks} {o : OpenSegment}

/-- The class of the open segment ended at t (R90). -/
def endClass (e : Env) (t : Stamp) (b : Blocks) (o : OpenSegment) : SegClass :=
  classify e.reader b.seg.warmup b.seg.holdoff (measure e o t b)

theorem segEnd_eq (h : b.seg.openSeg = some o) :
    segEnd e t b = finishSegment e o.record (measure e o t b) (endClass e t b o) t b := by
  unfold segEnd; rw [h]; rfl

theorem segEnd_seg (h : b.seg.openSeg = some o) :
    (segEnd e t b).seg =
      { segMeasured e.reader (measure e o t b) (endClass e t b o) b.seg with
        openSeg := none, ring := (filedBlocks e o.record (measure e o t b) (endClass e t b o) b).seg.ring } := by
  rw [segEnd_eq h]; exact finishSegment_seg ..

/-- The class stands in the newest entry of the list (R86). -/
theorem segEnd_class (h : b.seg.openSeg = some o) :
    (segEnd e t b).seg.list.getLast?.elim .none SegEntry.segClass = endClass e t b o := by
  rw [segEnd_seg h]; simp [segMeasured, joinList]

theorem segEnd_row (h : b.seg.openSeg = some o) :
    rowOf (segEnd e t b).rate (fFiringOrder e.reader o.position) =
      updatedRow (segmentRow (segmentResult e (measure e o t b) (endClass e t b o)))
        (rowOf b.rate (fFiringOrder e.reader o.position)) := by
  rw [segEnd_eq h]; exact finishSegment_row ..

theorem segEnd_header_rpm (h : b.seg.openSeg = some o) :
    (segEnd e t b).rate.header.rpm = (measure e o t b).rpm := by
  rw [segEnd_eq h]; exact finishSegment_header_rpm ..

/-- A detected transient sets the holdoff counter (R95). -/
theorem segEnd_holdoff_set (h : b.seg.openSeg = some o) (hx : exceedsTransient e.reader (measure e o t b) = true)
    (htested : endClass e t b o ∈ [SegClass.rough, .transient, .misfire, .fired]) :
    (segEnd e t b).seg.holdoff = fHoldoffCycles e.reader * fNcyl e.reader := by
  rw [segEnd_seg h]
  simp only [segMeasured, detects_of_tested htested, hx]; rfl

/-- Where the transient test does not detect, or is not made, the holdoff counter counts down (R95). -/
theorem segEnd_holdoff_counts (h : b.seg.openSeg = some o)
    (hno : ¬ exceedsTransient e.reader (measure e o t b) = true ∨
      endClass e t b o ∈ [SegClass.cut, .warmup, .shadow]) :
    (segEnd e t b).seg.holdoff = b.seg.holdoff - 1 := by
  have hd : detects e.reader (endClass e t b o) (measure e o t b) = false := by
    rcases hno with hx | huntested
    · exact Bool.eq_false_iff.mpr (mt detects_exceeds hx)
    · exact detects_untested huntested
  rw [segEnd_seg h]
  simp only [segMeasured, hd]; rfl

end

/-- Settles O48: the class by the tests of R90 in their order; SEG's own state by its steps; the row by RATE's update,
which a MISFIRE event does not touch. -/
theorem segmentCompletes : Obligations.SegmentCompletes := by
  intro e t b o hopen r ncyl T rpm prev back metric A band level thr wasCut shadowedNow exceeds cls cyl row row'
  let m := measure e o t b
  have hmetric : m.metric = metric := by
    show Option.bind prev (fun p => back.map (fun q => metricOf ncyl T p.time q.time)) = metric
    cases hp : prev <;> cases hb : back <;> simp only [metric, hp, hb] <;> rfl
  have hA : m.transient = A := Option.map_congr fun y _ => transientMeasure_eq T y.time
  have hshadow : shadowed r m = true ↔ shadowedNow := shadowed_iff r m
  have hexceeds : exceedsTransient r m = true ↔ exceeds := (exceedsTransient_iff r m).trans (by rw [hA])
  have hthr (hl : level < 3) : exceedsThreshold m = true ↔ ∃ v, metric = some v ∧ (thr : Int) ≤ v :=
    (exceedsThreshold_iff (thrEff_some hl)).trans (by rw [hmetric]; rfl)
  have hcls : cls = endClass e t b o := segEnd_class hopen
  have hseg := segEnd_seg (e := e) (t := t) hopen
  have hrow : row' = updatedRow (segmentRow (segmentResult e m cls)) row := by rw [hcls]; exact segEnd_row hopen
  rw [updatedRow, segmentRow_eq] at hrow
  rw [← hcls] at hseg
  refine ⟨fun hc => ?cut, fun hc hw => ?warmup, fun hc hw hl => ?rough, fun hc hw hl hs => ?shadow,
    fun hc hw hl hs hx => ?transient, fun hc hw hl hs hx hh => ?judged, by rw [hseg], by rw [hseg]; rfl,
    by rw [hseg]; rfl, fun hx htested => ?detected, fun h => ?counts, by rw [hseg]; rfl, segEnd_header_rpm hopen,
    (congrArg Row.lastMetric hrow).trans hmetric, congrArg Row.lastSegClass hrow, congrArg Row.seq hrow,
    congrArg Row.evaluated hrow, congrArg Row.misfires hrow, congrArg Row.totalMisfires hrow, segEnd_knock e t b,
    segEnd_crank e t b, fun ho hc hm hs => ?placed, fun hc => ?silent⟩
  case cut => exact hcls.trans (classify_cut hc)
  case warmup => exact hcls.trans (classify_warmup hc hw)
  case rough => exact hcls.trans (classify_rough hc hw hl)
  case shadow => exact hcls.trans (classify_shadow hc hw (Nat.ne_of_lt hl) (hshadow.mpr hs))
  case transient =>
    exact hcls.trans (classify_transient hc hw (Nat.ne_of_lt hl) (mt hshadow.mp hs) (hx.imp_left hexceeds.mpr))
  case judged =>
    have hjudged := hcls.trans (classify_judged hc hw (Nat.ne_of_lt hl) (mt hshadow.mp hs) (mt hexceeds.mp hx) hh)
    refine ⟨fun v hv hle => ?_, fun hlt => ?_⟩
    · rw [hjudged, if_pos ((hthr hl).mpr ⟨v, hv, hle⟩)]
    · rw [hjudged, if_neg (mt (hthr hl).mp fun ⟨v, hv, hle⟩ => Int.not_lt.mpr hle (hlt v hv))]
  case detected => exact segEnd_holdoff_set hopen (hexceeds.mpr hx) (hcls ▸ htested)
  case counts => exact segEnd_holdoff_counts hopen (h.imp (mt hexceeds.mp) (hcls ▸ ·))
  case placed => rw [segEnd_eq hopen, ← hcls, hc]; exact finishSegment_placed ho hm hs
  case silent => rw [segEnd_eq hopen, ← hcls]; exact finishSegment_evq_kept hc

end Sys2Proof.Machine
end

section
/-! The history ring at the end of a segment and at a loss, and what FRZ is told of it (R98, R100, R105, R106, R152). -/

namespace Sys2Proof.Machine

/-! ### Offers of an event to FRZ (R170 to R172) -/

/-- What FRZ becomes at a trigger is decided by FRZ, CRANK and the history ring alone. -/
theorem trigger_frz_congr {e : Env} {k : TriggerKind} {c : Option Nat} {x y : Blocks} (hfrz : x.frz = y.frz)
    (hcrank : x.crank = y.crank) (hring : x.seg.ring = y.seg.ring) :
    (trigger e k c x).frz = (trigger e k c y).frz := by
  have hmiss : (missTrigger x).frz = (missTrigger y).frz := by simp only [missTrigger, hfrz]
  have hcollected : collectionOf e k c x = collectionOf e k c y := by simp only [collectionOf, hfrz, hcrank, hring]
  have hcomplete : completeAtTrigger e x = completeAtTrigger e y := by simp only [completeAtTrigger, hcrank, hring]
  have hstart : (startCollection e k c x).frz = (startCollection e k c y).frz := by
    rw [startCollection_frz, startCollection_frz, hcollected, hcomplete]
  have hwhen : collectionStarts x = collectionStarts y := by simp only [collectionStarts, hcrank, hring]
  unfold trigger
  rw [hfrz, hwhen]
  split
  case h_1 => exact hfrz
  case h_2 => split <;> assumption
  all_goals exact hmiss

/-- FRZ reads the kind and the cylinder of an event it is offered, and no other field. -/
theorem offerEvent_frz_congr {e : Env} {v w : Event} {x y : Blocks} (hkind : v.kind = w.kind)
    (hcyl : v.cylinder = w.cylinder) (hfrz : x.frz = y.frz) (hcrank : x.crank = y.crank)
    (hring : x.seg.ring = y.seg.ring) : (offerEvent e v x).frz = (offerEvent e w y).frz := by
  unfold offerEvent
  rw [hkind, hcyl]
  split
  · exact trigger_frz_congr hfrz hcrank hring
  · exact hfrz

/-! ### FRZ at the end of a segment (R84, steps 8 and 9) -/

section
variable {e : Env} {o : Option (Fin 24)} {m : Measures} {c : SegClass} {t : Stamp} {b : Blocks}

/-- With no MISFIRE event FRZ hears of the filing alone. -/
theorem finishSegment_frz_silent (h : ¬ (c = .misfire ∧ e.op = .running)) :
    (finishSegment e o m c t b).frz = (filedBlocks e o m c b).frz := by
  unfold finishSegment raiseIf
  split
  · next hc => rw [raise_ignored fun ho => h ⟨by simpa using hc, ho⟩]; exact takeSegmentResult_frz ..
  · exact takeSegmentResult_frz ..

/-- FRZ is offered a MISFIRE event after it has heard of the filing. -/
theorem finishSegment_frz_offered {v : Event} {x : Blocks} (hc : c = .misfire) (ho : e.op = .running)
    (hkind : v.kind = .misfire) (hcyl : v.cylinder = some (cylinderOf e.reader m.position))
    (hfrz : (filedBlocks e o m c b).frz = x.frz) (hcrank : x.crank = b.crank)
    (hring : x.seg.ring = (filedBlocks e o m c b).seg.ring) :
    (finishSegment e o m c t b).frz = (offerEvent e v x).frz := by
  have hraise : (finishSegment e o m c t b).frz = (raise e (misfireEvent e m t)
      (takeSegmentResult e (segmentResult e m c) (filedBlocks e o m c b))).frz := by
    unfold finishSegment; rw [raiseIf_true (by rw [hc]; rfl)]; rfl
  rw [hraise, raise_running ho]
  refine offerEvent_frz_congr hkind.symm hcyl.symm ?_ ?_ ?_
  · rw [takeEvent_frz, takeSegmentResult_frz, hfrz]
  · rw [takeEvent_crank, takeSegmentResult_crank, hcrank]; simp [filedBlocks]
  · rw [takeEvent_seg, takeSegmentResult_seg, hring]

end

/-! ### CLOSED records that become FINAL (R106) -/

/-- Where two states of the blocks agree but for SEG, the one is the other with its own SEG. -/
theorem Blocks.eq_with_seg {x y : Blocks} {g : Seg} (h : x = { y with seg := g }) : x = { y with seg := x.seg } := by
  subst h; rfl

theorem finalNotice_twice_with_seg (e : Env) (first second : CycleRecord) (g : Seg) (b : Blocks) :
    finalNotice e second (finalNotice e first { b with seg := g }) =
      { finalNotice e second (finalNotice e first b) with seg := g } := by
  rw [finalNotice_with_seg e first, finalNotice_with_seg e second]

theorem makeFinal_with_seg (e : Env) (i : Fin 24) (g : Seg) (b : Blocks) :
    makeFinal e i { b with seg := g } =
      { finalNotice e { g.ring.get i with state := .final } b with
        seg := setRecord i { g.ring.get i with state := .final } g } := by
  rw [makeFinal_eq, finalNotice_with_seg]

section
variable {e : Env} {keep : Option (Fin 24)} {l : List (Fin 24)} {b : Blocks} {i j : Fin 24}

theorem makeFinal_closed_iff :
    ((makeFinal e j b).seg.ring.get i).state = .closed ↔ i ≠ j ∧ (b.seg.ring.get i).state = .closed := by
  rw [makeFinal_eq, setRecord_get]
  by_cases h : i = j <;> simp [h]

/-- The only CLOSED record of a list, other than `keep`, becomes FINAL. -/
theorem finaliseClosed_one (hj : j ∈ l) (hc : (b.seg.ring.get j).state = .closed) (hk : keep ≠ some j)
    (honly : ∀ n, n ≠ j → (b.seg.ring.get n).state = .closed → keep = some n) :
    finaliseClosed e keep l b = makeFinal e j b := by
  obtain ⟨before, after, rfl, hbefore⟩ := List.eq_append_cons_of_mem hj
  rw [finaliseClosed_first e keep j after before b (fun n hn => honly n fun h => hbefore (h ▸ hn)) hc hk]
  refine finaliseClosed_none e keep after _ fun n _ hn => ?_
  obtain ⟨hne, hclosed⟩ := makeFinal_closed_iff.mp hn
  exact honly n hne hclosed

/-- Of two CLOSED records, the one at the end of the list becomes FINAL second. -/
theorem finaliseClosed_two (hi : i ∈ l) (hij : i ≠ j) (hj : j ∉ l) (hci : (b.seg.ring.get i).state = .closed)
    (hcj : (b.seg.ring.get j).state = .closed)
    (honly : ∀ n, n ≠ i → n ≠ j → (b.seg.ring.get n).state ≠ .closed) :
    finaliseClosed e none (l ++ [j]) b = makeFinal e j (makeFinal e i b) := by
  obtain ⟨before, after, rfl, hbefore⟩ := List.eq_append_cons_of_mem hi
  have hpassed : ∀ n ∈ before, (b.seg.ring.get n).state = .closed → none = some n := fun n hn hc =>
    absurd hc (honly n (fun h => hbefore (h ▸ hn)) fun h => hj (List.mem_append_left _ (h ▸ hn)))
  rw [List.append_assoc, List.cons_append, finaliseClosed_first e none i _ before b hpassed hci (by simp)]
  refine finaliseClosed_one (by simp) (makeFinal_closed_iff.mpr ⟨hij.symm, hcj⟩) (by simp) fun n hn hc => ?_
  obtain ⟨hne, hclosed⟩ := makeFinal_closed_iff.mp hc
  exact absurd hclosed (honly n hne hn)

end

/-- The ring's order ends with the most recently opened record (R104). -/
theorem ringOrder_some (j : Fin 24) : ∃ l, ringOrder (some j) = l ++ [j] := by
  have h : ∀ i : Fin 24, (ringOrder (some i)).getLast? = some i := by decide
  exact List.getLast?_eq_some_iff.mp (h j)

/-! ### A record closes (R106) -/

section
variable {e : Env} {b : Blocks} {i j : Fin 24}

theorem closeRecord_alone (h : ∀ n, n ≠ i → (b.seg.ring.get n).state ≠ .closed) :
    closeRecord e i b = { b with seg := (closeRecord e i b).seg } := by
  refine Blocks.eq_with_seg (finaliseClosed_none e (some i) _ _ fun n _ hn => ?_)
  by_cases hne : n = i
  · rw [hne]
  · rw [setRecord_get, if_neg hne] at hn; exact absurd hn (h n hne)

theorem closeRecord_after (hij : j ≠ i) (hj : (b.seg.ring.get j).state = .closed)
    (h : ∀ n, n ≠ i → n ≠ j → (b.seg.ring.get n).state ≠ .closed) :
    closeRecord e i b =
      { finalNotice e { b.seg.ring.get j with state := .final } b with seg := (closeRecord e i b).seg } := by
  have hkept {n : Fin 24} (hn : n ≠ i) :
      (setRecord i { b.seg.ring.get i with state := .closed } b.seg).ring.get n = b.seg.ring.get n :=
    (setRecord_get ..).trans (if_neg hn)
  have hone : closeRecord e i b =
      makeFinal e j { b with seg := setRecord i { b.seg.ring.get i with state := .closed } b.seg } := by
    refine finaliseClosed_one (mem_ringOrder _ j) (by rwa [hkept hij]) (fun h => hij (Option.some.inj h).symm)
      fun n hn hc => ?_
    by_cases hne : n = i
    · rw [hne]
    · rw [hkept hne] at hc; exact absurd hc (h n hne hn)
  rw [makeFinal_with_seg, hkept hij] at hone
  exact Blocks.eq_with_seg hone

end

/-! ### FRZ as a result is filed (R84, step 8) -/

section
variable {e : Env} {m : Measures} {c : SegClass} {b : Blocks} {i j : Fin 24}

theorem filedBlocks_frz_open (h : ¬ m.position + 1 = fNcyl e.reader) :
    (filedBlocks e (some i) m c b).frz = b.frz := by
  simp only [filedBlocks, fileSegment, if_neg h]

theorem filedBlocks_frz_alone (hcloses : m.position + 1 = fNcyl e.reader)
    (h : ∀ n, n ≠ i → (b.seg.ring.get n).state ≠ .closed) : (filedBlocks e (some i) m c b).frz = b.frz := by
  simp only [filedBlocks, fileSegment, if_pos hcloses]
  rw [closeRecord_alone]
  intro n hn
  rw [fileInto_get, if_neg hn]
  exact h n hn

theorem filedBlocks_frz_after (hcloses : m.position + 1 = fNcyl e.reader) (hij : j ≠ i)
    (hj : (b.seg.ring.get j).state = .closed)
    (h : ∀ n, n ≠ i → n ≠ j → (b.seg.ring.get n).state ≠ .closed) :
    (filedBlocks e (some i) m c b).frz = (finalNotice e { b.seg.ring.get j with state := .final } b).frz := by
  have hkept {n : Fin 24} (hn : n ≠ i) : (fileInto i m.position (filedSegment m.time c m.metric)
      (segMeasured e.reader m c b.seg)).ring.get n = b.seg.ring.get n :=
    (fileInto_get ..).trans (if_neg hn)
  simp only [filedBlocks, fileSegment, if_pos hcloses]
  rw [closeRecord_after hij (by rwa [hkept hij]) fun n hi hn => by rw [hkept hi]; exact h n hi hn]
  simp only [hkept hij, finalNotice_with_seg]

end

/-! ### A loss (R100) -/

/-- SEG as a loss drops the open segment and the OPEN record closes. -/
def lossSeg (b : Blocks) : Seg := closePartial { b.seg with openSeg := none }

theorem segLoss_eq (e : Env) (b : Blocks) :
    segLoss e b = finaliseClosed e none (ringOrder b.seg.last) { b with seg := lossSeg b } := rfl

theorem lossSeg_closed_iff {b : Blocks} {i : Fin 24} :
    ((lossSeg b).ring.get i).state = .closed ↔
      (b.seg.ring.get i).state = .opened ∨ (b.seg.ring.get i).state = .closed := by
  rw [lossSeg, closePartial_get, closeIfOpen]
  split <;> simp [*]

theorem lossSeg_final (b : Blocks) (i : Fin 24) :
    { (lossSeg b).ring.get i with state := .final } = { b.seg.ring.get i with state := .final } := by
  rw [lossSeg, closePartial_get, closeIfOpen]
  split <;> rfl

theorem segLoss_settled (e : Env) (b : Blocks) : ringSettled b.seg (segLoss e b).seg := fun i => by
  rw [segLoss, settleRing_get]; rfl

section
variable {e : Env} {b : Blocks} {i j : Fin 24}

theorem segLoss_none (h : ∀ n, ¬ ((b.seg.ring.get n).state = .opened ∨ (b.seg.ring.get n).state = .closed)) :
    segLoss e b = { b with seg := (segLoss e b).seg } :=
  Blocks.eq_with_seg (finaliseClosed_none e none _ _ fun n _ hn => absurd (lossSeg_closed_iff.mp hn) (h n))

theorem segLoss_one (hi : (b.seg.ring.get i).state = .opened ∨ (b.seg.ring.get i).state = .closed)
    (h : ∀ n, n ≠ i → ¬ ((b.seg.ring.get n).state = .opened ∨ (b.seg.ring.get n).state = .closed)) :
    segLoss e b =
      { finalNotice e { b.seg.ring.get i with state := .final } b with seg := (segLoss e b).seg } := by
  have hone : segLoss e b = makeFinal e i { b with seg := lossSeg b } :=
    finaliseClosed_one (mem_ringOrder _ i) (lossSeg_closed_iff.mpr hi) (by simp)
      fun n hn hc => absurd (lossSeg_closed_iff.mp hc) (h n hn)
  rw [makeFinal_with_seg, lossSeg_final] at hone
  exact Blocks.eq_with_seg hone

/-- Of two records to settle the one opened last is told of last. -/
theorem segLoss_two (hij : i ≠ j) (hi : (b.seg.ring.get i).state = .opened ∨ (b.seg.ring.get i).state = .closed)
    (hj : (b.seg.ring.get j).state = .opened ∨ (b.seg.ring.get j).state = .closed) (hlast : b.seg.last = some j)
    (h : ∀ n, n ≠ i → n ≠ j → ¬ ((b.seg.ring.get n).state = .opened ∨ (b.seg.ring.get n).state = .closed)) :
    segLoss e b =
      { finalNotice e { b.seg.ring.get j with state := .final }
          (finalNotice e { b.seg.ring.get i with state := .final } b) with
        seg := (segLoss e b).seg } := by
  obtain ⟨l, hl⟩ := ringOrder_some j
  have hnodup : (l ++ [j]).Nodup := hl ▸ ringOrder_nodup (some j)
  have hmem : i ∈ l := by have := hl ▸ mem_ringOrder (some j) i; simpa [hij] using this
  have hnot : j ∉ l := fun hm => (List.nodup_append.mp hnodup).2.2 j hm j (List.mem_singleton_self j) rfl
  have htwo : segLoss e b = makeFinal e j (makeFinal e i { b with seg := lossSeg b }) := by
    rw [segLoss_eq, hlast, hl]
    exact finaliseClosed_two hmem hij hnot (lossSeg_closed_iff.mpr hi) (lossSeg_closed_iff.mpr hj)
      fun n hni hnj hc => h n hni hnj (lossSeg_closed_iff.mp hc)
  rw [makeFinal_with_seg, makeFinal_with_seg, setRecord_get, if_neg hij.symm, lossSeg_final, lossSeg_final,
    finalNotice_with_seg] at htwo
  exact Blocks.eq_with_seg htwo

end

/-! ### The ring as a result is filed (R105, R106) -/

section
variable {e : Env} {m : Measures} {c : SegClass} {b : Blocks} {i j : Fin 24}

/-- The start record takes the result at one firing position, and closes at the last one. -/
theorem filedBlocks_get_start :
    (filedBlocks e (some i) m c b).seg.ring.get i =
      { filePosition m.position (filedSegment m.time c m.metric) (b.seg.ring.get i) with
        state := if m.position + 1 = fNcyl e.reader then .closed else (b.seg.ring.get i).state } := by
  refine (fileSegment_get e i i m c { b with seg := segMeasured e.reader m c b.seg }).trans ?_
  by_cases h : m.position + 1 = fNcyl e.reader
  · simp only [if_pos h]; rfl
  · simp only [if_neg h]; rfl

theorem filedBlocks_get_other (hj : j ≠ i) :
    (filedBlocks e (some i) m c b).seg.ring.get j =
      if m.position + 1 = fNcyl e.reader ∧ (b.seg.ring.get j).state = .closed then
        { b.seg.ring.get j with state := .final }
      else b.seg.ring.get j :=
  (fileSegment_get e i j m c { b with seg := segMeasured e.reader m c b.seg }).trans (if_neg hj)

end

theorem segEnd_ring {e : Env} {t : Stamp} {b : Blocks} {o : OpenSegment} (h : b.seg.openSeg = some o) :
    (segEnd e t b).seg.ring = (filedBlocks e o.record (measure e o t b) (endClass e t b o) b).seg.ring := by
  rw [segEnd_seg h]

/-- Settles O49: the ring by what filing does to each record; FRZ first hears of the record that becomes FINAL, and is
offered the event after that; at a loss the ring's order gives the older record first. -/
theorem ringFiledAndSettled : Obligations.RingFiledAndSettled := by
  refine ⟨fun e t b o hopen => ?_, fun e b => ?_⟩
  · intro b' T cls cyl metric closes isClosed event misfire toldThenOffered
    let m := measure e o t b
    have hcls : cls = endClass e t b o := segEnd_class hopen
    have hmetric : metric = m.metric := by
      show (rowOf (segEnd e t b).rate cyl).lastMetric = _; rw [segEnd_row hopen]; rfl
    have hring : b'.seg.ring = (filedBlocks e o.record m cls b).seg.ring := by rw [hcls]; exact segEnd_ring hopen
    have hend : b' = finishSegment e o.record m cls t b := by rw [hcls]; exact segEnd_eq hopen
    have htold {x : Blocks} (hfrz : (filedBlocks e o.record m cls b).frz = x.frz) (hcrank : x.crank = b.crank) :
        toldThenOffered x := by
      refine ⟨fun hno => ?_, fun ⟨hc, ho⟩ => ?_⟩
      · rw [hend, finishSegment_frz_silent hno, hfrz]
      · rw [hend]
        exact finishSegment_frz_offered hc ho rfl rfl hfrz hcrank (by rw [← hend]; exact hring)
    refine ⟨fun hnone => ?_, fun i hi => ?_⟩
    · rw [hnone] at hring htold; exact ⟨hring, htold rfl rfl⟩
    rw [hi] at hring htold
    intro old new
    have hnew : new = { filePosition o.position (filedSegment T cls m.metric) old with
        state := if closes then .closed else old.state } := by
      show b'.seg.ring.get i = _; rw [hring]; exact filedBlocks_get_start
    have hother {j : Fin 24} (hj : j ≠ i) : b'.seg.ring.get j =
        if closes ∧ isClosed j then { b.seg.ring.get j with state := .final } else b.seg.ring.get j := by
      rw [hring]; exact filedBlocks_get_other hj
    refine ⟨by rw [hnew]; rfl, by rw [hnew]; rfl, fun k hk => ?filed, fun k hk => ?unfiled,
      fun hc => ⟨?stays, fun j hj => ?others, htold (filedBlocks_frz_open hc) rfl⟩,
      fun hc => ⟨?closed, fun j hj hclosed => ?final, fun j hj hclosed => ?kept,
        fun hno => htold (filedBlocks_frz_alone hc hno) rfl, fun j hj hclosed hno =>
          htold (filedBlocks_frz_after hc hj hclosed hno) (finalNotice_crank ..)⟩⟩
    case filed => rw [hnew, hmetric]; exact (filePosition_get ..).trans (if_pos hk)
    case unfiled => rw [hnew]; exact (filePosition_get ..).trans (if_neg hk)
    case stays => rw [hnew]; exact if_neg hc
    case others => rw [hother hj, if_neg fun h => hc h.1]
    case closed => rw [hnew]; exact if_pos hc
    case final => rw [hother hj, if_pos ⟨hc, hclosed⟩]
    case kept => rw [hother hj, if_neg fun h => hclosed h.2]
  · dsimp only
    refine ⟨segLoss_seg e b, segLoss_settled e b, fun hno => segLoss_none hno,
      fun i hi hno => ?_, fun i j hij hi hj hlast hno => ?_⟩
    · exact (segLoss_one hi hno).trans (finalNotice_with_seg ..).symm
    · exact (segLoss_two hij hi hj hlast hno).trans (finalNotice_twice_with_seg ..).symm

end Sys2Proof.Machine
end

section
/-! The close of a knock window: backgrounds, the record filed, the row, the event (R107, R117 to R126, R138). -/

namespace Sys2Proof.Machine

/-! ### Backgrounds (R117, step 1; R120, R122) -/

section
variable (r : Reader) (w : KnockWindow) (k : Knock) (x : Sensor) (c : Nat) (p : Option PartResult) (j : Fin 8)

theorem learn_bias : (learn x c p k).bias = k.bias := by unfold learn; split <;> rfl

/-- A sensor's background of a cylinder is what its part came to, where the window has one. -/
theorem learn_background_get :
    ((learn x c p k).background.get x).get j =
      if j = cylinderCode c then p.elim ((k.background.get x).get j) PartResult.background
      else (k.background.get x).get j := by
  cases p with
  | none => simp [learn]
  | some q =>
    have hset : (learn x c (some q) k).background.get x = (k.background.get x).set (cylinderCode c) q.background :=
      PerSensor.get_set_same ..
    rw [hset]
    show ((k.background.get x).set (cylinderCode c) q.background)[j.val] = _
    by_cases h : j = cylinderCode c
    · rw [if_pos h, h]; exact Vector.getElem_set_self ..
    · rw [if_neg h]; exact Vector.getElem_set_ne (cylinderCode c).isLt j.isLt fun e => h (Fin.ext e.symm)

theorem learn_background_ne {x y : Sensor} (h : y ≠ x) :
    (learn x c p k).background.get y = k.background.get y := by
  unfold learn; split
  · rfl
  · exact PerSensor.get_set_ne h

/-- Each sensor's backgrounds after a close: that of the window's cylinder is what the sensor's part came to. -/
theorem learnBoth_background_get :
    ((learnBoth r w k).background.get x).get j =
      if j = cylinderCode w.cylinder then
        (partResult r w k x).elim ((k.background.get x).get j) PartResult.background
      else (k.background.get x).get j := by
  unfold learnBoth
  cases x with
  | A => rw [learn_background_ne _ _ _ (by decide), learn_background_get]
  | B => rw [learn_background_get, learn_background_ne _ _ _ (by decide)]

theorem learnBoth_bias : (learnBoth r w k).bias = k.bias := by unfold learnBoth; rw [learn_bias, learn_bias]

theorem learnBoth_suspended : (learnBoth r w k).suspended = k.suspended := by
  unfold learnBoth; rw [learn_suspended, learn_suspended]

end

/-! ### The record (R107, R124) -/

theorem startRecord_eq (g : Seg) (k : Fin 8) : startRecord g k.val = g.starts.get k := by
  show g.starts[k.val]?.getD none = g.starts[k.val]
  simp

theorem fileWindow_seg_frame (j : Nat) (v : WindowVerdict) (b : Blocks) :
    (fileWindow j v b).seg = { b.seg with ring := (fileWindow j v b).seg.ring } := by
  unfold fileWindow; split <;> rfl

section
variable {j : Nat} {v : WindowVerdict} {b : Blocks}

theorem fileWindow_unfiled (h : startRecord b.seg j = none) : fileWindow j v b = b := by unfold fileWindow; rw [h]

theorem fileWindow_filed {n : Fin 24} (h : startRecord b.seg j = some n) :
    (fileWindow j v b).seg = fileInto n j (filedWindow v.knockClass v.ratio) b.seg := by unfold fileWindow; rw [h]

end

/-! ### The row (R138) -/

/-- The counts of a window result, those of a rating window until `knockEvaluated` is full (R138, step 1). -/
theorem countWindow_eq (c : KnockClass) (r : Row) :
    countWindow c r = { r with
      knockEvaluated := r.knockEvaluated +
        if c ∈ [KnockClass.quiet, .knock, .heavy] ∧ r.knockEvaluated < 65535 then 1 else 0
      knockCount := r.knockCount + if c = .knock ∧ r.knockEvaluated < 65535 then 1 else 0
      heavyCount := r.heavyCount + if c = .heavy ∧ r.knockEvaluated < 65535 then 1 else 0
      impactCount := r.impactCount + if c = .impact ∧ r.impactCount < 65535 then 1 else 0 } := by
  unfold countWindow
  cases c
  case quiet | knock | heavy => by_cases h : r.knockEvaluated < 65535 <;> simp [h]
  case impact => simp [satSucc_eq]
  all_goals simp

/-! ### What a close leaves (R117) -/

section
variable (e : Env) (w : KnockWindow) (v : WindowVerdict) (t : Stamp) (b : Blocks)

theorem finishWindow_knock : (finishWindow e w v t b).knock = { b.knock with openWin := none } := by
  unfold finishWindow dropWindow; simp

theorem finishWindow_seg : (finishWindow e w v t b).seg = (fileWindow w.position v b).seg := by
  unfold finishWindow; simp

theorem finishWindow_row (i : Fin 8) :
    (finishWindow e w v t b).rate.rows.get i =
      if i = cylinderCode w.cylinder then
        updatedRow (windowRow (windowResult e w v b.knock)) (b.rate.rows.get i)
      else b.rate.rows.get i := by
  have hrows : (finishWindow e w v t b).rate.rows = (updateRow e w.cylinder
      (windowRow (windowResult e w v b.knock)) (fileWindow w.position v b)).rate.rows := by
    unfold finishWindow; rw [dropWindow_rate, raiseOption_rate_rows]; rfl
  rw [hrows, updateRow_get, fileWindow_rate]

end

/-! ### The event (R126) -/

section
variable {r : Reader} {w : KnockWindow} {v : WindowVerdict} {t : Stamp}

theorem windowEvent_knock (h : v.knockClass ∈ [KnockClass.knock, .heavy]) :
    ∃ ev, windowEvent r w v t = some ev ∧ ev.kind = .knock := by
  unfold windowEvent
  cases hc : v.knockClass
  case knock | heavy => exact ⟨_, rfl, rfl⟩
  all_goals rw [hc] at h; exact absurd h (by decide)

theorem windowEvent_impact (h : v.knockClass = .impact) :
    ∃ ev, windowEvent r w v t = some ev ∧ ev.kind = .impact := by
  unfold windowEvent; rw [h]; exact ⟨_, rfl, rfl⟩

theorem windowEvent_none (h : v.knockClass ∉ [KnockClass.knock, .heavy, .impact]) : windowEvent r w v t = none := by
  unfold windowEvent
  cases hc : v.knockClass
  case knock | heavy | impact => rw [hc] at h; exact absurd (by decide) h
  all_goals rfl

end

section
variable {e : Env} {w : KnockWindow} {v : WindowVerdict} {t : Stamp} {b : Blocks}

theorem finishWindow_evq_kept (h : windowEvent e.reader w v t = none) : (finishWindow e w v t b).evq = b.evq := by
  unfold finishWindow; rw [h, dropWindow_evq, raiseOption, takeWindowResult_evq, fileWindow_evq]

theorem finishWindow_placed {kind : EventKind} (h : ∃ ev, windowEvent e.reader w v t = some ev ∧ ev.kind = kind)
    (ho : e.op = .running) (hm : maskNames (fEventMask e.reader) kind = true)
    (hs : b.evq.slots[b.evq.producer]? = some .free) :
    (finishWindow e w v t b).evq.slots[b.evq.producer]? = some (.filling kind) := by
  obtain ⟨ev, hev, rfl⟩ := h
  have hevq : (takeWindowResult e (windowResult e w v b.knock) (fileWindow w.position v b)).evq = b.evq := by simp
  have hp := (raise_placed (ev := ev) ho hm (by rw [hevq]; exact hs)).1
  rw [hevq] at hp
  unfold finishWindow
  rw [hev]
  exact hp

/-- The verdict of the open window (R117, steps 1 and 2). -/
def closeVerdict (r : Reader) (w : KnockWindow) (k : Knock) : WindowVerdict :=
  combine (partResult r w k .A) (partResult r w k .B)

theorem knockClose_eq (h : b.knock.openWin = some w) :
    knockClose e t b = finishWindow e w (closeVerdict e.reader w b.knock) t
      { b with knock := learnBoth e.reader w b.knock } := by
  unfold knockClose; rw [h]; rfl

end

/-- Settles O51: the backgrounds are learnt first, so that the row takes them as they are after; the record takes the
result at one firing position; the class of the verdict calls for the event. -/
theorem knockWindowCloses : Obligations.KnockWindowCloses := by
  intro e t b w hopen r i pa pb v b' row row'
  let learnt : Blocks := { b with knock := learnBoth r w b.knock }
  have hend : b' = finishWindow e w v t learnt := knockClose_eq hopen
  have hknock : b'.knock = { learnBoth r w b.knock with openWin := none } := by
    rw [hend]; exact finishWindow_knock ..
  have hrow (j : Fin 8) : b'.rate.rows.get j = if j = i then
      updatedRow (windowRow (windowResult e w v learnt.knock)) (b.rate.rows.get j) else b.rate.rows.get j := by
    rw [hend]; exact finishWindow_row ..
  have hown : row' = updatedRow (windowRow (windowResult e w v learnt.knock)) row := (hrow i).trans (if_pos rfl)
  rw [updatedRow, windowRow, countWindow_eq] at hown
  have hseg : b'.seg = (fileWindow w.position v learnt).seg := by rw [hend]; exact finishWindow_seg ..
  refine ⟨by rw [hknock], by rw [hknock]; exact learnBoth_bias .., by rw [hknock]; exact learnBoth_suspended ..,
    ?backgroundA, ?backgroundB, fun j hj => ⟨?otherA, ?otherB, (hrow j).trans (if_neg hj)⟩,
    congrArg Row.lastRatio hown, congrArg Row.lastKnockClass hown, congrArg Row.seq hown, ?handed,
    congrArg Row.knockEvaluated hown, congrArg Row.knockCount hown, congrArg Row.heavyCount hown,
    congrArg Row.impactCount hown, knockClose_crank .., ?frame, fun k hk hnone => ?unfiled,
    fun k n hk hstart => ?filed, fun ho hc hm hs => ?knock, fun ho hc hm hs => ?impact, fun hc => ?silent⟩
  case handed => rw [hknock]; exact congrArg Row.background hown
  case backgroundA => rw [hknock]; exact (learnBoth_background_get r w b.knock .A i).trans (if_pos rfl)
  case backgroundB => rw [hknock]; exact (learnBoth_background_get r w b.knock .B i).trans (if_pos rfl)
  case otherA => rw [hknock]; exact (learnBoth_background_get r w b.knock .A j).trans (if_neg hj)
  case otherB => rw [hknock]; exact (learnBoth_background_get r w b.knock .B j).trans (if_neg hj)
  case frame => rw [hseg]; exact fileWindow_seg_frame ..
  case unfiled =>
    rw [← startRecord_eq, hk] at hnone
    rw [hseg, fileWindow_unfiled (b := learnt) hnone]
  case filed =>
    rw [← startRecord_eq, hk] at hstart
    have hget (m : Fin 24) : b'.seg.ring.get m = if m = n then
        filePosition w.position (filedWindow v.knockClass v.ratio) (b.seg.ring.get n) else b.seg.ring.get m := by
      rw [hseg, fileWindow_filed (b := learnt) hstart]; exact fileInto_get ..
    intro old new
    have hnew : new = filePosition w.position (filedWindow v.knockClass v.ratio) old := (hget n).trans (if_pos rfl)
    refine ⟨by rw [hnew]; rfl, ?_, fun l hl => ?_, fun m hm => (hget m).trans (if_neg hm)⟩
    · rw [hnew]; exact (filePosition_get ..).trans (if_pos hk)
    · rw [hnew]; exact (filePosition_get ..).trans (if_neg fun h => hl (Fin.ext (h.trans hk.symm)))
  case knock => rw [hend]; exact finishWindow_placed (windowEvent_knock hc) ho hm hs
  case impact => rw [hend]; exact finishWindow_placed (windowEvent_impact hc) ho hm hs
  case silent => rw [hend]; exact finishWindow_evq_kept (windowEvent_none hc)

end Sys2Proof.Machine
end

section
/-! One sample, the class of a sensor part, and the verdict of a knock window (R113, R114, R118 to R123). -/

namespace Sys2Proof.Machine

/-- A signed number shifted right rounds down (R113, R122). -/
theorem fdiv_two_pow (a : Int) (n : Nat) : Int.fdiv a (2 ^ n : Nat) = a / (2 : Int) ^ n :=
  (Int.fdiv_eq_ediv_of_nonneg _ (Int.natCast_nonneg _)).trans (congrArg (a / ·) (Int.natCast_pow 2 n))

/-! ### A sample (R113, R114) -/

theorem biasAfter_eq_fdiv (n : Nat) (bias v : Int) :
    biasAfter n bias v = bias + Int.fdiv (v - bias) (2 ^ n : Nat) := by
  rw [fdiv_two_pow, biasAfter]

theorem integrate_eq (d : Nat) (p : SensorPart) :
    integrate d p =
      { accumulator := min (2 ^ 32 - 1) (p.accumulator + d)
        count := if p.count < 65535 then p.count + 1 else p.count, tainted := p.tainted } := rfl

section
variable {x : Sensor} {d : Nat} {w : KnockWindow}

theorem integrateInto_part_same : (integrateInto x d w).parts.get x = (w.parts.get x).map (integrate d) :=
  PerSensor.get_set_same ..

theorem integrateInto_part_ne {y : Sensor} (h : y ≠ x) : (integrateInto x d w).parts.get y = w.parts.get y :=
  PerSensor.get_set_ne h

end

section
variable {r : Reader} {x : Sensor} {v : Int} {k : Knock}

theorem takeSample_bias_same :
    (takeSample r x v k).bias.get x = biasAfter (fBiasShift r) (k.bias.get x) v :=
  PerSensor.get_set_same ..

theorem takeSample_bias_ne {y : Sensor} (h : y ≠ x) : (takeSample r x v k).bias.get y = k.bias.get y :=
  PerSensor.get_set_ne h

/-- A sample of a suspended sensor, or one with no window open, is not integrated. -/
theorem takeSample_openWin_kept (h : k.suspended.get x = true ∨ k.openWin = none) :
    (takeSample r x v k).openWin = k.openWin := by
  unfold takeSample
  rcases h with h | h
  · exact if_pos h
  · simp [h]

/-- A sample of an unsuspended sensor is integrated with its distance from the bias just updated. -/
theorem takeSample_openWin_integrated {w : KnockWindow} (hopen : k.openWin = some w)
    (hfree : k.suspended.get x = false) :
    (takeSample r x v k).openWin =
      some (integrateInto x (v - biasAfter (fBiasShift r) (k.bias.get x) v).natAbs w) := by
  unfold takeSample
  simp [hopen, hfree]

end

/-- Settles O33: the bias moves at every sample, and the open window integrates the distance from it after the move. -/
theorem sampleTaken : Obligations.SampleTaken := by
  intro r x v k bias after
  have hbias : biasAfter (fBiasShift r) (k.bias.get x) v = bias := biasAfter_eq_fdiv ..
  refine ⟨takeSample_bias_same.trans hbias, rfl, rfl, fun y hy => takeSample_bias_ne hy, takeSample_openWin_kept,
    fun win hopen hfree => ?_⟩
  have hafter : after.openWin = some (integrateInto x (v - bias).natAbs win) := by
    rw [← hbias]; exact takeSample_openWin_integrated hopen hfree
  refine ⟨_, hafter, rfl, rfl, rfl, fun y hy => integrateInto_part_ne hy, fun hnone => ?_, fun p hpart => ?_⟩
  · rw [integrateInto_part_same, hnone]; rfl
  · rw [integrateInto_part_same, hpart, Option.map_some, integrate_eq]

/-! ### The class of a sensor part (R118 to R122) -/

section
variable {r : Reader} {cut : Bool} {bg : Option Nat} {p : SensorPart}

theorem classPart_tainted (ht : p.tainted = true) : classPart r cut bg p = ⟨.invalid, none, 0, bg⟩ := if_pos ht

theorem classPart_cut (ht : p.tainted = false) (hc : cut = true) : classPart r cut bg p = ⟨.cut, none, 0, bg⟩ := by
  simp [classPart, ht, hc]

theorem classPart_short (ht : p.tainted = false) (hc : cut = false) (hn : p.count < fKnockMinSamples r) :
    classPart r cut bg p = ⟨.short, none, 0, bg⟩ := by
  simp [classPart, ht, hc, hn]

/-- A part that is untainted, uncut and long enough is judged by its intensity. -/
theorem classPart_judged (h : p.tainted = false ∧ cut = false ∧ fKnockMinSamples r ≤ p.count) :
    classPart r cut bg p = evaluatePart r (p.accumulator / p.count) bg := by
  obtain ⟨ht, hc, hn⟩ := h
  simp [classPart, ht, hc, Nat.not_lt.mpr hn]

end

section
variable {r : Reader} {i v : Nat} {bg : Option Nat}

theorem evaluatePart_impact (h : fImpactCeiling r ≤ i) : evaluatePart r i bg = ⟨.impact, none, i, bg⟩ := if_pos h

theorem evaluatePart_learn (h : i < fImpactCeiling r) :
    evaluatePart r i none = ⟨.learn, none, i, some (if i = 0 then 1 else i)⟩ := by
  have hseed : max 1 i = if i = 0 then 1 else i := by split <;> omega
  rw [← hseed]
  exact if_neg (Nat.not_le.mpr h)

theorem evaluatePart_rated (h : i < fImpactCeiling r) : evaluatePart r i (some v) = ratedPart r i v :=
  if_neg (Nat.not_le.mpr h)

theorem ratedPart_heavy (h : fHeavyThr r ≤ ratioOf i v) :
    ratedPart r i v = ⟨.heavy, some (ratioOf i v), i, some v⟩ := if_pos h

theorem ratedPart_knock (hh : ratioOf i v < fHeavyThr r) (hk : fKnockThr r ≤ ratioOf i v) :
    ratedPart r i v = ⟨.knock, some (ratioOf i v), i, some v⟩ := by
  simp [ratedPart, Nat.not_le.mpr hh, hk]

theorem ratedPart_quiet (hh : ratioOf i v < fHeavyThr r) (hk : ratioOf i v < fKnockThr r) :
    ratedPart r i v = ⟨.quiet, some (ratioOf i v), i, some (backgroundAfter (fBgShift r) i v)⟩ := by
  simp [ratedPart, Nat.not_le.mpr hh, Nat.not_le.mpr hk]

/-- Whatever the thresholds say, a rated part has its ratio and its intensity. -/
theorem ratedPart_ratio_intensity :
    (ratedPart r i v).ratio = some (ratioOf i v) ∧ (ratedPart r i v).intensity = i := by
  rcases Nat.lt_or_ge (ratioOf i v) (fHeavyThr r) with hh | hh
  · rcases Nat.lt_or_ge (ratioOf i v) (fKnockThr r) with hk | hk
    · rw [ratedPart_quiet hh hk]; exact ⟨rfl, rfl⟩
    · rw [ratedPart_knock hh hk]; exact ⟨rfl, rfl⟩
  · rw [ratedPart_heavy hh]; exact ⟨rfl, rfl⟩

theorem evaluatePart_intensity : (evaluatePart r i bg).intensity = i := by
  rcases Nat.lt_or_ge i (fImpactCeiling r) with hlow | hhigh
  · cases bg with
    | none => rw [evaluatePart_learn hlow]
    | some v => rw [evaluatePart_rated hlow]; exact ratedPart_ratio_intensity.2
  · rw [evaluatePart_impact hhigh]

end

/-- The background moves by the difference shifted right, and not below 1 (R122). -/
theorem backgroundAfter_eq_fdiv (n i bg : Nat) :
    backgroundAfter n i bg =
      if (bg : Int) + Int.fdiv ((i : Int) - bg) (2 ^ n : Nat) < 1 then 1
      else ((bg : Int) + Int.fdiv ((i : Int) - bg) (2 ^ n : Nat)).toNat := by
  rw [fdiv_two_pow, backgroundAfter]
  split <;> omega

/-! ### The verdict of a window (R123) -/

section
variable {a b : PartResult}

/-- Case 1, with both parts struck. -/
theorem combine_impact_both (ha : a.knockClass = .impact) (hb : b.knockClass = .impact) :
    combine (some a) (some b) = ⟨.impact, none, .both, max a.intensity b.intensity⟩ := by
  simp [combine, combineImpact, ha, hb]

/-- Case 1, with sensor A's part alone struck. -/
theorem combine_impact_left (ha : a.knockClass = .impact) (hb : b.knockClass ≠ .impact) :
    combine (some a) (some b) = verdictOf .a a := by
  simp [combine, combineImpact, ha, hb]

/-- Case 1, with sensor B's part alone struck. -/
theorem combine_impact_right (ha : a.knockClass ≠ .impact) (hb : b.knockClass = .impact) :
    combine (some a) (some b) = verdictOf .b b := by
  simp [combine, combineImpact, ha, hb]

/-- Cases 2 to 4: no part is struck. -/
theorem combine_no_impact (ha : a.knockClass ≠ .impact) (hb : b.knockClass ≠ .impact) :
    combine (some a) (some b) = combineRatios a b := if_neg (not_or.mpr ⟨ha, hb⟩)

/-- Case 2: both parts have a ratio. -/
theorem combineRatios_both {m n : Nat} (ha : a.ratio = some m) (hb : b.ratio = some n) :
    combineRatios a b = if m < n then verdictOf .b b else verdictOf .a a := by
  unfold combineRatios; rw [ha, hb]

/-- Case 3, with the ratio on sensor A. -/
theorem combineRatios_left {m : Nat} (ha : a.ratio = some m) (hb : b.ratio = none) :
    combineRatios a b = verdictOf .a a := by
  unfold combineRatios; rw [ha, hb]

/-- Case 3, with the ratio on sensor B. -/
theorem combineRatios_right {n : Nat} (ha : a.ratio = none) (hb : b.ratio = some n) :
    combineRatios a b = verdictOf .b b := by
  unfold combineRatios; rw [ha, hb]

/-- Case 4: neither part has a ratio. -/
theorem combineRatios_unrated (ha : a.ratio = none) (hb : b.ratio = none) :
    combineRatios a b =
      if unratedOrder a.knockClass < unratedOrder b.knockClass then verdictOf .b b else verdictOf .a a := by
  unfold combineRatios; rw [ha, hb]

theorem verdictOf_of_ratio {x : Deciding} {n : Option Nat} (h : a.ratio = n) :
    verdictOf x a = ⟨a.knockClass, n, x, a.intensity⟩ := by
  rw [verdictOf, h]

end

/-- The pairs of classes without a ratio whose second stands later in the order INVALID, CUT, SHORT, LEARN. -/
theorem unratedOrder_lt : ∀ q ∈ [(KnockClass.invalid, KnockClass.cut), (.invalid, .short), (.invalid, .learn),
    (.cut, .short), (.cut, .learn), (.short, .learn)], unratedOrder q.1 < unratedOrder q.2 := by decide

/-- The pairs of classes without a ratio whose first does not stand later. -/
theorem unratedOrder_le : ∀ q ∈ [(KnockClass.invalid, KnockClass.invalid), (.invalid, .cut), (.invalid, .short),
    (.invalid, .learn), (.cut, .cut), (.cut, .short), (.cut, .learn), (.short, .short), (.short, .learn),
    (.learn, .learn)], unratedOrder q.1 ≤ unratedOrder q.2 := by decide

/-- Settles O50: a part by the first test that applies, in R118's order and then by intensity and ratio; a window by the
first case of R123. -/
theorem knockPartsAndVerdict : Obligations.KnockPartsAndVerdict := by
  refine ⟨fun r cut bg p => ?part, fun a b => ?window⟩
  case part =>
    intro I res judged
    have hjudged (h : judged) : res = evaluatePart r I bg := classPart_judged h
    refine ⟨fun ht => ?tainted, fun ht hc => ?cut, fun ht hc hn => ?short, fun h => ?intensity, fun h hi => ?impact,
      fun h hi hbg => ?learn, fun v h hi hbg => ?rated⟩
    case tainted => simp [res, classPart_tainted ht]
    case cut => simp [res, classPart_cut ht hc]
    case short => simp [res, classPart_short ht hc hn]
    case intensity => rw [hjudged h, evaluatePart_intensity]
    case impact => simp [hjudged h, evaluatePart_impact hi]
    case learn => simp [hjudged h, hbg, evaluatePart_learn hi]
    case rated =>
      intro R moved
      have hres : res = ratedPart r I v := by rw [hjudged h, hbg, evaluatePart_rated hi]
      rw [hres, hbg]
      refine ⟨ratedPart_ratio_intensity.1, fun hh => ?heavy, fun hh hk => ?knock, fun hh hk => ?quiet⟩
      case heavy => rw [ratedPart_heavy hh]; exact ⟨rfl, rfl⟩
      case knock => rw [ratedPart_knock hh hk]; exact ⟨rfl, rfl⟩
      case quiet => rw [ratedPart_quiet hh hk, backgroundAfter_eq_fdiv]; exact ⟨rfl, rfl⟩
  case window =>
    refine ⟨rfl, rfl, rfl, combine_impact_both, fun ha hb hr => ?impactA, fun ha hb hr => ?impactB, fun ha hb => ?_⟩
    case impactA => rw [combine_impact_left ha hb, verdictOf_of_ratio hr, ha]
    case impactB => rw [combine_impact_right ha hb, verdictOf_of_ratio hr, hb]
    rw [combine_no_impact ha hb]
    refine ⟨fun x y hx hy hlt => ?larger, fun x y hx hy hle => ?notLarger, fun x hx hy => ?onlyA,
      fun y hx hy => ?onlyB, fun hx hy hq => ?later, fun hx hy hq => ?notLater⟩
    case larger => rw [combineRatios_both hx hy, if_pos hlt, verdictOf_of_ratio hy]
    case notLarger => rw [combineRatios_both hx hy, if_neg (Nat.not_lt.mpr hle), verdictOf_of_ratio hx]
    case onlyA => rw [combineRatios_left hx hy, verdictOf_of_ratio hx]
    case onlyB => rw [combineRatios_right hx hy, verdictOf_of_ratio hy]
    case later => rw [combineRatios_unrated hx hy, if_pos (unratedOrder_lt _ hq), verdictOf_of_ratio hy]
    case notLater =>
      rw [combineRatios_unrated hx hy, if_neg (Nat.not_lt.mpr (unratedOrder_le _ hq)), verdictOf_of_ratio hx]

end Sys2Proof.Machine
end

section
/-! The header's internal copy and the owners of its fields: what every change of the blocks keeps (R133, R135). -/

namespace Sys2Proof.Machine

/-! ### Fields of the header -/

/-- The fields of the header that have an owner outside RATE (R133). -/
inductive HeaderField where
  | op
  | sync
  | cycle
  | rpm
  | cut
  | load
  | surface
  | flags
  | producer
  | freeze

/-- Two headers hold the same in a field. -/
def HeaderField.same : HeaderField → Header → Header → Prop
  | .op, h, k => h.op = k.op
  | .sync, h, k => h.sync = k.sync
  | .cycle, h, k => h.cycle = k.cycle
  | .rpm, h, k => h.rpm = k.rpm
  | .cut, h, k => h.cut = k.cut
  | .load, h, k => h.load = k.load
  | .surface, h, k => h.surface = k.surface
  | .flags, h, k => h.flags = k.flags
  | .producer, h, k => h.producer = k.producer
  | .freeze, h, k => h.freeze = k.freeze

/-- No owner holds the header's sequence. -/
theorem HeaderField.same_seq (F : HeaderField) (h k : Header) (n : BitVec 16) :
    F.same { h with seq := n } k ↔ F.same h k := by
  cases F <;> exact Iff.rfl

/-- The header as the owners of its fields hold them, LOADER the operating state `o`. -/
def ownersHeader (o : OpState) (b : Blocks) : Header :=
  { seq := 0, op := o, sync := b.crank.sync, cycle := b.crank.cycle, rpm := b.seg.rpm, cut := b.tap.cut,
    load := b.tap.load, surface := b.tap.surface, flags := b.tap.flags, producer := b.evq.producer,
    freeze := b.frz.state }

/-- The header shows what the owners hold, but for a field whose owner has changed it and not told RATE yet. -/
def shownBut (o : OpState) (stale : Option HeaderField) (b : Blocks) : Prop :=
  ∀ F, stale ≠ some F → F.same b.rate.header (ownersHeader o b)

section
variable {o : OpState} {x : Option HeaderField} {e : Env} {b c : Blocks}

theorem shownBut.all (h : shownBut o none b) (F : HeaderField) : F.same b.rate.header (ownersHeader o b) := h F nofun

theorem shownBut.other {G : HeaderField} (h : shownBut o (some G) b) (F : HeaderField) (hF : F ≠ G) :
    F.same b.rate.header (ownersHeader o b) := h F fun e => hF (Option.some.inj e).symm

theorem headerShows_iff (s : State) : headerShows s ↔ shownBut s.loader.op none s.blocks := by
  constructor
  · rintro ⟨hop, hsync, hcycle, hrpm, hcut, hload, hsurface, hflags, hproducer, hfreeze⟩ F _
    cases F <;> assumption
  · intro h
    exact ⟨h.all .op, h.all .sync, h.all .cycle, h.all .rpm, h.all .cut, h.all .load, h.all .surface, h.all .flags,
      h.all .producer, h.all .freeze⟩

/-- A change that leaves the header and what the owners hold. -/
theorem shownBut.of_same (h : shownBut o x b) (hh : c.rate.header = b.rate.header)
    (ho : ownersHeader o c = ownersHeader o b) : shownBut o x c := by
  unfold shownBut; rw [hh, ho]; exact h

/-- A header update shows of each field what its function gives (R135). -/
theorem tellHeader_shown {f : Header → Header}
    (h : ∀ F, x ≠ some F → F.same (f b.rate.header) (ownersHeader o b)) : shownBut o x (tellHeader e f b) := by
  intro F hF
  have ho : ownersHeader o (tellHeader e f b) = ownersHeader o b := by simp [ownersHeader]
  rw [ho]
  unfold tellHeader; split
  · next hf => rw [← hf]; exact h F hF
  · rw [requestMirror_rate]; exact (F.same_seq _ _ _).mpr (h F hF)

theorem updateRow_shown {n : Nat} {f : Row → Row} (h : shownBut o x b) : shownBut o x (updateRow e n f b) :=
  h.of_same (by simp) (by simp [ownersHeader])

/-! ### Flags, events and the freeze state -/

theorem setFlag_shown {f : Flag} (h : shownBut o x b) : shownBut o x (setFlag e f b) := by
  unfold setFlag; split
  · exact h
  · refine tellHeader_shown fun F hF => ?_
    cases F with
    | flags => rfl
    | _ => exact h _ hF

theorem clearFlag_shown {f : Flag} (h : shownBut o x b) : shownBut o x (clearFlag e f b) := by
  unfold clearFlag; split
  · refine tellHeader_shown fun F hF => ?_
    cases F with
    | flags => rfl
    | _ => exact h _ hF
  · exact h

theorem clearFlagsOf_shown {m : Word} {fs : List Flag} (h : shownBut o x b) :
    shownBut o x (clearFlagsOf e m fs b) := by
  induction fs generalizing b with
  | nil => exact h
  | cons f fs ih =>
    refine ih ?_
    split
    · exact clearFlag_shown h
    · exact h

theorem takeEvent_shown {ev : Event} (h : shownBut o x b) : shownBut o x (takeEvent e ev b) := by
  unfold takeEvent; split
  · split
    · refine tellHeader_shown fun F hF => ?_
      cases F with
      | producer => rfl
      | _ => exact h _ hF
    · exact setFlag_shown h
  · exact h

theorem setFreezeState_shown {st : FreezeState} (h : shownBut o x b) : shownBut o x (setFreezeState e st b) := by
  refine tellHeader_shown fun F hF => ?_
  cases F with
  | freeze => rfl
  | _ => exact h _ hF

theorem writeOut_shown (h : shownBut o x b) : shownBut o x (writeOut e b) := setFreezeState_shown h

theorem trigger_shown {k : TriggerKind} {n : Option Nat} (h : shownBut o x b) : shownBut o x (trigger e k n b) := by
  have hc : shownBut o x (startCollection e k n b) := by
    unfold startCollection; dsimp only; split
    · exact writeOut_shown (setFreezeState_shown h)
    · exact setFreezeState_shown h
  unfold trigger; split
  · exact h
  · split
    · exact hc
    · exact h
  all_goals exact h

theorem raise_shown {ev : Event} (h : shownBut o x b) : shownBut o x (raise e ev b) := by
  unfold raise; split
  · unfold offerEvent; split
    · exact trigger_shown (takeEvent_shown h)
    · exact takeEvent_shown h
  · exact h

theorem raiseIf_shown {p : Bool} {ev : Event} (h : shownBut o x b) : shownBut o x (raiseIf e p ev b) := by
  unfold raiseIf; split
  · exact raise_shown h
  · exact h

theorem raiseOption_shown {ev : Option Event} (h : shownBut o x b) : shownBut o x (raiseOption e ev b) := by
  unfold raiseOption; split
  · exact raise_shown h
  · exact h

theorem finalNotice_shown {r : CycleRecord} (h : shownBut o x b) : shownBut o x (finalNotice e r b) := by
  unfold finalNotice; split
  · split
    · dsimp only; split
      · exact writeOut_shown h
      · exact h
    · exact h
  · exact h

theorem frzLoss_shown (h : shownBut o x b) : shownBut o x (frzLoss e b) := by
  unfold frzLoss; split
  · exact writeOut_shown h
  · exact h

theorem frzStop_shown (h : shownBut o x b) : shownBut o x (frzStop e b) := by
  unfold frzStop; split
  · exact setFreezeState_shown h
  · exact h

theorem modeWrite_shown {m : FreezeMode} (h : shownBut o x b) : shownBut o x (modeWrite e m b) := by
  unfold modeWrite; dsimp only; split
  · split
    · exact h
    · exact setFreezeState_shown h
  · split
    · exact setFreezeState_shown h
    · exact h
  · split
    · exact setFreezeState_shown h
    · exact h
  all_goals exact h

/-! ### The history ring -/

theorem finaliseClosed_shown {keep : Option (Fin 24)} {is : List (Fin 24)} (h : shownBut o x b) :
    shownBut o x (finaliseClosed e keep is b) := by
  induction is generalizing b with
  | nil => exact h
  | cons i is ih =>
    refine ih ?_
    split
    · exact finalNotice_shown h
    · exact h

theorem fileSegment_shown {r : Option (Fin 24)} {m : Measures} {k : SegClass} (h : shownBut o x b) :
    shownBut o x (fileSegment e r m k b) := by
  unfold fileSegment; split
  · exact h
  · dsimp only; split
    · exact finaliseClosed_shown h
    · exact h

theorem lossNotices_shown (h : shownBut o x b) : shownBut o x (lossNotices e b) := by
  have hs : shownBut o x (segLoss e b) := finaliseClosed_shown h
  exact frzLoss_shown (hs.of_same (by rw [dropWindow_rate]) (by simp [ownersHeader]))

/-! ### The engine speed (R84, R137) -/

/-- SEG tells RATE of the engine speed with the segment result. -/
theorem takeSegmentResult_shown {res : SegmentResult} (hr : res.rpm = b.seg.rpm) (h : shownBut o (some .rpm) b) :
    shownBut o none (takeSegmentResult e res b) := by
  have hu := updateRow_shown (e := e) (n := res.cylinder) (f := segmentRow res) h
  have hrpm : (updateRow e res.cylinder (segmentRow res) b).seg.rpm = res.rpm := by rw [updateRow_seg, hr]
  refine tellHeader_shown fun F _ => ?_
  have hF := hu.other F
  cases F with
  | rpm => exact hrpm.symm
  | _ => exact hF nofun

theorem segEnd_shown {t : Stamp} (h : shownBut o none b) : shownBut o none (segEnd e t b) := by
  unfold segEnd; split
  · exact h
  · next s _ =>
    dsimp only
    generalize measure e s t b = m
    generalize classify e.reader b.seg.warmup b.seg.holdoff m = k
    have hm : shownBut o (some .rpm) { b with seg := segMeasured e.reader m k b.seg } := by
      intro F hF
      have hb := h.all F
      cases F with
      | rpm => exact absurd rfl hF
      | _ => exact hb
    have hf := fileSegment_shown (e := e) (r := s.record) (m := m) (k := k) hm
    have hr : (segmentResult e m k).rpm =
        (fileSegment e s.record m k { b with seg := segMeasured e.reader m k b.seg }).seg.rpm := by
      rw [fileSegment_seg]; rfl
    have hres : shownBut o none _ := takeSegmentResult_shown (e := e) hr hf
    exact raiseIf_shown hres

/-! ### Rating windows and the cycle number (R71, R136, R143) -/

theorem closeCylinders_shown {t : Stamp} {cs : List Nat} (h : shownBut o x b) :
    shownBut o x (closeCylinders e t cs b) := by
  induction cs generalizing b with
  | nil => exact h
  | cons c cs ih => exact ih (raiseIf_shown (raiseIf_shown (updateRow_shown h)))

/-- RATE hears of a new cycle number with the cycle start. -/
theorem rateCycleStart_shown {t : Stamp} (h : shownBut o (some .cycle) b) :
    shownBut o none (rateCycleStart e t b) := by
  have ht : shownBut o none (tellHeader e (fun k => { k with cycle := b.crank.cycle }) b) := by
    refine tellHeader_shown fun F _ => ?_
    have hF := h.other F
    cases F with
    | cycle => rfl
    | _ => exact hF nofun
  unfold rateCycleStart; dsimp only; split
  · exact ht
  · have hc : shownBut o none (closeCylinders e t (List.range' 1 (fNcyl e.reader)) _) := closeCylinders_shown ht
    exact hc

theorem cycleStart_shown {t : Stamp} (h : shownBut o none b) : shownBut o none (cycleStart e t b) := by
  refine rateCycleStart_shown fun F hF => ?_
  have hb := h.all F
  cases F with
  | cycle => exact absurd rfl hF
  | _ => exact hb

/-! ### KNOCK -/

theorem knockClose_shown {t : Stamp} (h : shownBut o x b) : shownBut o x (knockClose e t b) := by
  unfold knockClose; split
  · exact h
  · next w _ =>
    have hf : ∀ v, shownBut o x (fileWindow w.position v { b with knock := learnBoth e.reader w b.knock }) := by
      intro v; unfold fileWindow; split <;> exact h
    have hr := fun res v => updateRow_shown (e := e) (n := w.cylinder) (f := windowRow res) (hf v)
    exact raiseOption_shown (hr _ _)

/-! ### The sync state (R57) -/

/-- CRANK changes its own state, but neither the sync state nor the cycle number. -/
theorem setCrank_shown {k : Crank} (hs : k.sync = b.crank.sync) (hc : k.cycle = b.crank.cycle)
    (h : shownBut o x b) : shownBut o x (setCrank k b) :=
  h.of_same rfl (by simp [ownersHeader, setCrank, hs, hc])

/-- CRANK has moved to another sync state, and RATE is still to be told. -/
theorem setCrank_unsaid {k : Crank} (hc : k.cycle = b.crank.cycle) (h : shownBut o none b) :
    shownBut o (some .sync) (setCrank k b) := by
  intro F hF
  have hb := h.all F
  cases F with
  | sync => exact absurd rfl hF
  | cycle => exact hb.trans hc.symm
  | _ => exact hb

theorem tellSync_shown (h : shownBut o (some .sync) b) : shownBut o none (tellSync e b) := by
  refine tellHeader_shown fun F _ => ?_
  have hF := h.other F
  cases F with
  | sync => rfl
  | _ => exact hF nofun

theorem moveCrank_shown {k : Crank} (hc : k.cycle = b.crank.cycle) (h : shownBut o none b) :
    shownBut o none (moveCrank e k b) := tellSync_shown (setCrank_unsaid hc h)

/-- The notices and the event of a loss fall between CRANK's move and RATE's hearing of it (R72). -/
theorem loseTo_shown {k : Crank} {ev : Event} (hc : k.cycle = b.crank.cycle) (h : shownBut o none b) :
    shownBut o none (loseTo e k ev b) := by
  unfold loseTo; split
  · exact tellSync_shown (raise_shown (lossNotices_shown (setCrank_unsaid hc h)))
  · exact moveCrank_shown hc h

theorem lossOfSync_shown {r : LossReason} {u : Option Stamp} {n : Nat} {t : Stamp} (h : shownBut o none b) :
    shownBut o none (lossOfSync e r u n t b) := loseTo_shown rfl h

theorem stallExpiry_shown (h : shownBut o none b) : shownBut o none (stallExpiry e b) := loseTo_shown rfl h

theorem phaseLoss_shown {t : Stamp} (h : shownBut o none b) : shownBut o none (phaseLoss e t b) := by
  have hu : shownBut o (some .sync) (setCrank (crankUnphased e.reader b.crank) b) := setCrank_unsaid rfl h
  exact tellSync_shown (raise_shown (lossNotices_shown hu))

theorem enterPhased_shown {t : Stamp} (h : shownBut o none b) : shownBut o none (enterPhased e t b) := by
  have hu : shownBut o (some .sync) (setCrank (crankPhased b.crank) b) := setCrank_unsaid rfl h
  have hs : shownBut o (some .sync) { setCrank (crankPhased b.crank) b with seg := segPhased b.seg } := hu
  exact tellSync_shown (raise_shown hs)

/-! ### CRANK -/

theorem glitchTooth_shown {t : Stamp} (h : shownBut o none b) : shownBut o none (glitchTooth e t b) := by
  unfold glitchTooth; split
  · exact lossOfSync_shown h
  · exact setCrank_shown rfl rfl h

theorem countUnphased_shown {t : Stamp} (h : shownBut o x b) : shownBut o x (countUnphased e t b) := by
  unfold countUnphased; dsimp only; split
  · exact raise_shown (setCrank_shown rfl rfl h)
  · exact setCrank_shown rfl rfl h

theorem spanMissing_shown {t : Stamp} (h : shownBut o x b) : shownBut o x (spanMissing e t b) := by
  unfold spanMissing; split
  · exact raise_shown (setCrank_shown rfl rfl h)
  · exact h

theorem spanAt_shown {t : Stamp} (h : shownBut o none b) : shownBut o none (spanAt e t b) := by
  have hm := spanMissing_shown (e := e) (t := t) h
  unfold spanAt; split
  · unfold judgeSpan closeSpan; split
    · exact phaseLoss_shown (setCrank_shown rfl rfl hm)
    · exact setCrank_shown rfl rfl hm
  · exact h

theorem handOn_shown {p : Nat} {t : Stamp} (h : shownBut o none b) : shownBut o none (handOn e p t b) := by
  have h1 := atPosition_keeps (o := positionAt e.reader segmentBoundary p) (f := fun _ => segEnd e t)
    (fun _ => segEnd_shown h) h
  have h2 := atPosition_keeps (o := positionAt e.reader windowClose p) (f := fun _ => knockClose e t)
    (fun _ => knockClose_shown h1) h1
  unfold handOn; dsimp only
  generalize atPosition (positionAt e.reader windowClose p) _ _ = b2 at h2
  have h3 : shownBut o none (if positionAt e.reader segmentBoundary p = some 0 then cycleStart e t b2 else b2) := by
    split
    · exact cycleStart_shown h2
    · exact h2
  have h4 := atPosition_keeps (o := positionAt e.reader segmentBoundary p) (f := fun k => segStart e k t)
    (fun _ => h3) h3
  exact atPosition_keeps (f := fun j => knockOpen e j) (fun _ => h4) h4

theorem toothHunt_shown {t : Stamp} {p : Nat} (hs : b.crank.sync = .hunt) (h : shownBut o none b) :
    shownBut o none (toothHunt e t p b) := by
  unfold toothHunt; split
  · exact setCrank_shown rfl rfl h
  · exact moveCrank_shown rfl h
  · exact setCrank_shown hs.symm rfl h
  · exact glitchTooth_shown h

theorem confirmRevolution_cycle (r : Reader) (c : Crank) : (confirmRevolution r c).cycle = c.cycle := by
  unfold confirmRevolution; split <;> rfl

theorem toothVerify_shown {t : Stamp} {p : Nat} (h : shownBut o none b) : shownBut o none (toothVerify e t p b) := by
  unfold toothVerify; split
  · split
    · exact setCrank_shown rfl rfl h
    · exact moveCrank_shown rfl h
  · split
    · exact moveCrank_shown (confirmRevolution_cycle _ _) h
    · exact moveCrank_shown rfl h
  · exact moveCrank_shown rfl h
  · exact glitchTooth_shown h

theorem toothCrankSync_shown {t : Stamp} {p : Nat} (h : shownBut o none b) :
    shownBut o none (toothCrankSync e t p b) := by
  unfold toothCrankSync; split
  · split
    · exact setCrank_shown rfl rfl h
    · exact lossOfSync_shown h
  · split
    · exact countUnphased_shown (setCrank_shown rfl rfl h)
    · exact lossOfSync_shown h
  · exact lossOfSync_shown h
  · exact glitchTooth_shown h

theorem toothPhased_shown {t : Stamp} {p : Nat} (h : shownBut o none b) : shownBut o none (toothPhased e t p b) := by
  unfold toothPhased; split
  · split
    · exact lossOfSync_shown h
    · exact handOn_shown (setCrank_shown rfl rfl h)
  · split
    · unfold handOnIfPhased; split
      · exact handOn_shown (spanAt_shown (setCrank_shown rfl rfl h))
      · exact spanAt_shown (setCrank_shown rfl rfl h)
    · exact lossOfSync_shown h
  · exact lossOfSync_shown h
  · exact glitchTooth_shown h

theorem tooth_shown {t : Stamp} (h : shownBut o none b) : shownBut o none (tooth e t b) := by
  unfold tooth; split
  · unfold toothFirst; split
    · exact moveCrank_shown rfl h
    · exact setCrank_shown rfl rfl h
  · split
    · unfold toothWide; split
      · exact moveCrank_shown rfl h
      · exact setCrank_shown rfl rfl h
      · exact moveCrank_shown rfl h
      · exact lossOfSync_shown h
      · exact lossOfSync_shown h
    · unfold toothPeriod; split
      · exact moveCrank_shown rfl h
      · next hs => exact toothHunt_shown hs h
      · exact toothVerify_shown h
      · exact toothCrankSync_shown h
      · exact toothPhased_shown h

theorem camEdge_shown {k : ToothKind} {t : Stamp} (h : shownBut o none b) : shownBut o none (camEdge e k t b) := by
  unfold camEdge; dsimp only; split
  · split
    · exact h
    · exact h
    · exact h
    · exact enterPhased_shown h
    · split
      · unfold edgeRev0; dsimp only; split
        · exact raise_shown (setCrank_shown rfl rfl h)
        · exact setCrank_shown rfl rfl h
      · exact raise_shown (setCrank_shown rfl rfl h)
  · exact h

theorem takeRecord_shown {r : ToothRecord} (h : shownBut o none b) : shownBut o none (takeRecord e r b) := by
  have hn : shownBut o none (takeNote e r b) := by
    unfold takeNote; split
    · exact h
    · exact h
    · exact lossOfSync_shown h
    · exact lossOfSync_shown h
  unfold takeRecord takeKind; split
  · exact tooth_shown (setCrank_shown rfl rfl hn)
  · exact camEdge_shown hn
  · exact camEdge_shown hn

theorem takeHead_shown (h : shownBut o none b) : shownBut o none (takeHead e b) := by
  unfold takeHead; split
  · exact h
  · split
    · exact takeRecord_shown h
    · exact h

theorem expireStall_shown (h : shownBut o none b) : shownBut o none (expireStall e b) := by
  unfold expireStall; split
  · exact h
  · exact stallExpiry_shown h

theorem stallTick_shown (h : shownBut o none b) : shownBut o none (stallTick e b) := by
  unfold stallTick; split
  · exact h
  · split
    · exact stallExpiry_shown h
    · exact setCrank_shown rfl rfl h

/-! ### TAP -/

theorem streamFault_shown {f : StreamFaultKind} {v w : Word} (h : shownBut o x b) :
    shownBut o x (streamFault e f v w b) := by
  unfold streamFault; split
  · exact h
  · exact raise_shown (setFlag_shown h)

theorem takeTooth_shown {a : Access} {d : Word} (h : shownBut o x b) : shownBut o x (takeTooth e a d b) := by
  have hp : shownBut o x (toothPosition e (toothSlot e a) b) := by
    unfold toothPosition; split
    · exact streamFault_shown h
    · exact h
  unfold takeTooth; dsimp only; split
  · unfold toothContent; split
    · unfold toothRoom; split
      · exact hp
      · exact streamFault_shown hp
    · exact streamFault_shown hp
  · exact streamFault_shown hp

theorem takeKnock_shown {y : Sensor} {a : Access} {d : Word} (h : shownBut o x b) :
    shownBut o x (takeKnock e y a d b) := by
  have hp : ∀ n w, shownBut o x (knockPosition e y n w b) := by
    intro n w; unfold knockPosition; split
    · exact streamFault_shown h
    · exact h
  unfold takeKnock knockSize; dsimp only; split
  · exact hp _ _
  · exact hp _ _
  · exact streamFault_shown (hp _ _)

/-- TAP tells RATE of the whole marker context when a marker changes one field of it (R49). -/
theorem tellContext_shown {k : Tap} (hf : k.flags = b.tap.flags) (h : shownBut o x b) :
    shownBut o x (tellContext e { b with tap := k }) := by
  refine tellHeader_shown fun F hF => ?_
  cases F with
  | cut | load | surface => rfl
  | flags => exact (h .flags hF).trans hf.symm
  | _ => exact h _ hF

theorem takeMarkerKind_shown {k : MarkerKind} {v : Nat} (h : shownBut o none b) :
    shownBut o none (takeMarkerKind e k v b) := by
  cases k with
  | ignCut | load | surface => exact tellContext_shown rfl h
  | syncReset =>
    show shownBut o none (syncResetRequest e b)
    unfold syncResetRequest; split
    · exact h
    · exact lossOfSync_shown h
  | freeze => exact trigger_shown h

theorem takeMarker_shown {a : Access} {d : Word} (h : shownBut o none b) : shownBut o none (takeMarker e a d b) := by
  unfold takeMarker; split
  · unfold markerContent markerFault; split
    · split
      · exact takeMarkerKind_shown h
      · exact streamFault_shown h
    · exact streamFault_shown h
  · exact streamFault_shown h

/-! ### LOADER -/

/-- LOADER tells RATE of a change of the operating state (R135). -/
theorem announceOp_shown (h : shownBut o none b) : shownBut e.op none (announceOp e b) := by
  have ht : shownBut e.op none (tellOp e (request .loadStatus b)) := by
    refine tellHeader_shown fun F hF => ?_
    cases F with
    | op => rfl
    | _ => exact h _ hF
  exact ht

theorem stopBlocks_shown (h : shownBut o none b) : shownBut o none (stopBlocks e b) := by
  have ht : shownBut o none (tapStop b) := h
  have hc : shownBut o none (crankStop e (tapStop b)) := moveCrank_shown rfl ht
  exact frzStop_shown hc

theorem refuseSetup_shown {r : Bool} {off : Nat} (h : shownBut o x b) : shownBut o x (refuseSetup r off e b) := by
  unfold refuseSetup; split
  · exact h
  · exact raise_shown (setFlag_shown h)

theorem tunableChanged_shown {off : Nat} (h : shownBut o x b) : shownBut o x (tunableChanged off e b) := by
  unfold tunableChanged; split
  · exact h
  · split
    · exact modeWrite_shown h
    · exact h

/-- The START values of the header are those of the other blocks, in LOADING (R148). -/
theorem startBlocks_shown (r : Reader) (b : Blocks) : shownBut .loading none (startBlocks r b) := by
  intro F _; cases F <;> rfl

theorem blocksReset_shown : shownBut Loader.reset.op none Blocks.reset := by
  intro F _; cases F <;> rfl

end

/-! ### Changes of a state -/

/-- The header of a state shows what its owners hold. -/
def headerTrue (s : State) : Prop := shownBut s.loader.op none s.blocks

theorem takeCommand_headerTrue (v : Word) {s : State} (h : headerTrue s) : headerTrue (takeCommand v s) := by
  have hc : shownBut s.loader.op none (commandRequests s.blocks) := h
  rcases takeCommand_cases v s with e | ⟨_, e⟩ | ⟨_, e⟩ | ⟨_, e⟩ <;> rw [e]
  · exact h
  · exact hc
  · exact announceOp_shown hc
  · exact stopBlocks_shown (announceOp_shown hc)

theorem takeSetup_headerTrue (off : Nat) (l : Lanes) (d : Word) {s : State} (h : headerTrue s) :
    headerTrue (takeSetup off l d s) := by
  unfold takeSetup; dsimp only; split
  · exact h
  · exact tunableChanged_shown h

/-- A load succeeds from LOADING, whose name the START values of the header hold. -/
theorem loaderRead_headerTrue (d : Word) {s : State} (ho : s.loader.op = .loading) (h : headerTrue s) :
    headerTrue (loaderRead d s) := by
  rcases loaderRead_cases d s with e | ⟨_, _, e⟩ | ⟨_, e⟩ <;> rw [e]
  · exact h
  · exact announceOp_shown h
  · have hop : (loadSucceeded { s with loader := loaderAfterRead d s.loader }).loader.op = .loading := ho
    unfold headerTrue; rw [hop, loadSucceeded_blocks]
    exact startBlocks_shown _ s.blocks

theorem checkStopped_headerTrue {s : State} (h : headerTrue s) : headerTrue (checkStopped s) := by
  rcases checkStopped_cases s with e | ⟨_, _, _, e⟩ <;> rw [e]
  · exact h
  · exact announceOp_shown h

theorem makerTold_headerTrue (r : Request) {s : State} (h : headerTrue s) : headerTrue (makerTold r s) := by
  rcases makerTold_cases r s with e | ⟨_, e⟩ | ⟨_, _, e⟩ <;> rw [e]
  · exact h
  · exact h
  · exact announceOp_shown h

theorem headDone_headerTrue {s : State} (h : headerTrue s) : headerTrue (headDone s) := by
  rcases headDone_cases s with e | ⟨r, rest, _, e⟩ <;> rw [e]
  · exact h
  · have hr : headerTrue (headRemoved s rest) := h
    exact checkStopped_headerTrue (makerTold_headerTrue r hr)

theorem frameWordDone_headerTrue {s : State} (h : headerTrue s) : headerTrue (frameWordDone s) := by
  unfold frameWordDone; split
  · exact h
  · have hf : headerTrue (onBlocks frameHeld s) := setFreezeState_shown h
    exact raise_shown (checkStopped_headerTrue hf)
  · exact h

/-- A grant to the report writer or the freeze writer changes none of the blocks but the report writer's list. -/
theorem headerTrue_granted {s t : State} (g : Granted s t) (h : headerTrue s) : headerTrue t := by
  obtain ⟨htap, hcrank, hseg, _, hrate, hevq, hfrz⟩ := g.blocks
  unfold headerTrue; rw [g.loader]
  exact shownBut.of_same h (by rw [hrate]) (by simp only [ownersHeader, htap, hcrank, hseg, hevq, hfrz])

/-! ### The invariant -/

/-- The header is true, and a read of LOADER in progress belongs to a load that is READING: a load succeeds in LOADING
alone. -/
structure HeaderKept (s : State) : Prop where
  reads : LoadGoverned False s
  header : headerTrue s

theorem headerKept_kept : Kept HeaderKept where
  bus s b h := ⟨loadGoverned_kept.bus s b h.reads, h.header⟩
  hold s a h := ⟨loadGoverned_kept.hold s a h.reads, h.header⟩
  endAccess s a how d h := ⟨loadGoverned_kept.endAccess s a how d h.reads, h.header⟩
  snapshot s x h := ⟨loadGoverned_kept.snapshot s x h.reads, h.header⟩
  patience s h := ⟨loadGoverned_kept.patience s h.reads, h.header⟩
  grantSystem s w a hp hw h := ⟨loadGoverned_kept.grantSystem s w a hp hw h.reads, h.header⟩
  grantReport s hp hr h :=
    ⟨loadGoverned_kept.grantReport s hp hr h.reads, headerTrue_granted (grantTo_kept s .report) h.header⟩
  grantLoader s hp hr hc h := ⟨loadGoverned_kept.grantLoader s hp hr hc h.reads, h.header⟩
  grantFreeze s hp hr h :=
    ⟨loadGoverned_kept.grantFreeze s hp hr h.reads, headerTrue_granted (grantTo_kept s .freeze) h.header⟩
  command s d h := ⟨loadGoverned_kept.command s d h.reads, takeCommand_headerTrue d h.header⟩
  setup s off l d ht h := ⟨loadGoverned_kept.setup s off l d ht h.reads, takeSetup_headerTrue off l d h.header⟩
  tooth s a d ho h := ⟨loadGoverned_kept.tooth s a d ho h.reads, takeTooth_shown h.header⟩
  knock s x a d ho h := ⟨loadGoverned_kept.knock s x a d ho h.reads, takeKnock_shown h.header⟩
  marker s a d ho h := ⟨loadGoverned_kept.marker s a d ho h.reads, takeMarker_shown h.header⟩
  slotRelease s i k hk h := ⟨loadGoverned_kept.slotRelease s i k hk h.reads, h.header⟩
  frameRelease s hf h := ⟨loadGoverned_kept.frameRelease s hf h.reads, setFreezeState_shown h.header⟩
  protect s h := ⟨loadGoverned_kept.protect s h.reads, setFlag_shown h.header⟩
  refuseSetup s r off h := ⟨loadGoverned_kept.refuseSetup s r off h.reads, refuseSetup_shown h.header⟩
  flagClear s m h := ⟨loadGoverned_kept.flagClear s m h.reads, clearFlagsOf_shown h.header⟩
  freePort s h := ⟨loadGoverned_kept.freePort s h.reads, h.header⟩
  loaderRead s u hu hl hlive h := by
    obtain ⟨_, ho, _⟩ := h.reads.reads u hu hl hlive
    exact ⟨loadGoverned_kept.loaderRead s u hu hl hlive h.reads,
      loaderRead_headerTrue _ (s := Machine.freePort s) ho h.header⟩
  headDone s h := ⟨loadGoverned_kept.headDone s h.reads, headDone_headerTrue h.header⟩
  frameWordDone s h := ⟨loadGoverned_kept.frameWordDone s h.reads, frameWordDone_headerTrue h.header⟩
  takeHead s h := ⟨loadGoverned_kept.takeHead s h.reads, takeHead_shown h.header⟩
  expireStall s h := ⟨loadGoverned_kept.expireStall s h.reads, expireStall_shown h.header⟩
  stallTick s h := ⟨loadGoverned_kept.stallTick s h.reads, stallTick_shown h.header⟩
  assertReset s h := ⟨loadGoverned_kept.assertReset s h.reads, h.header⟩
  releaseReset s sel auto hr h := ⟨loadGoverned_kept.releaseReset s sel auto hr h.reads, blocksReset_shown⟩
  autoStart s hl h := ⟨loadGoverned_kept.autoStart s hl h.reads, announceOp_shown h.header⟩
  pending s l h := ⟨loadGoverned_kept.pending s l h.reads, h.header⟩

/-- Settles O59: each owner tells RATE of a field it has changed before the command ends; what happens in between, as
the notices of a loss between CRANK's move and RATE's hearing of it, leaves that field stale alone. -/
theorem headerShowsOwners : Obligations.HeaderShowsOwners := fun s t hr hh ht =>
  (headerShows_iff t).mpr
    (headerKept_kept.step ⟨⟨hr, False.elim⟩, (headerShows_iff s).mp hh⟩ ht).header

end Sys2Proof.Machine
end

section
/-! The close of a rating window: the levels and rates of a row, the moves of its two states, and the order in which the
cylinders close and raise their events (R136, R139 to R144). -/

namespace Sys2Proof.Machine

/-! ### Levels and rates (R139, R140) -/

section
variable {r : Reader} {wcur : Nat} {row : Row}

theorem misfireLevelOf_few (h : row.evaluated < wcur / 2) : misfireLevelOf r wcur row = (.none, none) := if_pos h

theorem misfireLevelOf_enough (h : wcur / 2 ≤ row.evaluated) :
    misfireLevelOf r wcur row =
      (if row.misfires * 1000 / row.evaluated < fSuspectLimit r then .low
        else if row.misfires * 1000 / row.evaluated < fFaultLimit r then .mid else .high,
       some (row.misfires * 1000 / row.evaluated)) := by
  unfold misfireLevelOf; rw [if_neg (Nat.not_lt.mpr h)]; dsimp only
  split
  · rfl
  · split <;> rfl

theorem knockLevelOf_few (h : row.knockEvaluated < wcur / 2) : knockLevelOf r wcur row = (.none, none, none) :=
  if_pos h

theorem knockLevelOf_enough (h : wcur / 2 ≤ row.knockEvaluated) :
    knockLevelOf r wcur row =
      (if fHeavyRate r ≤ row.heavyCount * 1000 / row.knockEvaluated then .heavy
        else if fLightRate r ≤ (row.knockCount + row.heavyCount) * 1000 / row.knockEvaluated then .light else .normal,
       some ((row.knockCount + row.heavyCount) * 1000 / row.knockEvaluated),
       some (row.heavyCount * 1000 / row.knockEvaluated)) := by
  unfold knockLevelOf; rw [if_neg (Nat.not_lt.mpr h)]; dsimp only
  split
  · rfl
  · split <;> rfl

end

/-! ### A row at a close (R143) -/

theorem closeRow_misfire (r : Reader) (wcur : Nat) (row : Row) :
    ((closeRow r wcur row).misfireLevel, (closeRow r wcur row).misfireRate) = misfireLevelOf r wcur row := rfl

theorem closeRow_knock (r : Reader) (wcur : Nat) (row : Row) :
    ((closeRow r wcur row).knockLevel, (closeRow r wcur row).knockRate, (closeRow r wcur row).heavyRate) =
      knockLevelOf r wcur row := rfl

/-- The misfire state and its runs move by the level of the window that closes (R141). -/
theorem closeRow_misfireState (r : Reader) (wcur : Nat) (row : Row) :
    ((closeRow r wcur row).misfireState, (closeRow r wcur row).faultRun, (closeRow r wcur row).cleanRun) =
      moveMisfire row.misfireState row.faultRun row.cleanRun (closeRow r wcur row).misfireLevel := rfl

theorem closeRow_knockState (r : Reader) (wcur : Nat) (row : Row) :
    (closeRow r wcur row).knockState = moveKnock row.knockState (closeRow r wcur row).knockLevel := rfl

/-- Settles O52: the levels and rates by the branches of R139 and R140, the states by the rows of R141's table. -/
theorem ratingLevelsAndStates : Obligations.RatingLevelsAndStates := by
  intro r wcur row after rate heavy knock states st
  have hstates : states = moveMisfire st row.faultRun row.cleanRun after.misfireLevel :=
    closeRow_misfireState r wcur row
  have hmisfire := closeRow_misfire r wcur row
  have hknock := closeRow_knock r wcur row
  have move {s : MisfireState} {l : MisfireLevel} (hs : st = s) (hl : after.misfireLevel = l) :
      states = moveMisfire s row.faultRun row.cleanRun l := by rw [hstates, hs, hl]
  refine ⟨fun h => ?few, fun h => ?rated, fun h => ?knockFew, fun h => ?knockRated, fun h => ?noLevel,
    move, move, move, fun hs hl hf => ?faultAgain, fun hs hl hf => ?faultFirst, move, move, fun hs hl => ?faulty,
    fun hs hl hc => ?cleanFirst, fun hs hl hc => ?cleanAgain, ?knockState⟩
  case few =>
    rw [misfireLevelOf_few h] at hmisfire
    exact Prod.mk.inj hmisfire
  case rated =>
    rw [misfireLevelOf_enough h] at hmisfire
    exact (Prod.mk.inj hmisfire).symm
  case knockFew =>
    rw [knockLevelOf_few h] at hknock
    simpa using hknock
  case knockRated =>
    rw [knockLevelOf_enough h] at hknock
    obtain ⟨hl, hk⟩ := Prod.mk.inj hknock
    obtain ⟨hrate, hheavy⟩ := Prod.mk.inj hk
    exact ⟨hrate, hheavy, hl⟩
  case noLevel => rw [hstates, h]; rfl
  case faultAgain => rw [move hs hl, hf]; rfl
  case faultFirst => rw [move hs hl, hf]; rfl
  case faulty => rcases hl with hl | hl <;> exact move hs hl
  case cleanFirst => rw [move hs hl, hc]; rfl
  case cleanAgain => rw [move hs hl, hc]; rfl
  case knockState =>
    rw [closeRow_knockState r wcur row]
    cases after.knockLevel <;> rfl

/-! ### One cylinder at a close (R143, R144) -/

theorem raiseIf_ne {α : Type} [DecidableEq α] (e : Env) (x y : α) (ev : Event) (b : Blocks) :
    raiseIf e (x != y) ev b = if x = y then b else raise e ev b := by
  by_cases h : x = y
  · rw [if_pos h]; exact raiseIf_false (by simp [h])
  · rw [if_neg h]; exact raiseIf_true (by simp [h])

/-- A close changes the row of its cylinder alone, whatever events it raises. -/
theorem closeCylinder_get (e : Env) (t : Stamp) (c : Nat) (b : Blocks) (i : Fin 8) :
    (closeCylinder e t c b).rate.rows.get i =
      if i = cylinderCode c then updatedRow (closeRow e.reader b.rate.wcur) (b.rate.rows.get i)
      else b.rate.rows.get i := by
  unfold closeCylinder; dsimp only
  rw [raiseIf_rate_rows, raiseIf_rate_rows]
  exact updateRow_get ..

/-! ### The cylinders one after the other (R143) -/

theorem closeCylinders_eq_foldl (e : Env) (t : Stamp) (l : List Nat) (b : Blocks) :
    closeCylinders e t l b = l.foldl (fun x c => closeCylinder e t c x) b := by
  induction l generalizing b with
  | nil => rfl
  | cons c l ih => exact ih _

theorem cylinderCode_eq_iff {c : Nat} (h1 : 1 ≤ c) (h8 : c ≤ 8) (i : Fin 8) : i = cylinderCode c ↔ c = i.val + 1 := by
  rw [Fin.ext_iff]
  show i.val = (c - 1) % 8 ↔ _
  omega

/-- Cylinders that close once each leave every row closed once or as it was. -/
theorem closeCylinders_get (e : Env) (t : Stamp) (i : Fin 8) {l : List Nat} (hr : ∀ c ∈ l, 1 ≤ c ∧ c ≤ 8)
    (hn : l.Nodup) (b : Blocks) :
    (closeCylinders e t l b).rate.rows.get i =
      if i.val + 1 ∈ l then updatedRow (closeRow e.reader b.rate.wcur) (b.rate.rows.get i)
      else b.rate.rows.get i := by
  induction l generalizing b with
  | nil => rfl
  | cons c l ih =>
    obtain ⟨hc, hl⟩ := List.nodup_cons.mp hn
    obtain ⟨h1, h8⟩ := hr c (List.mem_cons_self ..)
    show (closeCylinders e t l (closeCylinder e t c b)).rate.rows.get i = _
    rw [ih (fun d hd => hr d (List.mem_cons_of_mem c hd)) hl, closeCylinder_rate_wcur, closeCylinder_get]
    by_cases hi : c = i.val + 1
    · subst hi
      rw [if_neg hc, if_pos ((cylinderCode_eq_iff h1 h8 i).mpr rfl), if_pos (List.mem_cons_self ..)]
    · rw [if_neg (fun h => hi ((cylinderCode_eq_iff h1 h8 i).mp h))]
      simp only [List.mem_cons, Ne.symm hi, false_or]

/-- The rows after every cylinder from 1 to ncyl has closed. -/
theorem closeCylinders_range_get (e : Env) (t : Stamp) (i : Fin 8) {n : Nat} (h : n ≤ 8) (b : Blocks) :
    (closeCylinders e t (List.range' 1 n) b).rate.rows.get i =
      if i.val < n then updatedRow (closeRow e.reader b.rate.wcur) (b.rate.rows.get i) else b.rate.rows.get i := by
  have hr : ∀ c ∈ List.range' 1 n, 1 ≤ c ∧ c ≤ 8 := by
    intro c hc
    have := List.mem_range'_1.mp hc
    omega
  have hmem : i.val + 1 ∈ List.range' 1 n ↔ i.val < n := by
    rw [List.mem_range'_1]; omega
  rw [closeCylinders_get e t i hr List.nodup_range']
  simp only [hmem]

/-! ### The cycle start (R136) -/

/-- RATE's header hears of the new cycle number first. -/
def cycleTold (e : Env) (b : Blocks) : Blocks := tellHeader e (fun h => { h with cycle := b.crank.cycle }) b

theorem rateCycleStart_counts {e : Env} {t : Stamp} {b : Blocks} (h : b.rate.cycles < b.rate.wcur) :
    rateCycleStart e t b =
      { cycleTold e b with rate := { (cycleTold e b).rate with cycles := b.rate.cycles + 1 } } := by
  have hc : (cycleTold e b).rate.cycles = b.rate.cycles := tellHeader_rate_cycles ..
  have hw : (cycleTold e b).rate.wcur = b.rate.wcur := tellHeader_rate_wcur ..
  show (if (cycleTold e b).rate.cycles < (cycleTold e b).rate.wcur then
    { cycleTold e b with rate := { (cycleTold e b).rate with cycles := (cycleTold e b).rate.cycles + 1 } }
    else closeWindow e t (cycleTold e b)) = _
  rw [hc, hw, if_pos h]

theorem rateCycleStart_closes {e : Env} {t : Stamp} {b : Blocks} (h : b.rate.wcur ≤ b.rate.cycles) :
    rateCycleStart e t b = closeWindow e t (cycleTold e b) := by
  have hc : (cycleTold e b).rate.cycles = b.rate.cycles := tellHeader_rate_cycles ..
  have hw : (cycleTold e b).rate.wcur = b.rate.wcur := tellHeader_rate_wcur ..
  exact if_neg (by show ¬ (cycleTold e b).rate.cycles < (cycleTold e b).rate.wcur; omega)

/-- The rows after a close: each cylinder's is closed with the W_cur that ends. -/
theorem rateCycleStart_get {e : Env} {b : Blocks} (t : Stamp) (h : b.rate.wcur ≤ b.rate.cycles)
    (hn : fNcyl e.reader ≤ 8) (i : Fin 8) :
    (rateCycleStart e t b).rate.rows.get i =
      if i.val < fNcyl e.reader then updatedRow (closeRow e.reader b.rate.wcur) (b.rate.rows.get i)
      else b.rate.rows.get i := by
  have hw : (cycleTold e b).rate.wcur = b.rate.wcur := tellHeader_rate_wcur ..
  have hr : (cycleTold e b).rate.rows = b.rate.rows := tellHeader_rate_rows ..
  rw [rateCycleStart_closes h]
  show (closeCylinders e t (List.range' 1 (fNcyl e.reader)) (cycleTold e b)).rate.rows.get i = _
  rw [closeCylinders_range_get e t i hn, hw, hr]

/-- Settles O53: a cycle start counts or closes by W_cur; each cylinder closes once and changes its own row alone, and
raises its two events after the row is updated. -/
theorem ratingWindowCloses : Obligations.RatingWindowCloses := by
  refine ⟨fun e t b => ?start, fun e t c b => ?cylinder⟩
  case start =>
    refine ⟨by simp, by simp, by simp, by simp, fun h => ?counts, fun h => ?closes, fun h hn i => ?rows⟩
    case counts =>
      rw [rateCycleStart_counts h]
      exact ⟨rfl, tellHeader_rate_wcur .., tellHeader_rate_rows .., tellHeader_evq ..⟩
    case closes =>
      rw [rateCycleStart_closes h, ← closeCylinders_eq_foldl]
      exact ⟨rfl, rfl, rfl⟩
    case rows =>
      have hrow := rateCycleStart_get t h hn i
      refine ⟨fun hi => by rw [hrow, if_neg (Nat.not_lt.mpr hi)], fun hi => ?_⟩
      rw [hrow, if_pos hi]
      exact ⟨rfl, rfl, rfl, rfl, rfl, rfl, rfl, rfl, rfl, rfl, rfl, rfl, rfl⟩
  case cylinder =>
    refine ⟨?_, updateRow_evq ..⟩
    unfold closeCylinder; dsimp only
    rw [raiseIf_ne, raiseIf_ne]
    rfl

end Sys2Proof.Machine
end

section
/-! An event as EVQ takes it: placed with its record requested, or dropped and counted (R152 to R157). -/

namespace Sys2Proof.Machine

/-! ### Requests that stay pending (R18, R20) -/

/-- A request handed to the report writer takes none of a kind from those pending. -/
theorem addRequest_pendingCount (init : Bool) (k j : RequestKind) (l : List Request) :
    pendingCount j l ≤ pendingCount j (addRequest init k l) := by
  rcases addRequest_cases init k l with ⟨_, _, e⟩ | ⟨_, e⟩ <;> rw [e]
  · exact Nat.le_of_eq (pendingCount_marked k j init l).symm
  · unfold pendingCount; rw [List.countP_append]; exact Nat.le_add_right ..

theorem Grown.pendingCount_le {l m : List Request} (h : Grown l m) (k : RequestKind) :
    pendingCount k l ≤ pendingCount k m := by
  induction h with
  | refl => exact Nat.le_refl _
  | add init j _ ih => exact Nat.le_trans ih (addRequest_pendingCount init j k _)

/-- An EVENT request never coalesces, so it waits in the list as it was handed over. -/
theorem addRequest_event_pending (init : Bool) (n : Nat) (words : Vector Word 8) (l : List Request) :
    0 < pendingCount (.event n words) (addRequest init (.event n words) l) := by
  rw [addRequest_joins init (.inl rfl)]
  simp [pendingCount, pendingOf, List.countP_append]

theorem pendingCount_pos {k : RequestKind} {l : List Request} (h : 0 < pendingCount k l) :
    ∃ r ∈ l, r.kind = k ∧ r.granted = 0 := by
  obtain ⟨r, hr, hk⟩ := List.countP_pos_iff.mp h
  simp only [pendingOf, Bool.and_eq_true, beq_iff_eq, decide_eq_true_eq] at hk
  exact ⟨r, hr, hk.2, hk.1⟩

/-! ### An event that is placed (R153, R155) -/

section
variable {e : Env} {ev : Event} {b : Blocks}

theorem raise_places (ho : e.op = .running) (hm : maskNames (fEventMask e.reader) ev.kind = true)
    (hs : b.evq.slots[b.evq.producer]? = some .free) : raise e ev b = offerEvent e ev (placeEvent e ev b) := by
  rw [raise_running ho, takeEvent_placed hm hs]

theorem placeEvent_evq : (placeEvent e ev b).evq = { b.evq with
    slots := b.evq.slots.set b.evq.producer (.filling ev.kind), seq := b.evq.seq + 1, dropped := 0
    producer := (b.evq.producer + 1) % e.table.queueCapacity } := tellHeader_evq ..

/-- EVQ tells RATE of the producer index (R155). -/
theorem placeEvent_header_producer :
    (placeEvent e ev b).rate.header.producer = (b.evq.producer + 1) % e.table.queueCapacity := by
  unfold placeEvent; simp

/-- The record of a raised event waits whole in the report writer's list (R155). -/
theorem raise_record_pending (ho : e.op = .running) (hm : maskNames (fEventMask e.reader) ev.kind = true)
    (hs : b.evq.slots[b.evq.producer]? = some .free) :
    ∃ r ∈ (raise e ev b).rpw, r.kind = .event b.evq.producer (placedWords ev b) ∧ r.granted = 0 := by
  have hplaced : Grown (addRequest false (.event b.evq.producer (placedWords ev b)) b.rpw) (placeEvent e ev b).rpw :=
    tellHeader_grown .refl
  have hraised : Grown _ (raise e ev b).rpw := raise_places ho hm hs ▸ offerEvent_grown hplaced
  exact pendingCount_pos (Nat.lt_of_lt_of_le (addRequest_event_pending ..) (hraised.pendingCount_le _))

/-! ### An event that is dropped (R157) -/

theorem takeEvent_dropped (hm : maskNames (fEventMask e.reader) ev.kind = true)
    (hs : b.evq.slots[b.evq.producer]? ≠ some .free) : takeEvent e ev b = dropEvent e b := by
  unfold takeEvent; rw [if_pos hm, if_neg hs]

theorem dropEvent_evq : (dropEvent e b).evq = { b.evq with dropped := min 255 (b.evq.dropped + 1) } :=
  setFlag_evq ..

theorem dropEvent_queueDropped : flagSet (dropEvent e b).tap .queueDropped = true := by
  unfold dropEvent; rw [setFlag_flagSet]; simp

theorem raise_dropped (ho : e.op = .running) (hm : maskNames (fEventMask e.reader) ev.kind = true)
    (hs : b.evq.slots[b.evq.producer]? ≠ some .free) :
    (raise e ev b).evq = { b.evq with dropped := min 255 (b.evq.dropped + 1) } ∧
      flagSet (raise e ev b).tap .queueDropped = true := by
  rw [raise_running ho, takeEvent_dropped hm hs, offerEvent_evq, offerEvent_tap]
  exact ⟨dropEvent_evq, dropEvent_queueDropped⟩

end

/-- Settles O54: EVQ takes the event by its mask and the slot it finds; the offer to FRZ that follows changes neither
EVQ nor TAP, and only adds to the report writer's list. -/
theorem eventPlacedOrDropped : Obligations.EventPlacedOrDropped := by
  intro e ev b q b' passes
  refine ⟨raise_ignored, raise_masked, fun ⟨ho, hm⟩ hs => ?placed, fun ⟨ho, hm⟩ hs => ?dropped, raise_crank ..,
    raise_seg .., raise_knock .., raise_rowsKept⟩
  case placed =>
    obtain ⟨r, hr, hkind, hnew⟩ := raise_record_pending ho hm hs
    have hraise : b' = offerEvent e ev (placeEvent e ev b) := raise_places ho hm hs
    refine ⟨?_, ?_, ?_, placedWords ev b, ⟨r, hr, hkind, hnew⟩, rfl, rfl, rfl, rfl, rfl, rfl, rfl, rfl⟩
    · rw [hraise, offerEvent_evq]; exact placeEvent_evq
    · rw [hraise, offerEvent_tap]; exact placeEvent_tap ..
    · rw [hraise, offerEvent_header_producer]; exact placeEvent_header_producer
  case dropped =>
    obtain ⟨hevq, hflag⟩ := raise_dropped ho hm hs
    exact ⟨hevq, hflag, fun f hf => raise_flagSet hf⟩

end Sys2Proof.Machine
end

section
/-! A raised event as FRZ takes it, and the records a collection finds in the history ring (R152, R170 to R172). -/

namespace Sys2Proof.Machine

/-! ### The offer of a raised event (R152, R170) -/

section
variable {e : Env} {ev : Event} {b : Blocks}

theorem offerEvent_unnamed (h : maskNames (fFreezeTriggerMask e.reader) ev.kind ≠ true) : offerEvent e ev b = b :=
  if_neg h

/-- A named event is a trigger of FRZ, whatever EVQ has done with it. -/
theorem raise_triggers (ho : e.op = .running) (hm : maskNames (fFreezeTriggerMask e.reader) ev.kind = true) :
    raise e ev b = trigger e (.event ev.kind) ev.cylinder (takeEvent e ev b) := by
  rw [raise_running ho]; exact if_pos hm

theorem raise_unnamed_frz (h : ¬ (e.op = .running ∧ maskNames (fFreezeTriggerMask e.reader) ev.kind = true)) :
    (raise e ev b).frz = b.frz := by
  by_cases ho : e.op = .running
  · rw [raise_running ho, offerEvent_unnamed fun hm => h ⟨ho, hm⟩]; exact takeEvent_frz ..
  · rw [raise_ignored ho]

/-- What FRZ makes of a raised event that the mask names is what it makes of the trigger (R170). -/
theorem raise_named_frz (ho : e.op = .running) (hm : maskNames (fFreezeTriggerMask e.reader) ev.kind = true) :
    (raise e ev b).frz = (trigger e (.event ev.kind) ev.cylinder b).frz := by
  rw [raise_triggers ho hm]
  exact trigger_frz_congr (takeEvent_frz ..) (takeEvent_crank ..) (by rw [takeEvent_seg])

/-- EVQ's part in a raised event changes nothing that a collection reads. -/
theorem collectionBegun_takeEvent {k : TriggerKind} {c : Option Nat} {x : Blocks}
    (h : collectionBegun e k c (takeEvent e ev b) x) : collectionBegun e k c b x := by
  unfold collectionBegun frameComplete at h
  rw [takeEvent_crank, takeEvent_seg, takeEvent_frz] at h
  exact h

/-- A named event that finds FRZ ARMED with a usable trigger begins a collection (R171). -/
theorem raise_begins (ho : e.op = .running) (hm : maskNames (fFreezeTriggerMask e.reader) ev.kind = true)
    (ha : b.frz.state = .armed) (hu : triggerUsable b) :
    collectionBegun e (.event ev.kind) ev.cylinder b (raise e ev b) := by
  have ha' : (takeEvent e ev b).frz.state = .armed := by rw [takeEvent_frz]; exact ha
  have hu' : triggerUsable (takeEvent e ev b) := by
    unfold triggerUsable; rw [takeEvent_crank, takeEvent_seg]; exact hu
  rw [raise_triggers ho hm, trigger_usable ha' hu']
  exact collectionBegun_takeEvent (startCollection_begun ..)

end

/-! ### The pre count (R171, step 3) -/

section
variable {ring : Vector CycleRecord 24} {c : BitVec 32} {limit : Nat}

theorem cycle_sub_succ (c : BitVec 32) (d : Nat) : c - 1 - BitVec.ofNat 32 d = c - BitVec.ofNat 32 (d + 1) := by
  rw [BitVec.ofNat_add]; bv_omega

theorem cyclesBefore_held (h : ringHolds ring (c - 1)) :
    cyclesBefore ring c (limit + 1) = cyclesBefore ring (c - 1) limit + 1 := by
  obtain ⟨r, hr⟩ := Option.isSome_iff_exists.mp ((recordOfCycle_isSome_iff ring (c - 1)).mpr h)
  rw [cyclesBefore, hr]

theorem cyclesBefore_absent (h : ¬ ringHolds ring (c - 1)) : cyclesBefore ring c (limit + 1) = 0 := by
  have hnone : recordOfCycle ring (c - 1) = none :=
    Option.not_isSome_iff_eq_none.mp (mt (recordOfCycle_isSome_iff ring (c - 1)).mp h)
  rw [cyclesBefore, hnone]

theorem cyclesBefore_le (ring : Vector CycleRecord 24) (c : BitVec 32) (limit : Nat) :
    cyclesBefore ring c limit ≤ limit := by
  induction limit generalizing c with
  | zero => exact Nat.le_refl 0
  | succ limit ih =>
    by_cases h : ringHolds ring (c - 1)
    · rw [cyclesBefore_held h]; exact Nat.succ_le_succ (ih _)
    · rw [cyclesBefore_absent h]; exact Nat.zero_le _

/-- The ring holds every cycle that is counted. -/
theorem cyclesBefore_holds {d : Nat} (h1 : 1 ≤ d) (hd : d ≤ cyclesBefore ring c limit) :
    ringHolds ring (c - BitVec.ofNat 32 d) := by
  induction limit generalizing c d with
  | zero => exact absurd hd (Nat.not_le.mpr h1)
  | succ limit ih =>
    by_cases h : ringHolds ring (c - 1)
    · rw [cyclesBefore_held h] at hd
      match d, h1 with
      | 1, _ => exact h
      | d + 2, _ =>
        rw [← cycle_sub_succ]
        exact ih (Nat.succ_pos d) (Nat.le_of_succ_le_succ hd)
    · rw [cyclesBefore_absent h] at hd; exact absurd hd (Nat.not_le.mpr h1)

/-- The count stops below its limit only at a cycle that the ring does not hold. -/
theorem cyclesBefore_stops (hn : cyclesBefore ring c limit < limit) :
    ¬ ringHolds ring (c - BitVec.ofNat 32 (cyclesBefore ring c limit + 1)) := by
  induction limit generalizing c with
  | zero => exact absurd hn (Nat.not_lt_zero _)
  | succ limit ih =>
    by_cases h : ringHolds ring (c - 1)
    · rw [cyclesBefore_held h] at hn ⊢
      rw [← cycle_sub_succ]
      exact ih (Nat.lt_of_succ_lt_succ hn)
    · rw [cyclesBefore_absent h]; exact h

/-! ### The FINAL records (R171, step 5) -/

/-- The FINAL records stand in cycle order, the trigger's cycle last. -/
theorem finalRecords_eq (ring : Vector CycleRecord 24) (c : BitVec 32) (limit : Nat) :
    finalRecords ring c limit =
      (List.range (limit + 1)).flatMap
        (fun d => (finalRecord ring (c - BitVec.ofNat 32 (limit - d))).toList) := by
  induction limit generalizing c with
  | zero => simp [finalRecords]
  | succ limit ih =>
    rw [finalRecords, ih, List.range_succ (n := limit + 1), List.flatMap_append]
    congr 1
    · rw [List.flatMap_def, List.flatMap_def]
      refine congrArg List.flatten (List.map_congr_left fun d hd => ?_)
      have hle : d ≤ limit := Nat.le_of_lt_succ (List.mem_range.mp hd)
      rw [cycle_sub_succ, Nat.succ_sub hle]
    · simp

/-- A record that the search for a cycle gives is in the ring, holds results, and is of that cycle. -/
theorem recordOfCycle_some {r : CycleRecord} (h : recordOfCycle ring c = some r) :
    (∃ i : Fin 24, ring.get i = r) ∧ r.state ≠ .empty ∧ r.cycle = c := by
  obtain ⟨i, hi, hget⟩ := Vector.mem_iff_getElem.mp (Vector.mem_toList_iff.mp (List.mem_of_find?_eq_some h))
  exact ⟨⟨⟨i, hi⟩, hget⟩, by simpa using List.find?_some h⟩

theorem finalRecord_some {r : CycleRecord} (h : finalRecord ring c = some r) :
    (∃ i : Fin 24, ring.get i = r) ∧ r.state = .final ∧ r.cycle = c := by
  obtain ⟨hrecord, hfinal⟩ := Option.filter_eq_some_iff.mp h
  obtain ⟨hmem, _, hcycle⟩ := recordOfCycle_some hrecord
  exact ⟨hmem, by simpa using hfinal, hcycle⟩

/-- The search finds the one record of a cycle. -/
theorem recordOfCycle_unique {i : Fin 24} (hs : (ring.get i).state ≠ .empty) (hc : (ring.get i).cycle = c)
    (hu : ∀ j, j ≠ i → (ring.get j).state = .empty ∨ (ring.get j).cycle ≠ c) :
    recordOfCycle ring c = some (ring.get i) := by
  obtain ⟨r, hr⟩ := Option.isSome_iff_exists.mp ((recordOfCycle_isSome_iff ring c).mpr ⟨i, hs, hc⟩)
  obtain ⟨⟨j, rfl⟩, hstate, hcycle⟩ := recordOfCycle_some hr
  by_cases hj : j = i
  · rw [hr, hj]
  · rcases hu j hj with h | h
    · exact absurd h hstate
    · exact absurd hcycle h

theorem finalRecord_unique {i : Fin 24} (hs : (ring.get i).state = .final) (hc : (ring.get i).cycle = c)
    (hu : ∀ j, j ≠ i → (ring.get j).state = .empty ∨ (ring.get j).cycle ≠ c) :
    finalRecord ring c = some (ring.get i) := by
  have hrecord := recordOfCycle_unique (by rw [hs]; exact RecordState.noConfusion) hc hu
  exact Option.filter_eq_some_iff.mpr ⟨hrecord, by rw [hs]; rfl⟩

end

/-- Settles O55: what EVQ does with a raised event leaves all that FRZ reads; the pre count and the frame's records by
induction on the limit, one cycle further back at each step. -/
theorem raisedEventTriggers : Obligations.RaisedEventTriggers := by
  refine ⟨fun e ev b => ?offer, fun ring c limit => ?ring⟩
  case offer =>
    refine ⟨?ignored, fun ⟨ho, hm⟩ hmiss => ?missed, fun ⟨ho, hm⟩ => raise_begins ho hm⟩
    case ignored =>
      intro hno
      by_cases hnamed : e.op = .running ∧ maskNames (fFreezeTriggerMask e.reader) ev.kind = true
      · rw [raise_named_frz hnamed.1 hnamed.2, trigger_idle (hno.resolve_left (not_not_intro hnamed))]
      · exact raise_unnamed_frz hnamed
    case missed =>
      rw [raise_named_frz ho hm]
      rcases hmiss with hheld | ⟨ha, hu⟩
      · rw [trigger_missed hheld]; rfl
      · rw [trigger_unusable ha hu]; rfl
  case ring =>
    exact ⟨cyclesBefore_le .., fun _ => cyclesBefore_holds, cyclesBefore_stops, finalRecords_eq ..,
      fun _ => finalRecord_some, fun _ => finalRecord_unique⟩

end Sys2Proof.Machine
end

section
/-! The alert state, and what every step keeps of it (R162, R163). -/

namespace Sys2Proof.Machine

/-! ### What the alert state is decided from (R162) -/

/-- The kind of an event whose slot is READY. -/
def readyKind : SlotState → Option EventKind
  | .ready k => some k
  | .free => none
  | .filling _ => none

/-- The alert state of EVQ, and all of EVQ that decides it: the mask in force and the kinds of the READY slots. -/
structure AlertView where
  alert : Bool
  mask : BitVec 16
  ready : List EventKind

/-- The view of EVQ as it stands. -/
def alertView (q : Evq) : AlertView := ⟨q.alert, q.alertMask, q.slots.filterMap readyKind⟩

/-- EVQ's alert state is the one that R162 gives in this operating state. -/
def alertAgrees (o : OpState) (q : Evq) : Prop := q.alert = alertOf o q

theorem any_slotAlerts_eq (m : BitVec 16) (l : List SlotState) :
    l.any (slotAlerts m) = (l.filterMap readyKind).any (maskNames m) := by
  rw [List.any_filterMap]
  congr 1; funext x
  cases x <;> rfl

/-- R162 reads of EVQ nothing but the view. -/
theorem alertAgrees_iff (o : OpState) (q : Evq) :
    alertAgrees o q ↔
      (alertView q).alert = (inCharge o && (alertView q).ready.any (maskNames (alertView q).mask)) := by
  unfold alertAgrees alertOf; rw [any_slotAlerts_eq]; rfl

theorem alertAgrees.of_view {o : OpState} {q p : Evq} (h : alertAgrees o q) (hv : alertView p = alertView q) :
    alertAgrees o p := by
  rw [alertAgrees_iff, hv]; exact (alertAgrees_iff o q).mp h

/-! ### Decisions and first values -/

theorem decideAlert_agrees (o : OpState) (b : Blocks) : alertAgrees o (decideAlert o b).evq := rfl

theorem announceOp_agrees (e : Env) (b : Blocks) : alertAgrees e.op (announceOp e b).evq := by
  rw [announceOp_evq]; rfl

/-- A START leaves every slot FREE and the alert INACTIVE (R150). -/
theorem evqStart_agrees (o : OpState) (r : Reader) : alertAgrees o (evqStart r) := by
  have hnone : (evqStart r).slots.any (slotAlerts (evqStart r).alertMask) = false := by
    simp [evqStart, slotAlerts]
  unfold alertAgrees alertOf; rw [hnone, Bool.and_false]; rfl

/-! ### Taking events -/

/-- A slot that is not READY before and after its change adds no kind and removes none. -/
theorem readyKinds_set {x : SlotState} (hx : readyKind x = none) {l : List SlotState} {n : Nat} {y : SlotState}
    (hn : l[n]? = some y) (hy : readyKind y = none) : (l.set n x).filterMap readyKind = l.filterMap readyKind := by
  induction l generalizing n with
  | nil => rfl
  | cons z l ih =>
    cases n with
    | zero =>
      obtain rfl : z = y := Option.some.inj hn
      rw [List.set_cons_zero, List.filterMap_cons_none hx, List.filterMap_cons_none hy]
    | succ n => rw [List.set_cons_succ, List.filterMap_cons, List.filterMap_cons, ih hn]

/-- An event that is placed turns a FREE slot to FILLING, and neither is READY. -/
theorem placeEvent_alertView (e : Env) (ev : Event) {b : Blocks} (hs : b.evq.slots[b.evq.producer]? = some .free) :
    alertView (placeEvent e ev b).evq = alertView b.evq := by
  have hready := readyKinds_set (x := .filling ev.kind) rfl hs rfl
  rw [placeEvent_evq]; unfold alertView; rw [hready]

theorem dropEvent_alertView (e : Env) (b : Blocks) : alertView (dropEvent e b).evq = alertView b.evq := by
  rw [dropEvent_evq]; rfl

@[simp] theorem takeEvent_alertView (e : Env) (ev : Event) (b : Blocks) :
    alertView (takeEvent e ev b).evq = alertView b.evq := by
  unfold takeEvent; split
  · split
    · next hs => exact placeEvent_alertView e ev hs
    · exact dropEvent_alertView e b
  · rfl

@[simp] theorem raise_alertView (e : Env) (ev : Event) (b : Blocks) :
    alertView (raise e ev b).evq = alertView b.evq := by
  unfold raise; split
  · rw [offerEvent_evq]; exact takeEvent_alertView e ev b
  · rfl

/-! ### The blocks that raise events -/

section
variable (e : Env) (t : Stamp) (b : Blocks)

@[simp] theorem raiseIf_alertView (c : Bool) (ev : Event) :
    alertView (raiseIf e c ev b).evq = alertView b.evq := by unfold raiseIf; split <;> simp

@[simp] theorem raiseOption_alertView (o : Option Event) :
    alertView (raiseOption e o b).evq = alertView b.evq := by unfold raiseOption; split <;> simp

/-- An effect where a firing position matches leaves the view where the effect leaves it. -/
theorem atPosition_alertView {o : Option Nat} {f : Nat → Blocks → Blocks}
    (h : ∀ k, alertView (f k b).evq = alertView b.evq) : alertView (atPosition o f b).evq = alertView b.evq :=
  atPosition_keeps (Q := fun c => alertView c.evq = alertView b.evq) h rfl

@[simp] theorem closeCylinder_alertView (c : Nat) : alertView (closeCylinder e t c b).evq = alertView b.evq := by
  unfold closeCylinder; simp

@[simp] theorem closeCylinders_alertView (l : List Nat) :
    alertView (closeCylinders e t l b).evq = alertView b.evq := by
  induction l generalizing b with
  | nil => rfl
  | cons c l ih => exact (ih _).trans (closeCylinder_alertView e t b c)

@[simp] theorem rateCycleStart_alertView : alertView (rateCycleStart e t b).evq = alertView b.evq := by
  unfold rateCycleStart closeWindow; dsimp only; split <;> simp

@[simp] theorem cycleStart_alertView : alertView (cycleStart e t b).evq = alertView b.evq := by
  unfold cycleStart; simp

@[simp] theorem segEnd_alertView : alertView (segEnd e t b).evq = alertView b.evq := by
  unfold segEnd finishSegment; split <;> simp

@[simp] theorem knockClose_alertView : alertView (knockClose e t b).evq = alertView b.evq := by
  unfold knockClose finishWindow; split <;> simp

@[simp] theorem handOn_alertView (p : Nat) : alertView (handOn e p t b).evq = alertView b.evq := by
  unfold handOn; dsimp only
  rw [atPosition_alertView _ fun _ => by simp, atPosition_alertView _ fun _ => by simp]
  have hclosed : alertView (atPosition (positionAt e.reader windowClose p) (fun _ => knockClose e t)
      (atPosition (positionAt e.reader segmentBoundary p) (fun _ => segEnd e t) b)).evq = alertView b.evq := by
    rw [atPosition_alertView _ fun _ => by simp, atPosition_alertView _ fun _ => by simp]
  split <;> simp [hclosed]

/-! CRANK. -/

@[simp] theorem loseTo_alertView (c : Crank) (ev : Event) : alertView (loseTo e c ev b).evq = alertView b.evq := by
  unfold loseTo; split <;> simp

@[simp] theorem lossOfSync_alertView (r : LossReason) (o : Option Stamp) (n : Nat) :
    alertView (lossOfSync e r o n t b).evq = alertView b.evq := loseTo_alertView ..

@[simp] theorem toothLoss_alertView (r : LossReason) (p : Nat) :
    alertView (toothLoss e r t p b).evq = alertView b.evq := loseTo_alertView ..

@[simp] theorem glitchTooth_alertView : alertView (glitchTooth e t b).evq = alertView b.evq := by
  unfold glitchTooth; split <;> simp

@[simp] theorem countUnphased_alertView : alertView (countUnphased e t b).evq = alertView b.evq := by
  unfold countUnphased; dsimp only; split <;> simp

@[simp] theorem spanMissing_alertView : alertView (spanMissing e t b).evq = alertView b.evq := by
  unfold spanMissing; split <;> simp

@[simp] theorem phaseLoss_alertView : alertView (phaseLoss e t b).evq = alertView b.evq := by
  unfold phaseLoss; simp

@[simp] theorem closeSpan_alertView : alertView (closeSpan e t b).evq = alertView b.evq := by
  unfold closeSpan; split <;> simp

@[simp] theorem spanAt_alertView : alertView (spanAt e t b).evq = alertView b.evq := by
  unfold spanAt judgeSpan; split <;> simp

@[simp] theorem handOnIfPhased_alertView (p : Nat) : alertView (handOnIfPhased e p t b).evq = alertView b.evq := by
  unfold handOnIfPhased; split <;> simp

@[simp] theorem toothHunt_alertView (p : Nat) : alertView (toothHunt e t p b).evq = alertView b.evq := by
  unfold toothHunt; split <;> simp

@[simp] theorem toothVerify_alertView (p : Nat) : alertView (toothVerify e t p b).evq = alertView b.evq := by
  unfold toothVerify; split
  · split <;> simp
  · split <;> simp
  · simp
  · simp

@[simp] theorem toothCrankSync_alertView (p : Nat) : alertView (toothCrankSync e t p b).evq = alertView b.evq := by
  unfold toothCrankSync; split
  · split <;> simp
  · split <;> simp
  · simp
  · simp

@[simp] theorem toothPhased_alertView (p : Nat) : alertView (toothPhased e t p b).evq = alertView b.evq := by
  unfold toothPhased; split
  · split <;> simp
  · split <;> simp
  · simp
  · simp

@[simp] theorem toothWide_alertView : alertView (toothWide e t b).evq = alertView b.evq := by
  unfold toothWide; split <;> simp

@[simp] theorem toothPeriod_alertView (p : Nat) : alertView (toothPeriod e t p b).evq = alertView b.evq := by
  unfold toothPeriod; split <;> simp

@[simp] theorem tooth_alertView : alertView (tooth e t b).evq = alertView b.evq := by
  unfold tooth; split
  · simp
  · split <;> simp

@[simp] theorem enterPhased_alertView : alertView (enterPhased e t b).evq = alertView b.evq := by
  unfold enterPhased; simp

@[simp] theorem edgeRev0_alertView (p : Nat) : alertView (edgeRev0 e t p b).evq = alertView b.evq := by
  unfold edgeRev0; dsimp only; split <;> simp

@[simp] theorem edgeRev1_alertView (p : Nat) : alertView (edgeRev1 e t p b).evq = alertView b.evq := by
  unfold edgeRev1; simp

@[simp] theorem camEdge_alertView (k : ToothKind) : alertView (camEdge e k t b).evq = alertView b.evq := by
  unfold camEdge; dsimp only; split
  · split
    · rfl
    · rfl
    · rfl
    · simp
    · split <;> simp
  · rfl

@[simp] theorem takeNote_alertView (r : ToothRecord) : alertView (takeNote e r b).evq = alertView b.evq := by
  unfold takeNote; split <;> simp

@[simp] theorem takeRecord_alertView (r : ToothRecord) : alertView (takeRecord e r b).evq = alertView b.evq := by
  unfold takeRecord takeKind; split <;> simp

theorem takeHead_alertView : alertView (takeHead e b).evq = alertView b.evq := by
  unfold takeHead; split
  · rfl
  · split <;> simp

@[simp] theorem stallExpiry_alertView : alertView (stallExpiry e b).evq = alertView b.evq := loseTo_alertView ..

theorem expireStall_alertView : alertView (expireStall e b).evq = alertView b.evq := by
  unfold expireStall; split <;> simp

theorem stallTick_alertView : alertView (stallTick e b).evq = alertView b.evq := by
  unfold stallTick; split
  · rfl
  · split <;> simp

@[simp] theorem syncResetRequest_alertView : alertView (syncResetRequest e b).evq = alertView b.evq := by
  unfold syncResetRequest; split <;> simp

/-! TAP and LOADER. -/

@[simp] theorem streamFault_alertView (f : StreamFaultKind) (v w : Word) :
    alertView (streamFault e f v w b).evq = alertView b.evq := by unfold streamFault; split <;> simp

theorem takeTooth_alertView (a : Access) (d : Word) : alertView (takeTooth e a d b).evq = alertView b.evq := by
  have hp : alertView (toothPosition e (toothSlot e a) b).evq = alertView b.evq := by
    unfold toothPosition; split <;> simp
  unfold takeTooth; dsimp only; split
  · unfold toothContent; split
    · unfold toothRoom; split <;> simp [hp]
    · simp [hp]
  · simp [sizeFault, hp]

theorem takeKnock_alertView (x : Sensor) (a : Access) (d : Word) :
    alertView (takeKnock e x a d b).evq = alertView b.evq := by
  have hp : ∀ n w, alertView (knockPosition e x n w b).evq = alertView b.evq := by
    intro n w; unfold knockPosition; split <;> simp
  unfold takeKnock knockSize; dsimp only; split <;> simp [sizeFault, hp]

@[simp] theorem takeMarkerKind_alertView (k : MarkerKind) (v : Nat) :
    alertView (takeMarkerKind e k v b).evq = alertView b.evq := by cases k <;> simp [takeMarkerKind]

theorem takeMarker_alertView (a : Access) (d : Word) : alertView (takeMarker e a d b).evq = alertView b.evq := by
  unfold takeMarker; split
  · unfold markerContent markerFault; split
    · split <;> simp
    · simp
  · simp [sizeFault]

theorem refuseSetup_alertView (r : Bool) (off : Nat) : alertView (refuseSetup r off e b).evq = alertView b.evq := by
  unfold refuseSetup; split <;> simp

end

/-! ### Changes of a state -/

section
variable {s : State}

theorem takeCommand_alertDecided (v : Word) (h : alertDecided s) : alertDecided (takeCommand v s) := by
  rcases takeCommand_cases v s with e | ⟨_, e⟩ | ⟨_, e⟩ | ⟨_, e⟩ <;> rw [e]
  · exact h
  · exact h
  · exact announceOp_agrees _ _
  · show alertAgrees _ (stopBlocks _ _).evq
    rw [stopBlocks_evq]; exact announceOp_agrees _ _

/-- A change of the masks is followed by a decision where it reaches EVQ (R162, R164). -/
theorem takeSetup_alertDecided (off : Nat) (l : Lanes) (d : Word) (h : alertDecided s) :
    alertDecided (takeSetup off l d s) := by
  unfold takeSetup; dsimp only; split
  · exact h
  · show alertAgrees s.loader.op (tunableChanged off _ s.blocks).evq
    unfold tunableChanged; split
    · exact decideAlert_agrees ..
    · split
      · rw [modeWrite_evq]; exact h
      · exact h

theorem loaderRead_alertDecided (d : Word) (h : alertDecided s) : alertDecided (loaderRead d s) := by
  rcases loaderRead_cases d s with e | ⟨_, _, e⟩ | ⟨_, e⟩ <;> rw [e]
  · exact h
  · exact announceOp_agrees _ _
  · show alertAgrees _ (loadSucceeded _).blocks.evq
    rw [loadSucceeded_blocks]; exact evqStart_agrees _ _

theorem checkStopped_alertDecided (h : alertDecided s) : alertDecided (checkStopped s) := by
  rcases checkStopped_cases s with e | ⟨_, _, _, e⟩ <;> rw [e]
  · exact h
  · exact announceOp_agrees _ _

theorem headDone_alertDecided (h : alertDecided s) : alertDecided (headDone s) := by
  rcases headDone_cases s with e | ⟨r, rest, _, e⟩ <;> rw [e]
  · exact h
  · refine checkStopped_alertDecided ?_
    rcases makerTold_cases r (headRemoved s rest) with e | ⟨_, e⟩ | ⟨_, _, e⟩ <;> rw [e]
    · exact h
    · exact decideAlert_agrees ..
    · exact announceOp_agrees _ _

theorem frameWordDone_alertDecided (h : alertDecided s) : alertDecided (frameWordDone s) := by
  unfold frameWordDone; split
  · exact h
  · have hheld : alertDecided (onBlocks frameHeld s) := alertAgrees.of_view h (by simp)
    exact alertAgrees.of_view (checkStopped_alertDecided hheld) (raise_alertView ..)
  · exact h

/-- A grant to the report writer or the freeze writer leaves EVQ and the operating state. -/
theorem alertDecided_granted {t : State} (g : Granted s t) (h : alertDecided s) : alertDecided t := by
  unfold alertDecided; rw [g.evq, g.op]; exact h

end

/-! ### The invariant -/

theorem alertDecided_kept : Kept alertDecided where
  bus _ _ h := h
  hold _ _ h := h
  endAccess _ _ _ _ h := h
  snapshot _ _ h := h
  patience _ h := h
  grantSystem _ _ _ _ _ h := h
  grantReport s _ _ h := alertDecided_granted (grantTo_kept s .report) h
  grantLoader _ _ _ _ h := h
  grantFreeze s _ _ h := alertDecided_granted (grantTo_kept s .freeze) h
  command _ d h := takeCommand_alertDecided d h
  setup _ off l d _ h := takeSetup_alertDecided off l d h
  tooth _ _ _ _ h := alertAgrees.of_view h (takeTooth_alertView ..)
  knock _ _ _ _ _ h := alertAgrees.of_view h (takeKnock_alertView ..)
  marker _ _ _ _ h := alertAgrees.of_view h (takeMarker_alertView ..)
  slotRelease _ _ _ _ _ := decideAlert_agrees ..
  frameRelease _ _ h := alertAgrees.of_view h (by simp)
  protect _ h := alertAgrees.of_view h (by simp)
  refuseSetup _ _ _ h := alertAgrees.of_view h (refuseSetup_alertView ..)
  flagClear _ _ h := alertAgrees.of_view h (by simp)
  freePort _ h := h
  loaderRead s _ _ _ _ h := loaderRead_alertDecided _ (s := Machine.freePort s) h
  headDone _ h := headDone_alertDecided h
  frameWordDone _ h := frameWordDone_alertDecided h
  takeHead _ h := alertAgrees.of_view h (takeHead_alertView ..)
  expireStall _ h := alertAgrees.of_view h (expireStall_alertView ..)
  stallTick _ h := alertAgrees.of_view h (stallTick_alertView ..)
  assertReset _ h := h
  releaseReset _ _ _ _ _ := rfl
  autoStart _ _ _ := announceOp_agrees _ _
  pending _ _ h := h

/-! ### The ALERT pin (R163) -/

theorem alertPin_reset {s : State} (h : s.resetPin = true) : alertPin s = .high := if_pos h

theorem alertPin_low {s : State} (hr : s.resetPin = false) (hp : s.blocks.evq.polarity = .low) :
    alertPin s = if s.blocks.evq.alert then .low else .high := by
  unfold alertPin; rw [hr, hp]; cases s.blocks.evq.alert <;> rfl

theorem alertPin_high {s : State} (hr : s.resetPin = false) (hp : s.blocks.evq.polarity = .high) :
    alertPin s = if s.blocks.evq.alert then .high else .low := by
  unfold alertPin; rw [hr, hp]; cases s.blocks.evq.alert <;> rfl

/-- Settles O60: an event taken turns no slot to or from READY, and every other change that R162 reads is followed by
a decision. -/
theorem alertFollowsSlots : Obligations.AlertFollowsSlots :=
  ⟨fun _ => ⟨alertPin_reset, fun hr => ⟨alertPin_low hr, alertPin_high hr⟩⟩,
    fun _ _ h ht => alertDecided_kept.step h ht⟩

end Sys2Proof.Machine
end

section
/-! The words of a frame by their place: header, cycle records, ownership word (R175, R192, R194, R195). -/

namespace Sys2Proof.Machine

/-! ### Lists of equal blocks -/

/-- Where every block holds `n` words, word `j` of block `i` stands at place `n * i + j`. -/
theorem getElem?_flatMap_block {α : Type} {g : α → List Word} {n : Nat} (hg : ∀ a, (g a).length = n) {l : List α}
    {i j : Nat} {a : α} {w : Word} (ha : l[i]? = some a) (hw : (g a)[j]? = some w) :
    (l.flatMap g)[n * i + j]? = some w := by
  induction l generalizing i with
  | nil => simp at ha
  | cons b l ih =>
    rw [List.flatMap_cons]
    cases i with
    | zero =>
      obtain rfl : b = a := by simpa using ha
      have hj : j < (g b).length := (List.getElem?_eq_some_iff.mp hw).1
      rw [Nat.mul_zero, Nat.zero_add, List.getElem?_append_left hj, hw]
    | succ i =>
      have hplace : n * (i + 1) + j = (g b).length + (n * i + j) := by rw [hg, Nat.mul_succ]; omega
      rw [hplace, List.getElem?_append_right (Nat.le_add_right ..), Nat.add_sub_cancel_left]
      exact ih (by simpa using ha)

theorem length_flatMap_block {α : Type} {g : α → List Word} {n : Nat} (hg : ∀ a, (g a).length = n) (l : List α) :
    (l.flatMap g).length = n * l.length := by
  induction l with
  | nil => rfl
  | cons a l ih => rw [List.flatMap_cons, List.length_append, hg, ih, List.length_cons, Nat.mul_succ, Nat.add_comm]

/-! ### Numbered words -/

@[simp] theorem numbered_length (n : Nat) (l : List Word) : (numbered n l).length = l.length := by
  induction l generalizing n with
  | nil => rfl
  | cons _ l ih => simp [numbered, ih]

theorem numbered_getElem? (n : Nat) (l : List Word) (i : Nat) :
    (numbered n l)[i]? = l[i]?.map (FrameWord.mk (n + i)) := by
  induction l generalizing n i with
  | nil => rfl
  | cons _ l ih =>
    cases i with
    | zero => rfl
    | succ i => simp [numbered, ih, Nat.add_assoc, Nat.add_comm 1 i]

/-! ### A cycle record (R194, R195) -/

theorem cycleRecordWords_length (r : CycleRecord) : (cycleRecordWords r).length = 17 := rfl

theorem cycleRecordWords_cycle (r : CycleRecord) : (cycleRecordWords r)[0]? = some r.cycle := rfl

theorem positionOf_eq_get (r : CycleRecord) (k : Fin 8) : positionOf r k = r.positions.get k := by
  rw [positionOf, Vector.getElem?_eq_getElem k.isLt]; rfl

/-- Of the positions only position 0 carries the resync flag (R194). -/
theorem positionWord1_fin (p : PositionResult) (k : Fin 8) (resync : Bool) :
    positionWord1 p k resync = place p.time 0 24 ||| place (segClassCode p.segClass) 24 3 |||
      place (knockClassCode p.knockClass) 27 4 ||| place (if resync = true ∧ k = 0 then 1 else 0) 31 1 := by
  have hflag : bit (resync && (k : Nat) == 0) = if resync = true ∧ k = 0 then 1 else 0 := by
    simp only [bit, Bool.and_eq_true, beq_iff_eq, Fin.ext_iff, Fin.val_zero]
  rw [positionWord1, hflag]

/-- Word `j` of a position's two words stands after the cycle number and the words of the positions before it. -/
theorem cycleRecordWords_position (r : CycleRecord) (k : Fin 8) {j : Nat} {w : Word}
    (hw : [positionWord1 (r.positions.get k) k r.resync, positionWord2 (r.positions.get k)][j]? = some w) :
    (cycleRecordWords r)[2 * k.val + j + 1]? = some w := by
  rw [← positionOf_eq_get] at hw
  rw [cycleRecordWords, List.getElem?_cons_succ]
  exact getElem?_flatMap_block (n := 2) (fun _ => rfl) (List.getElem?_range k.isLt) hw

/-! ### The frame header (R194) -/

@[simp] theorem frameHeader_length (f : Frz) : (frameHeader f).length = 7 := rfl

/-- Without a trigger, words 1 and 2 show the truncation alone; a frame that is written out has one (log 19). -/
theorem frameHeader_noTrigger {f : Frz} (h : f.trigger = none) :
    (frameHeader f)[0]? = some (place (bit f.truncated) 16 1) ∧ (frameHeader f)[1]? = some 0 := by
  simp [frameHeader, h, place]

theorem frameHeader_trigger {f : Frz} {trig : Trigger} (h : f.trigger = some trig) :
    (frameHeader f)[0]? = some (place (triggerCode trig.kind) 0 8 ||| place (trig.cylinder.getD 0) 8 8 |||
        place (bit f.truncated) 16 1) ∧
      (frameHeader f)[1]? = some trig.cycle := by
  simp [frameHeader, h]

/-! ### The frame (R175, R192, R194) -/

theorem frameBody_length (f : Frz) :
    (frameHeader f ++ f.buffer.flatMap cycleRecordWords).length = 7 + 17 * f.buffer.length := by
  rw [List.length_append, frameHeader_length, length_flatMap_block cycleRecordWords_length]

theorem frameWords_length (f : Frz) : (frameWords f).length = 7 + 17 * f.buffer.length + 1 := by
  rw [frameWords, List.length_append, numbered_length, frameBody_length]; rfl

/-- The ownership word, frame word 0, is the last one written (R175). -/
theorem frameWords_last (f : Frz) : (frameWords f)[7 + 17 * f.buffer.length]? = some ⟨0, 0xA5⟩ := by
  rw [frameWords, ← frameBody_length, ← numbered_length 1]
  exact List.getElem?_concat_length

/-- The words before the ownership word are written in the order of their places in the frame (R175). -/
theorem frameWords_body {f : Frz} {i : Nat} {w : Word}
    (h : (frameHeader f ++ f.buffer.flatMap cycleRecordWords)[i]? = some w) :
    (frameWords f)[i]? = some ⟨i + 1, w⟩ := by
  have hn : (numbered 1 (frameHeader f ++ f.buffer.flatMap cycleRecordWords))[i]? = some ⟨i + 1, w⟩ := by
    rw [numbered_getElem?, h, Nat.add_comm]; rfl
  rw [frameWords, List.getElem?_append_left (List.getElem?_eq_some_iff.mp hn).1, hn]

theorem frameWords_header {f : Frz} {i : Nat} {w : Word} (h : (frameHeader f)[i]? = some w) :
    (frameWords f)[i]? = some ⟨i + 1, w⟩ :=
  frameWords_body (by rw [List.getElem?_append_left (List.getElem?_eq_some_iff.mp h).1, h])

/-- Record `i` of the buffer stands after the header and the records before it, 17 words each (R194). -/
theorem frameWords_record {f : Frz} {i j : Nat} {r : CycleRecord} {w : Word} (hr : f.buffer[i]? = some r)
    (hw : (cycleRecordWords r)[j]? = some w) :
    (frameWords f)[8 + 17 * i + j - 1]? = some ⟨8 + 17 * i + j, w⟩ := by
  have hindex : 8 + 17 * i + j = (frameHeader f).length + (17 * i + j) + 1 := by
    rw [frameHeader_length]; omega
  rw [hindex, Nat.add_sub_cancel]
  apply frameWords_body
  rw [List.getElem?_append_right (Nat.le_add_right ..), Nat.add_sub_cancel_left]
  exact getElem?_flatMap_block cycleRecordWords_length hr hw

theorem frameWords_position {f : Frz} {i : Nat} {r : CycleRecord} (hr : f.buffer[i]? = some r) (k : Fin 8) {j : Nat}
    {w : Word}
    (hw : [positionWord1 (r.positions.get k) k r.resync, positionWord2 (r.positions.get k)][j]? = some w) :
    (frameWords f)[9 + j + 17 * i + 2 * k.val - 1]? = some ⟨9 + j + 17 * i + 2 * k.val, w⟩ := by
  have hword := frameWords_record hr (cycleRecordWords_position r k hw)
  have hindex : 8 + 17 * i + (2 * k.val + j + 1) = 9 + j + 17 * i + 2 * k.val := by omega
  rwa [hindex] at hword

/-- Settles O57: each word is found at its place in its block of the frame. -/
theorem frameWordsInOrder : Obligations.FrameWordsInOrder := by
  intro f
  refine ⟨frameWords_length f, frameWords_last f, ?noTrigger, ?trigger, frameWords_header rfl, frameWords_header rfl,
    frameWords_header rfl, frameWords_header rfl, frameWords_header rfl, ?records⟩
  case noTrigger =>
    intro h
    obtain ⟨hfirst, hcycle⟩ := frameHeader_noTrigger h
    exact ⟨frameWords_header hfirst, frameWords_header hcycle⟩
  case trigger =>
    rintro ⟨kind, cylinder, cycle⟩ h
    obtain ⟨hfirst, hcycle⟩ := frameHeader_trigger h
    cases kind <;> exact ⟨frameWords_header hfirst, frameWords_header hcycle⟩
  case records =>
    intro i r hr
    refine ⟨frameWords_record hr (cycleRecordWords_cycle r), fun k => ⟨?_, ?_⟩⟩
    · exact frameWords_position hr k (j := 0) (by rw [positionWord1_fin]; rfl)
    · exact frameWords_position hr k (j := 1) rfl

end Sys2Proof.Machine
end

section
/-! One step on a queue that holds a command, as `step_idle` says it of the empty one. -/

namespace Sys2Proof.Machine

theorem step_front {s : State} {c : Instr} {rest : List Instr} (h : s.pending = c :: rest) :
    step s = exec c { s with pending := rest } := by
  unfold step; rw [h]

/-- Settles O1: the queue's rest is the state's own queue, so that the state the command runs on is the state itself. -/
theorem stepTakesFrontCommand : Obligations.StepTakesFrontCommand :=
  fun c s => step_front (s := { s with pending := c :: s.pending }) rfl

end Sys2Proof.Machine
end

section
/-! What an accepted tooth in PHASED hands on, and in which order (R69, R71). -/

namespace Sys2Proof.Machine

/-! ### Matches of an engine position -/

section
variable {r : Reader} {f : Reader → Nat → Nat} {p k : Nat}

theorem positionAt_eq_some_iff :
    positionAt r f p = some k ↔ k < fNcyl r ∧ f r k = p ∧ ∀ i, i < k → f r i ≠ p := by
  unfold positionAt
  rw [List.find?_range_eq_some]
  simp only [beq_iff_eq, List.mem_range, Bool.not_eq_eq_eq_not, Bool.not_true, beq_eq_false_iff_ne]
  exact ⟨fun ⟨hp, hk, hi⟩ => ⟨hk, hp, hi⟩, fun ⟨hk, hp, hi⟩ => ⟨hp, hk, hi⟩⟩

theorem positionAt_zero_iff : positionAt r f p = some 0 ↔ 0 < fNcyl r ∧ f r 0 = p := by
  rw [positionAt_eq_some_iff]
  exact ⟨fun ⟨hk, hp, _⟩ => ⟨hk, hp⟩, fun ⟨hk, hp⟩ => ⟨hk, hp, nofun⟩⟩

/-- Some firing position matches an engine position. -/
theorem positionAt_isSome :
    (positionAt r f p).isSome = (List.range (fNcyl r)).any (fun k => f r k == p) := by
  unfold positionAt; exact List.isSome_find?

theorem positionAt_none (h : (List.range (fNcyl r)).any (fun k => f r k == p) = false) : positionAt r f p = none := by
  rw [← positionAt_isSome] at h; simpa using h

end

theorem atPosition_const (o : Option Nat) (g : Blocks → Blocks) (b : Blocks) :
    atPosition o (fun _ => g) b = if o.isSome then g b else b := by
  cases o <;> rfl

/-! ### The order of the notices -/

/-- The blocks after the notices that come before the start of a segment: its end, the close of a window, and the
cycle start at B_0 (R69). -/
def countedOn (e : Env) (p : Nat) (t : Stamp) (b : Blocks) : Blocks :=
  let matches_ (f : Reader → Nat → Nat) : Bool := (List.range (fNcyl e.reader)).any (fun k => f e.reader k == p)
  let ended := if matches_ segmentBoundary then segEnd e t b else b
  let closed := if matches_ windowClose then knockClose e t ended else ended
  if 0 < fNcyl e.reader ∧ segmentBoundary e.reader 0 = p then cycleStart e t closed else closed

theorem handOn_eq (e : Env) (p : Nat) (t : Stamp) (b : Blocks) :
    handOn e p t b = atPosition (positionAt e.reader windowOpen p) (fun j => knockOpen e j)
      (atPosition (positionAt e.reader segmentBoundary p) (fun k => segStart e k t) (countedOn e p t b)) := by
  simp only [handOn, countedOn, atPosition_const, positionAt_isSome, positionAt_zero_iff]

/-- Settles O44: each notice is handed on where some firing position matches, the first one by its number, and the cycle
start where that is firing position 0. -/
theorem toothHandsOn : Obligations.ToothHandsOn := by
  refine ⟨fun e p t b => ?_, fun e t b => rfl⟩
  intro r matches_ first ended closed counted
  have hand {boundary opening : Option Nat} (hb : positionAt r segmentBoundary p = boundary)
      (ho : positionAt r windowOpen p = opening) :
      handOn e p t b = atPosition opening (fun j => knockOpen e j)
        (atPosition boundary (fun k => segStart e k t) counted) := by
    rw [handOn_eq e p t b, hb, ho]; rfl
  exact ⟨fun hb ho => hand (positionAt_none hb) (positionAt_none ho),
    fun j hb ho => hand (positionAt_none hb) (positionAt_eq_some_iff.mpr ho),
    fun k hb ho => hand (positionAt_eq_some_iff.mpr hb) (positionAt_none ho),
    fun k j hb ho => hand (positionAt_eq_some_iff.mpr hb) (positionAt_eq_some_iff.mpr ho)⟩

end Sys2Proof.Machine
end

section
/-! FRZ's collection: the records of the span as they become FINAL, its write-out, and a loss (R72, R173 to R175). -/

namespace Sys2Proof.Machine

/-! ### Write-out (R175) -/

/-- FRZ tells RATE of WRITING as the frame's words are handed to the freeze writer. -/
theorem writeOut_begun (e : Env) (f : Frz) (b : Blocks) :
    writeOutBegun e.table.valid f b (writeOut e { b with frz := f }) := by
  have htold : writeOut e { b with frz := f } = tellHeader e (fun h => { h with freeze := .writing })
      { b with frz := { f with state := .writing, missed := 0, writeList := frameWords f } } := rfl
  rw [htold]
  exact ⟨tellHeader_eq .., tellHeader_headerStep e (fun h => { h with freeze := .writing })
    { b with frz := { f with state := .writing, missed := 0, writeList := frameWords f } }⟩

/-! ### FINAL notices (R173) -/

section
variable {e : Env} {r : CycleRecord} {b : Blocks}

theorem finalNotice_idle (h : b.frz.state ≠ .collecting) : finalNotice e r b = b := by
  unfold finalNotice; split
  · next hc _ => exact absurd hc h
  · rfl

theorem finalNotice_collecting {trig : Trigger} (hc : b.frz.state = .collecting) (ht : b.frz.trigger = some trig) :
    finalNotice e r b =
      if spanPlace b.frz trig.cycle r.cycle ≤ b.frz.pre + e.table.frzPost then
        if spanPlace b.frz trig.cycle r.cycle = b.frz.pre + e.table.frzPost then
          writeOut e { b with frz := copyRecord b.frz trig.cycle r }
        else { b with frz := copyRecord b.frz trig.cycle r }
      else b := by
  unfold finalNotice; rw [hc, ht]

end

/-! ### Loss notices (R174) -/

theorem frzLoss_idle {e : Env} {b : Blocks} (h : b.frz.state ≠ .collecting) : frzLoss e b = b := by
  unfold frzLoss; split
  · next hc => exact absurd hc h
  · rfl

theorem frzLoss_collecting {e : Env} {b : Blocks} (h : b.frz.state = .collecting) :
    frzLoss e b = writeOut e { b with frz := { b.frz with truncated := true } } := by
  unfold frzLoss; rw [h]

/-- Settles O56: a record's place in the span decides what FRZ does with it, and the last place begins write-out, as a
loss does. -/
theorem collectionEnds : Obligations.CollectionEnds := by
  refine ⟨fun e r b => ⟨finalNotice_idle, fun trig hc ht => ?_⟩, fun e b => ⟨frzLoss_idle, fun hc => ?_⟩,
    fun e b => rfl⟩
  · intro place last copied
    have hnotice : finalNotice e r b = if place ≤ last then
        if place = last then writeOut e { b with frz := copied } else { b with frz := copied } else b :=
      finalNotice_collecting hc ht
    refine ⟨fun h => ?beyond, fun h => ?inside, fun h => ?atLast⟩
    case beyond => exact hnotice.trans (if_neg (Nat.not_le.mpr h))
    case inside => exact hnotice.trans ((if_pos (Nat.le_of_lt h)).trans (if_neg (Nat.ne_of_lt h)))
    case atLast =>
      rw [hnotice, if_pos (Nat.le_of_eq h), if_pos h]
      exact writeOut_begun e copied b
  · rw [frzLoss_collecting hc]
    exact writeOut_begun e { b.frz with truncated := true } b

end Sys2Proof.Machine
end

section
/-! What an event of CRANK leaves outside the blocks, and the stall timer's expiry (R76). -/

namespace Sys2Proof.Machine

/-! ### An event of CRANK at quiet ports (R14) -/

/-- With quiet ports an event of CRANK is followed by a grant to an internal claimant at most. -/
theorem crankEvent_granted {f : Env → Blocks → Blocks} {s : State} {b : Blocks} (hq : quietPorts s)
    (hr : s.resetPin = false) (h : f s.env s.blocks = b) : Granted { s with blocks := b } (crankEvent f s) := by
  have hrun : onBlocks f s = { s with blocks := b } := by unfold onBlocks; rw [h]
  rw [crankEvent_run f hr, hrun, settled_calm (s := { s with blocks := b }) hq.1]
  exact decideInternal_kept _

/-! ### The event of a loss (R72, R76) -/

/-- The event of a loss that EVQ places is requested with the value and the limit it was raised with. -/
theorem loseTo_requests {e : Env} {c : Crank} {ev : Event} {b : Blocks} (h : synced b.crank.sync = true)
    (ho : e.op = .running) (hm : maskNames (fEventMask e.reader) ev.kind = true)
    (hs : b.evq.slots[b.evq.producer]? = some .free) :
    ∃ words : Vector Word 8, .event b.evq.producer words ∈ (loseTo e c ev b).rpw.map Request.kind ∧
      words.get 3 = ev.value ∧ words.get 4 = ev.limit := by
  have hevq : (lossNotices e (setCrank c b)).evq = b.evq := by simp
  have hp := (raise_placed (ev := ev) ho hm (by rw [hevq]; exact hs)).2
  rw [hevq] at hp
  rw [loseTo_synced h]
  exact ⟨placedWords ev (lossNotices e (setCrank c b)), (tellHeader_grown .refl).keeps_kind hp, rfl, rfl⟩

/-! ### STALL_EXPIRY (R76) -/

theorem expireStall_running {e : Env} {b : Blocks} {n : Nat} (h : b.crank.stall = .running n) :
    expireStall e b = loseTo e (crankStalled b.crank) (stallEvent e.reader b.crank.position) b := by
  unfold expireStall; rw [h]; rfl

theorem crankStalled_unphased (c : Crank) : (crankStalled c).sync ≠ .phased := SyncState.noConfusion

/-- Settles O47: an expiry is a loss to STOPPED, which is handed on, and raises STALL, where CRANK was synced. -/
theorem stallExpires : Obligations.StallExpires := by
  intro s n hq hr hstall isSynced
  have g := crankEvent_granted hq hr (expireStall_running (e := s.env) hstall)
  obtain ⟨hcrank, hsync, hrows, htap, _⟩ := loseTo_kept (e := s.env) (b := s.blocks)
    (c := crankStalled s.blocks.crank) (ev := stallEvent s.env.reader s.blocks.crank.position)
  refine ⟨_, exec_stallExpiry s, g.outside, g.rowsKept hrows, g.crank.trans hcrank, ?_, ?_, fun h => ?unsynced,
    fun h => ?synced⟩
  · rw [g.rate]; exact hsync
  · rw [g.tap]; exact htap
  case unsynced =>
    have hno : synced s.blocks.crank.sync = false := Bool.eq_false_iff.mpr (mt (synced_iff _).mp h)
    rw [g.tap, g.seg, g.knock, g.evq, g.frz]
    dsimp only
    rw [loseTo_unsynced hno]; simp
  case synced =>
    have hyes := (synced_iff _).mpr h
    obtain ⟨hseg, hring, hknock, hfrz⟩ := loseTo_losses (e := s.env) (b := s.blocks)
      (c := crankStalled s.blocks.crank) (ev := stallEvent s.env.reader s.blocks.crank.position) hyes
      (crankStalled_unphased _)
    rw [g.seg, g.knock, g.frz]
    refine ⟨hseg, hring, hknock, hfrz, fun ho hm hs => ⟨?_, ?_⟩⟩
    · unfold slotIn; rw [g.evq]; exact loseTo_placed hyes ho hm hs
    · obtain ⟨words, hmem, hvalue, hlimit⟩ := loseTo_requests (e := s.env) (c := crankStalled s.blocks.crank)
        (ev := stallEvent s.env.reader s.blocks.crank.position) hyes ho hm hs
      exact ⟨words, g.requests.requested_iff.mp (requested_iff_mem.mpr hmem), hvalue, hlimit⟩

end Sys2Proof.Machine
end

section
/-! The record at the head of the tooth FIFO, and the cam edges (R58, R65, R66, R70, R72). -/

namespace Sys2Proof.Machine

/-! ### Taking a record (R58) -/

section
variable {e : Env} {b : Blocks} {r : ToothRecord} {rest : List ToothRecord}

theorem takeHead_cons (h : b.tap.fifo = r :: rest) (ho : e.op = .running) :
    takeHead e b = takeRecord e r (setFifo rest b) := by
  unfold takeHead; rw [h]; exact if_pos ho

/-- A record leaves the FIFO, and of the rest of TAP its handling touches the flags at most. -/
theorem takeHead_tap (h : b.tap.fifo = r :: rest) (ho : e.op = .running) :
    (takeHead e b).tap = { b.tap with fifo := rest, flags := (takeHead e b).tap.flags } := by
  refine Tap.eq_of_fields (u := { b.tap with fifo := rest }) ?_ ?_ ?_ ?_ ?_ ?_ ?_
  case refine_3 => rw [takeHead_cons h ho, takeRecord_tap_fifo]; rfl
  all_goals simp

/-- A record without a loss note, and any record in STOPPED, has no loss of sync (R58, step 1). -/
theorem takeNote_unlost (h : b.crank.sync = .stopped ∨ r.note = .none) : takeNote e r b = b := by
  unfold takeNote; split
  · rfl
  · rfl
  · next hn hs => exact (h.elim hs (by simp [hn])).elim
  · next hn hs => exact (h.elim hs (by simp [hn])).elim

/-- A loss note is a loss of sync to HUNT (R58, R72). -/
theorem takeNote_lost (hs : b.crank.sync ≠ .stopped) (hn : r.note ≠ .none) :
    ∃ ev, takeNote e r b = loseTo e (crankLost .hunt none b.crank) ev b := by
  unfold takeNote; split
  · next h => exact absurd h hs
  · next h _ => exact absurd h hn
  · exact ⟨_, rfl⟩
  · exact ⟨_, rfl⟩

theorem takeKind_cam (h : r.kind ≠ .crank) : takeKind e r b = camEdge e r.kind r.stamp b := by
  unfold takeKind; split
  · next hk => exact absurd hk h
  · next hk => rw [hk]
  · next hk => rw [hk]

end

/-! ### Cam edges (R65, R66, R70) -/

/-- An edge of this kind, at this engine position, is a phasing edge in the window (R65). -/
def phasingEdge (r : Reader) (kind : ToothKind) (p : Nat) : Prop :=
  kind = phasingKind r ∧ inCamWindow r (p % fTeethN r) = true

theorem phasingEdge_iff (r : Reader) (kind : ToothKind) (p : Nat) :
    phasingEdge r kind p ↔ kind = (if fCamEdge r = 0 then .camRise else .camFall) ∧
      fCamLo r ≤ p % fTeethN r ∧ p % fTeethN r ≤ fCamHi r := by
  simp [phasingEdge, phasingKind, inCamWindow]

section
variable {e : Env} {b : Blocks} {kind : ToothKind} {t : Stamp}

theorem camEdge_ignored (h : ¬ phasingEdge e.reader kind b.crank.position ∨ b.crank.sync = .stopped ∨
    b.crank.sync = .hunt ∨ b.crank.sync = .verify) : camEdge e kind t b = b := by
  unfold camEdge; dsimp only; split
  · next hedge =>
    rcases h.resolve_left (not_not_intro hedge) with hs | hs | hs <;> rw [hs]
  · rfl

theorem camEdge_crankSync (h : phasingEdge e.reader kind b.crank.position) (hs : b.crank.sync = .crankSync) :
    camEdge e kind t b = enterPhased e t b := by
  obtain ⟨hkind, hwindow⟩ := h
  unfold camEdge; dsimp only; rw [if_pos ⟨hkind, hwindow⟩, hs]

theorem camEdge_phased (h : phasingEdge e.reader kind b.crank.position) (hs : b.crank.sync = .phased) :
    camEdge e kind t b =
      if b.crank.position < fTeethN e.reader then edgeRev0 e t (b.crank.position % fTeethN e.reader) b
      else edgeRev1 e t (b.crank.position % fTeethN e.reader) b := by
  obtain ⟨hkind, hwindow⟩ := h
  unfold camEdge; dsimp only; rw [if_pos ⟨hkind, hwindow⟩, hs]

theorem enterPhased_kept :
    (enterPhased e t b).crank = crankPhased b.crank ∧ (enterPhased e t b).seg = segPhased b.seg ∧
      (enterPhased e t b).rate.header.sync = .phased := by
  simp [enterPhased, crankPhased]

theorem enterPhased_placed (ho : e.op = .running) (hm : maskNames (fEventMask e.reader) .syncGained = true)
    (hs : b.evq.slots[b.evq.producer]? = some .free) :
    (enterPhased e t b).evq.slots[b.evq.producer]? = some (.filling .syncGained) := by
  unfold enterPhased; rw [tellSync_evq]
  exact (raise_placed (b := { setCrank (crankPhased b.crank) b with seg := segPhased b.seg })
    (ev := syncGainedEvent b.crank t) ho hm hs).1

/-- An edge in revolution 0 is counted, and the second of a span is an error (R70). -/
theorem edgeRev0_crank (p : Nat) :
    (edgeRev0 e t p b).crank = { b.crank with
      spanEdges := satSucc 255 b.crank.spanEdges
      spanError := b.crank.spanError || decide (2 ≤ satSucc 255 b.crank.spanEdges) } := by
  unfold edgeRev0; dsimp only; split
  · next h => rw [raise_crank]; simp [setCrank, h]
  · next h => simp [setCrank, h]

theorem edgeRev1_crank (p : Nat) : (edgeRev1 e t p b).crank = { b.crank with spanError := true } := raise_crank ..

theorem edgeRev1_placed (p : Nat) (ho : e.op = .running) (hm : maskNames (fEventMask e.reader) .camFault = true)
    (hs : b.evq.slots[b.evq.producer]? = some .free) :
    (edgeRev1 e t p b).evq.slots[b.evq.producer]? = some (.filling .camFault) :=
  (raise_placed (b := setCrank { b.crank with spanError := true } b)
    (ev := camFaultEvent .wrongRev p b.crank.camRun t) ho hm hs).1

end

/-! ### Cam records -/

section
variable {e : Env} {b : Blocks} {r : ToothRecord} {rest : List ToothRecord}

/-- A cam record that is no loss is an edge for CRANK. -/
theorem takeHead_cam (h : b.tap.fifo = r :: rest) (ho : e.op = .running) (hk : r.kind ≠ .crank)
    (hn : b.crank.sync = .stopped ∨ r.note = .none) :
    takeHead e b = camEdge e r.kind r.stamp (setFifo rest b) := by
  rw [takeHead_cons h ho, takeRecord, takeNote_unlost (b := setFifo rest b) hn, takeKind_cam hk]

/-- A cam record with a loss note is a loss of sync, and no edge in the HUNT that follows. -/
theorem takeHead_cam_lost (h : b.tap.fifo = r :: rest) (ho : e.op = .running) (hk : r.kind ≠ .crank)
    (hs : b.crank.sync ≠ .stopped) (hn : r.note ≠ .none) :
    ∃ ev, takeHead e b = loseTo e (crankLost .hunt none b.crank) ev (setFifo rest b) := by
  obtain ⟨ev, hlost⟩ := takeNote_lost (e := e) (b := setFifo rest b) hs hn
  have hhunt : (loseTo e (crankLost .hunt none b.crank) ev (setFifo rest b)).crank.sync = .hunt := by
    rw [(loseTo_kept (e := e)).1]; rfl
  refine ⟨ev, ?_⟩
  rw [takeHead_cons h ho, takeRecord, hlost, takeKind_cam hk]
  exact camEdge_ignored (.inr (.inr (.inl hhunt)))

theorem takeHead_cam_rowsKept (h : b.tap.fifo = r :: rest) (ho : e.op = .running) (hk : r.kind ≠ .crank) :
    rowsKept b (takeHead e b) := by
  rw [takeHead_cons h ho, takeRecord, takeKind_cam hk]; simp [rowsKept]

end

/-- Settles O46: the loss note comes first, and then the edge by CRANK's state and the revolution. -/
theorem camEdges : Obligations.CamEdges := by
  intro s r rest hq hr ho hf hk c su p edge n
  have hedge : phasingEdge s.env.reader r.kind c.position ↔ edge := phasingEdge_iff ..
  refine ⟨fun h => ?ignored, ?taken⟩
  case ignored =>
    have hnote : c.sync = .stopped ∨ r.note = .none := h.imp_right And.left
    have hnone : ¬ edge ∨ c.sync = .stopped ∨ c.sync = .hunt ∨ c.sync = .verify :=
      h.elim (fun hs => .inr (.inl hs)) fun ⟨_, hno⟩ => hno.imp_right .inr
    have hb : takeHead s.env s.blocks = setFifo rest s.blocks :=
      (takeHead_cam hf ho hk hnote).trans (camEdge_ignored (hnone.imp_left (mt hedge.mp)))
    rw [exec_toothRecordTake, crankEvent_run _ hr]
    unfold onBlocks
    rw [hb]
    exact congrArg Host.Outcome.next (settled_quiet (s := { s with blocks := setFifo rest s.blocks }) hq)
  have g := crankEvent_granted (f := takeHead) hq hr rfl
  refine ⟨_, exec_toothRecordTake s, g.outside, g.rowsKept (takeHead_cam_rowsKept hf ho hk), ?_, ?_, ?_, ?_, ?_, ?_⟩
  · rw [g.tap]; exact takeHead_tap hf ho
  · intro hs hn
    obtain ⟨ev, hlost⟩ := takeHead_cam_lost (e := s.env) hf ho hk hs hn
    rw [g.crank, g.seg, g.knock]
    dsimp only
    rw [hlost]
    refine ⟨(loseTo_kept (e := s.env)).1, fun h => ?_, fun h => ?_⟩
    · obtain ⟨hseg, hring, hknock, _⟩ := loseTo_losses (e := s.env) (ev := ev) (b := setFifo rest s.blocks)
        (c := crankLost .hunt none c) ((synced_iff _).mpr h) SyncState.noConfusion
      exact ⟨hseg, hring, hknock⟩
    · have hno : synced (setFifo rest s.blocks).crank.sync = false := by
        rcases h with h | h <;> exact congrArg synced h
      rw [loseTo_unsynced hno]; simp
  · intro hn
    rw [g.knock]; dsimp only; rw [takeHead_cam hf ho hk (.inr hn)]; exact camEdge_knock ..
  · intro hn he hs
    have hb : takeHead s.env s.blocks = enterPhased s.env r.stamp (setFifo rest s.blocks) :=
      (takeHead_cam hf ho hk (.inr hn)).trans (camEdge_crankSync (hedge.mpr he) hs)
    obtain ⟨hcrank, hseg, hsync⟩ := enterPhased_kept (e := s.env) (b := setFifo rest s.blocks) (t := r.stamp)
    unfold slotIn
    rw [g.crank, g.seg, g.rate, g.evq]
    dsimp only
    rw [hb]
    exact ⟨hcrank, hseg, hsync, enterPhased_placed (e := s.env) (b := setFifo rest s.blocks) ho⟩
  · intro hn he hs hrev
    have hb : takeHead s.env s.blocks = edgeRev0 s.env r.stamp p (setFifo rest s.blocks) :=
      (takeHead_cam hf ho hk (.inr hn)).trans
        ((camEdge_phased (b := setFifo rest s.blocks) (hedge.mpr he) hs).trans (if_pos hrev))
    rw [g.crank, g.seg]
    dsimp only
    rw [hb]
    exact ⟨edgeRev0_seg .., edgeRev0_crank p⟩
  · intro hn he hs hrev
    have hb : takeHead s.env s.blocks = edgeRev1 s.env r.stamp p (setFifo rest s.blocks) :=
      (takeHead_cam hf ho hk (.inr hn)).trans
        ((camEdge_phased (b := setFifo rest s.blocks) (hedge.mpr he) hs).trans (if_neg (Nat.not_lt.mpr hrev)))
    unfold slotIn
    rw [g.crank, g.seg, g.evq]
    dsimp only
    rw [hb]
    exact ⟨edgeRev1_seg .., edgeRev1_crank p, edgeRev1_placed (e := s.env) (b := setFifo rest s.blocks) p ho⟩

end Sys2Proof.Machine
end

section
/-! Crank teeth: the class of a period, and what each tooth does in each sync state (R58 to R64, R72). -/

namespace Sys2Proof.Machine

/-! ### The class of a period (R59, R60) -/

section
variable {r : Reader} {p q : Nat}

theorem classOfPeriod_zero (o : Option Nat) : classOfPeriod r 0 o = .glitch := if_pos rfl

theorem classOfPeriod_none (h : 0 < p) : classOfPeriod r p none = .normal := if_neg (Nat.ne_of_gt h)

theorem classOfPeriod_some (h : 0 < p) : classOfPeriod r p (some q) = classOfRatio r (p * 16 / q) :=
  if_neg (Nat.ne_of_gt h)

end

section
variable {r : Reader} {x : Nat}

theorem classOfRatio_glitch (h : x < fGlitchMin r) : classOfRatio r x = .glitch := if_pos h

theorem classOfRatio_normal (h : fGlitchMin r ≤ x) (hg : x < fGapMin r) : classOfRatio r x = .normal :=
  (if_neg (Nat.not_lt.mpr h)).trans (if_pos hg)

theorem classOfRatio_gap (h : fGlitchMin r ≤ x) (hg : fGapMin r ≤ x) (hm : x ≤ fGapMax r) :
    classOfRatio r x = .gap :=
  (if_neg (Nat.not_lt.mpr h)).trans ((if_neg (Nat.not_lt.mpr hg)).trans (if_pos hm))

theorem classOfRatio_erratic (h : fGlitchMin r ≤ x) (hg : fGapMin r ≤ x) (hm : fGapMax r < x) :
    classOfRatio r x = .erratic :=
  (if_neg (Nat.not_lt.mpr h)).trans ((if_neg (Nat.not_lt.mpr hg)).trans (if_neg (Nat.not_le.mpr hm)))

end

/-! ### Teeth by what comes before their class (R59) -/

section
variable {e : Env} {b : Blocks} {t u : Stamp} {p : Nat}

/-- In STOPPED every tooth begins a hunt (R62). -/
theorem tooth_stopped (h : b.crank.sync = .stopped) : tooth e t b = moveCrank e (huntFrom t b.crank) b := by
  unfold tooth toothFirst toothWide toothPeriod; rw [h]; split <;> simp only [ite_self]

theorem toothFirst_going (hs : b.crank.sync ≠ .stopped) : toothFirst e t b = setCrank (firstTooth t b.crank) b := by
  unfold toothFirst; split
  · next h => exact absurd h hs
  · rfl

theorem tooth_first (hs : b.crank.sync ≠ .stopped) (hp : b.crank.tPrev = none) :
    tooth e t b = setCrank (firstTooth t b.crank) b := by
  unfold tooth; rw [hp]; exact toothFirst_going hs

theorem tooth_wide (hp : b.crank.tPrev = some u) (h : 2 ^ 23 ≤ (t - u).toNat) : tooth e t b = toothWide e t b := by
  unfold tooth; rw [hp]; exact if_pos h

theorem tooth_classed (hp : b.crank.tPrev = some u) (h : (t - u).toNat < 2 ^ 23) :
    tooth e t b = toothPeriod e t (t - u).toNat b := by
  unfold tooth; rw [hp]; exact if_neg (Nat.not_le.mpr h)

theorem toothWide_hunt (h : b.crank.sync = .hunt) : toothWide e t b = setCrank (firstTooth t b.crank) b := by
  unfold toothWide; rw [h]

theorem toothWide_verify (h : b.crank.sync = .verify) : toothWide e t b = moveCrank e (huntFrom t b.crank) b := by
  unfold toothWide; rw [h]

theorem toothWide_synced (h : b.crank.sync = .crankSync ∨ b.crank.sync = .phased) :
    toothWide e t b = lossOfSync e .erratic (some t) 0 t b := by
  unfold toothWide; rcases h with h | h <;> rw [h]

theorem toothPeriod_hunt (h : b.crank.sync = .hunt) : toothPeriod e t p b = toothHunt e t p b := by
  unfold toothPeriod; rw [h]

theorem toothPeriod_verify (h : b.crank.sync = .verify) : toothPeriod e t p b = toothVerify e t p b := by
  unfold toothPeriod; rw [h]

theorem toothPeriod_crankSync (h : b.crank.sync = .crankSync) : toothPeriod e t p b = toothCrankSync e t p b := by
  unfold toothPeriod; rw [h]

theorem toothPeriod_phased (h : b.crank.sync = .phased) : toothPeriod e t p b = toothPhased e t p b := by
  unfold toothPeriod; rw [h]

/-! ### Teeth by their class -/

/-- A GLITCH is taken alike in every state but STOPPED (R61). -/
theorem toothPeriod_glitch (hs : b.crank.sync ≠ .stopped) (h : classOfPeriod e.reader p b.crank.pPrev = .glitch) :
    toothPeriod e t p b = glitchTooth e t b := by
  unfold toothPeriod; split
  · next hstop => exact absurd hstop hs
  · unfold toothHunt; rw [h]
  · unfold toothVerify; rw [h]
  · unfold toothCrankSync; rw [h]
  · unfold toothPhased; rw [h]

theorem glitchTooth_counted (h : b.crank.glitch + 1 ≤ fGlitchLimit e.reader) :
    glitchTooth e t b = setCrank { b.crank with glitch := b.crank.glitch + 1 } b := if_neg (Nat.not_lt.mpr h)

theorem glitchTooth_lost (h : fGlitchLimit e.reader < b.crank.glitch + 1) :
    glitchTooth e t b = lossOfSync e .glitch (some t) (b.crank.glitch + 1) t b := if_pos h

theorem toothHunt_normal (h : classOfPeriod e.reader p b.crank.pPrev = .normal) :
    toothHunt e t p b = setCrank (acceptNormal t p b.crank) b := by unfold toothHunt; rw [h]

theorem toothHunt_erratic (h : classOfPeriod e.reader p b.crank.pPrev = .erratic) :
    toothHunt e t p b = setCrank (huntFrom t b.crank) b := by unfold toothHunt; rw [h]

theorem toothHunt_gap (h : classOfPeriod e.reader p b.crank.pPrev = .gap) :
    toothHunt e t p b = moveCrank e
      { acceptGap e.reader t p b.crank with sync := .verify, position := 0, verify := 0, confirmed := 0 } b := by
  unfold toothHunt; rw [h]

/-- In VERIFY these teeth confirm the wheel as it stands (R63). -/
theorem toothVerify_normal (h : classOfPeriod e.reader p b.crank.pPrev = .normal)
    (hv : b.crank.verify < lastTooth e.reader) :
    toothVerify e t p b = setCrank { acceptNormal t p b.crank with
      verify := b.crank.verify + 1, position := b.crank.verify + 1 } b := by
  unfold toothVerify; rw [h]; exact if_pos hv

theorem toothVerify_gap (h : classOfPeriod e.reader p b.crank.pPrev = .gap)
    (hv : b.crank.verify = lastTooth e.reader) :
    toothVerify e t p b = moveCrank e (confirmRevolution e.reader (acceptGap e.reader t p b.crank)) b := by
  unfold toothVerify; rw [h]; exact if_pos hv

/-- A tooth against the wheel in VERIFY begins the hunt again (R63). -/
theorem toothVerify_against (h : classOfPeriod e.reader p b.crank.pPrev = .normal ∧
      lastTooth e.reader ≤ b.crank.verify ∨
    classOfPeriod e.reader p b.crank.pPrev = .gap ∧ b.crank.verify ≠ lastTooth e.reader ∨
    classOfPeriod e.reader p b.crank.pPrev = .erratic) :
    toothVerify e t p b = moveCrank e (huntFrom t b.crank) b := by
  unfold toothVerify
  rcases h with ⟨h, hv⟩ | ⟨h, hv⟩ | h <;> rw [h]
  · exact if_neg (Nat.not_lt.mpr hv)
  · exact if_neg hv

/-- In CRANK_SYNC these teeth keep the sync (R64). -/
theorem toothCrankSync_normal (h : classOfPeriod e.reader p b.crank.pPrev = .normal)
    (hq : b.crank.position < lastTooth e.reader) :
    toothCrankSync e t p b =
      setCrank { acceptNormal t p b.crank with position := b.crank.position + 1 } b := by
  unfold toothCrankSync; rw [h]; exact if_pos hq

theorem toothCrankSync_gap (h : classOfPeriod e.reader p b.crank.pPrev = .gap)
    (hq : b.crank.position = lastTooth e.reader) :
    toothCrankSync e t p b =
      countUnphased e t (setCrank { acceptGap e.reader t p b.crank with position := 0 } b) := by
  unfold toothCrankSync; rw [h]; exact if_pos hq

/-- An unphased revolution is counted, and is no cam once the count reaches its limit (R67). -/
theorem countUnphased_crank :
    (countUnphased e t b).crank = { b.crank with
      unphased := satSucc 255 b.crank.unphased
      noCam := b.crank.noCam || decide (fPhaseTimeoutRevs e.reader ≤ satSucc 255 b.crank.unphased) } := by
  unfold countUnphased; dsimp only; split
  · next h => rw [raise_crank]; simp [setCrank, h.1]
  · next h =>
    cases hc : b.crank.noCam <;> simp_all [setCrank]

theorem confirmRevolution_more {r : Reader} {c : Crank} (h : c.confirmed + 1 < fConfirmRevs r) :
    confirmRevolution r c = { c with confirmed := c.confirmed + 1, verify := 0, position := 0 } :=
  if_neg (Nat.not_le.mpr h)

theorem confirmRevolution_last {r : Reader} {c : Crank} (h : fConfirmRevs r ≤ c.confirmed + 1) :
    confirmRevolution r c = { c with
      confirmed := c.confirmed + 1, verify := 0, position := 0, sync := .crankSync, unphased := 0, noCam := false } :=
  if_pos h

end

/-! ### What CRANK holds after a tooth, state by state -/

section
variable {e : Env} {b : Blocks} {t : Stamp} {p : Nat}

theorem toothHunt_crank :
    (classOfPeriod e.reader p b.crank.pPrev = .normal →
      (toothHunt e t p b).crank = acceptNormal t p b.crank) ∧
    (classOfPeriod e.reader p b.crank.pPrev = .erratic → (toothHunt e t p b).crank = huntFrom t b.crank) ∧
    (classOfPeriod e.reader p b.crank.pPrev = .gap → (toothHunt e t p b).crank =
      { acceptGap e.reader t p b.crank with sync := .verify, position := 0, verify := 0, confirmed := 0 }) :=
  ⟨fun h => by rw [toothHunt_normal h]; rfl, fun h => by rw [toothHunt_erratic h]; rfl,
    fun h => by rw [toothHunt_gap h, moveCrank_crank]⟩

theorem toothVerify_crank :
    (classOfPeriod e.reader p b.crank.pPrev = .normal → b.crank.verify < lastTooth e.reader →
      (toothVerify e t p b).crank =
        { acceptNormal t p b.crank with verify := b.crank.verify + 1, position := b.crank.verify + 1 }) ∧
    (classOfPeriod e.reader p b.crank.pPrev = .normal → lastTooth e.reader ≤ b.crank.verify →
      (toothVerify e t p b).crank = huntFrom t b.crank) ∧
    (classOfPeriod e.reader p b.crank.pPrev = .erratic → (toothVerify e t p b).crank = huntFrom t b.crank) ∧
    (classOfPeriod e.reader p b.crank.pPrev = .gap → b.crank.verify ≠ lastTooth e.reader →
      (toothVerify e t p b).crank = huntFrom t b.crank) ∧
    (classOfPeriod e.reader p b.crank.pPrev = .gap → b.crank.verify = lastTooth e.reader →
      b.crank.confirmed + 1 < fConfirmRevs e.reader → (toothVerify e t p b).crank =
        { acceptGap e.reader t p b.crank with
          confirmed := b.crank.confirmed + 1, verify := 0, position := 0 }) ∧
    (classOfPeriod e.reader p b.crank.pPrev = .gap → b.crank.verify = lastTooth e.reader →
      fConfirmRevs e.reader ≤ b.crank.confirmed + 1 → (toothVerify e t p b).crank =
        { acceptGap e.reader t p b.crank with
          confirmed := b.crank.confirmed + 1, verify := 0, position := 0, sync := .crankSync, unphased := 0
          noCam := false } ∧ (toothVerify e t p b).rate.header.sync = .crankSync) := by
  refine ⟨fun h hv => ?_, fun h hv => ?_, fun h => ?_, fun h hv => ?_, fun h hv hc => ?_, fun h hv hc => ?_⟩
  · rw [toothVerify_normal h hv]; rfl
  · rw [toothVerify_against (.inl ⟨h, hv⟩), moveCrank_crank]
  · rw [toothVerify_against (.inr (.inr h)), moveCrank_crank]
  · rw [toothVerify_against (.inr (.inl ⟨h, hv⟩)), moveCrank_crank]
  · rw [toothVerify_gap h hv, moveCrank_crank, confirmRevolution_more (c := acceptGap e.reader t p b.crank) hc]; rfl
  · rw [toothVerify_gap h hv, moveCrank_crank, moveCrank_header_sync,
      confirmRevolution_last (c := acceptGap e.reader t p b.crank) hc]
    exact ⟨rfl, rfl⟩

/-- A loss of sync at a tooth, whose timestamp begins the hunt (R72). -/
def LosesAt (e : Env) (t : Stamp) (b x : Blocks) : Prop :=
  ∃ ev, x = loseTo e (crankLost .hunt (some t) b.crank) ev b

theorem LosesAt.crank {x : Blocks} (h : LosesAt e t b x) : x.crank = crankLost .hunt (some t) b.crank := by
  obtain ⟨ev, rfl⟩ := h; exact (loseTo_kept (e := e)).1

theorem lossOfSync_losesAt (l : LossReason) (n : Nat) : LosesAt e t b (lossOfSync e l (some t) n t b) := ⟨_, rfl⟩

theorem toothLoss_losesAt (l : LossReason) : LosesAt e t b (toothLoss e l t p b) := ⟨_, rfl⟩

/-- A GLITCH is counted, or one too many loses sync (R61). -/
theorem toothPeriod_glitch_crank (hs : b.crank.sync ≠ .stopped)
    (h : classOfPeriod e.reader p b.crank.pPrev = .glitch) :
    (b.crank.glitch + 1 ≤ fGlitchLimit e.reader →
      (toothPeriod e t p b).crank = { b.crank with glitch := b.crank.glitch + 1 }) ∧
    (fGlitchLimit e.reader < b.crank.glitch + 1 →
      (toothPeriod e t p b).crank = crankLost .hunt (some t) b.crank) := by
  rw [toothPeriod_glitch hs h]
  refine ⟨fun hl => ?_, fun hl => ?_⟩
  · rw [glitchTooth_counted hl]; rfl
  · rw [glitchTooth_lost hl]; exact (lossOfSync_losesAt _ _).crank

/-- A tooth against the wheel in CRANK_SYNC loses sync (R64). -/
theorem toothCrankSync_against (h : classOfPeriod e.reader p b.crank.pPrev = .normal ∧
      lastTooth e.reader ≤ b.crank.position ∨
    classOfPeriod e.reader p b.crank.pPrev = .gap ∧ b.crank.position ≠ lastTooth e.reader ∨
    classOfPeriod e.reader p b.crank.pPrev = .erratic) :
    LosesAt e t b (toothCrankSync e t p b) := by
  unfold toothCrankSync
  rcases h with ⟨h, hq⟩ | ⟨h, hq⟩ | h <;> rw [h]
  · exact ⟨_, if_neg (Nat.not_lt.mpr hq)⟩
  · exact ⟨_, if_neg hq⟩
  · exact toothLoss_losesAt _

theorem toothCrankSync_crank :
    (classOfPeriod e.reader p b.crank.pPrev = .normal → b.crank.position < lastTooth e.reader →
      (toothCrankSync e t p b).crank = { acceptNormal t p b.crank with position := b.crank.position + 1 }) ∧
    (classOfPeriod e.reader p b.crank.pPrev = .normal → lastTooth e.reader ≤ b.crank.position →
      (toothCrankSync e t p b).crank = crankLost .hunt (some t) b.crank) ∧
    (classOfPeriod e.reader p b.crank.pPrev = .erratic →
      (toothCrankSync e t p b).crank = crankLost .hunt (some t) b.crank) ∧
    (classOfPeriod e.reader p b.crank.pPrev = .gap → b.crank.position ≠ lastTooth e.reader →
      (toothCrankSync e t p b).crank = crankLost .hunt (some t) b.crank) ∧
    (classOfPeriod e.reader p b.crank.pPrev = .gap → b.crank.position = lastTooth e.reader →
      (toothCrankSync e t p b).crank = { acceptGap e.reader t p b.crank with
        position := 0, unphased := satSucc 255 b.crank.unphased
        noCam := b.crank.noCam || decide (fPhaseTimeoutRevs e.reader ≤ satSucc 255 b.crank.unphased) }) := by
  refine ⟨fun h hq => ?_, fun h hq => ?_, fun h => ?_, fun h hq => ?_, fun h hq => ?_⟩
  · rw [toothCrankSync_normal h hq]; rfl
  · exact (toothCrankSync_against (.inl ⟨h, hq⟩)).crank
  · exact (toothCrankSync_against (.inr (.inr h))).crank
  · exact (toothCrankSync_against (.inr (.inl ⟨h, hq⟩))).crank
  · rw [toothCrankSync_gap h hq]; exact countUnphased_crank

end

/-! ### What a tooth leaves below PHASED -/

/-- SEG, KNOCK, EVQ and FRZ are as before. -/
def OthersKept (b x : Blocks) : Prop := x.seg = b.seg ∧ x.knock = b.knock ∧ x.evq = b.evq ∧ x.frz = b.frz

section
variable {e : Env} {b : Blocks} {t : Stamp} {p : Nat}

theorem setCrank_others (c : Crank) : OthersKept b (setCrank c b) := ⟨rfl, rfl, rfl, rfl⟩

theorem moveCrank_others (c : Crank) : OthersKept b (moveCrank e c b) := by simp [OthersKept]

/-- A loss where CRANK was not synced is told to RATE alone (R72). -/
theorem loseTo_others {c : Crank} {ev : Event} (h : synced b.crank.sync = false) :
    OthersKept b (loseTo e c ev b) := by
  rw [loseTo_unsynced h]; exact moveCrank_others c

theorem glitchTooth_others (h : synced b.crank.sync = false) : OthersKept b (glitchTooth e t b) := by
  unfold glitchTooth; split
  · exact loseTo_others h
  · exact setCrank_others _

theorem toothHunt_others (h : synced b.crank.sync = false) : OthersKept b (toothHunt e t p b) := by
  unfold toothHunt; split
  · exact setCrank_others _
  · exact moveCrank_others _
  · exact setCrank_others _
  · exact glitchTooth_others h

theorem toothVerify_others (h : synced b.crank.sync = false) : OthersKept b (toothVerify e t p b) := by
  unfold toothVerify; split
  · split
    · exact setCrank_others _
    · exact moveCrank_others _
  · split <;> exact moveCrank_others _
  · exact moveCrank_others _
  · exact glitchTooth_others h

/-- Where CRANK is not synced a tooth moves CRANK alone, and RATE is told. -/
theorem tooth_others (h : synced b.crank.sync = false) : OthersKept b (tooth e t b) := by
  have hno : ¬ (b.crank.sync = .crankSync ∨ b.crank.sync = .phased) := by rw [← synced_iff, h]; decide
  unfold tooth; split
  · unfold toothFirst; split
    · exact moveCrank_others _
    · exact setCrank_others _
  · split
    · unfold toothWide; split
      · exact moveCrank_others _
      · exact setCrank_others _
      · exact moveCrank_others _
      · next hs => exact absurd (.inl hs) hno
      · next hs => exact absurd (.inr hs) hno
    · unfold toothPeriod; split
      · exact moveCrank_others _
      · exact toothHunt_others h
      · exact toothVerify_others h
      · next hs => exact absurd (.inl hs) hno
      · next hs => exact absurd (.inr hs) hno

/-- Below PHASED no tooth begins a cycle or ends a segment or a window. -/
theorem tooth_rowsKept (h : b.crank.sync ≠ .phased) :
    rowsKept b (tooth e t b) ∧ (tooth e t b).rate.header.cycle = b.rate.header.cycle := by
  unfold tooth; split
  · simp [rowsKept]
  · split
    · unfold toothWide; split <;> simp [rowsKept]
    · unfold toothPeriod; split
      case h_5 hs => exact absurd hs h
      all_goals simp [rowsKept]

/-- From CRANK_SYNC a tooth loses sync, or CRANK_SYNC goes on with SEG and KNOCK untouched (R64). -/
theorem toothCrankSync_cases (h : b.crank.sync = .crankSync) :
    LosesAt e t b (toothCrankSync e t p b) ∨ (toothCrankSync e t p b).crank.sync = .crankSync ∧
      (toothCrankSync e t p b).seg = b.seg ∧ (toothCrankSync e t p b).knock = b.knock := by
  unfold toothCrankSync; split
  · split
    · exact .inr ⟨h, rfl, rfl⟩
    · exact .inl (toothLoss_losesAt _)
  · split
    · exact .inr ⟨by rw [countUnphased_crank]; exact h, by simp, by simp⟩
    · exact .inl (toothLoss_losesAt _)
  · exact .inl (toothLoss_losesAt _)
  · unfold glitchTooth; split
    · exact .inl (lossOfSync_losesAt _ _)
    · exact .inr ⟨h, rfl, rfl⟩

theorem tooth_crankSync_cases (h : b.crank.sync = .crankSync) :
    LosesAt e t b (tooth e t b) ∨ (tooth e t b).crank.sync = .crankSync ∧
      (tooth e t b).seg = b.seg ∧ (tooth e t b).knock = b.knock := by
  unfold tooth; split
  · rw [toothFirst_going (by simp [h])]; exact .inr ⟨h, rfl, rfl⟩
  · split
    · rw [toothWide_synced (.inl h)]; exact .inl (lossOfSync_losesAt _ _)
    · rw [toothPeriod_crankSync h]; exact toothCrankSync_cases h

end

/-! ### What a tooth in PHASED makes of CRANK (R68 to R71, R73) -/

section
variable {e : Env} {b : Blocks} {t : Stamp} {p : Nat}

theorem atPosition_crank {f : Nat → Blocks → Blocks} (h : ∀ k x, (f k x).crank = x.crank) (o : Option Nat) :
    (atPosition o f b).crank = b.crank := by
  cases o with
  | none => rfl
  | some k => exact h k b

/-- The cycle number rises at B_0 alone (R71). -/
def cycleAtBoundary (r : Reader) (p : Nat) (c : BitVec 32) : BitVec 32 :=
  if 0 < fNcyl r ∧ segmentBoundary r 0 = p then c + 1 else c

theorem cycleStart_crank : (cycleStart e t b).crank = { b.crank with cycle := b.crank.cycle + 1 } := by
  unfold cycleStart; rw [rateCycleStart_crank]; rfl

theorem countedOn_crank :
    (countedOn e p t b).crank = { b.crank with cycle := cycleAtBoundary e.reader p b.crank.cycle } := by
  have hended (m : Bool) : (if m then segEnd e t b else b).crank = b.crank := by
    cases m with
    | false => rfl
    | true => exact segEnd_crank ..
  have hclosed (m : Bool) (x : Blocks) : (if m then knockClose e t x else x).crank = x.crank := by
    cases m with
    | false => rfl
    | true => exact knockClose_crank ..
  unfold countedOn cycleAtBoundary; dsimp only
  by_cases h : 0 < fNcyl e.reader ∧ segmentBoundary e.reader 0 = p
  · simp only [if_pos h, cycleStart_crank, hclosed, hended]
  · simp only [if_neg h, hclosed, hended]

theorem handOn_crank :
    (handOn e p t b).crank = { b.crank with cycle := cycleAtBoundary e.reader p b.crank.cycle } := by
  rw [handOn_eq]
  exact (atPosition_crank (f := fun j => knockOpen e j) (fun _ _ => rfl) _).trans
    ((atPosition_crank (f := fun k => segStart e k t) (fun _ _ => rfl) _).trans countedOn_crank)

theorem phaseLoss_crank : (phaseLoss e t b).crank = crankUnphased e.reader b.crank := by
  simp [phaseLoss, setCrank]

theorem spanMissing_sync : (spanMissing e t b).crank.sync = b.crank.sync := by
  unfold spanMissing; split
  · rw [raise_crank]; rfl
  · rfl

/-- The judgement of a span keeps the sync state, or loses the phase (R73). -/
theorem spanAt_sync :
    (spanAt e t b).crank.sync = b.crank.sync ∨ (spanAt e t b).crank.sync = .crankSync := by
  unfold spanAt; split
  · unfold judgeSpan closeSpan; split
    · rw [phaseLoss_crank]; exact .inr rfl
    · exact .inl spanMissing_sync
  · exact .inl rfl

theorem handOnIfPhased_sync : (handOnIfPhased e p t b).crank.sync = b.crank.sync := by
  unfold handOnIfPhased; split
  · rw [handOn_crank]
  · rfl

/-- From PHASED only a loss of sync leads to HUNT (R68, R73). -/
theorem toothPhased_cases (h : b.crank.sync = .phased) :
    LosesAt e t b (toothPhased e t p b) ∨ (toothPhased e t p b).crank.sync ≠ .hunt := by
  unfold toothPhased; split
  · split
    · exact .inl (toothLoss_losesAt _)
    · refine .inr ?_
      rw [handOn_crank]; simp [setCrank, acceptNormal, h]
  · split
    · refine .inr ?_
      rw [handOnIfPhased_sync]
      rcases spanAt_sync (e := e) (t := t) (b := setCrank { acceptGap e.reader t p b.crank with
        position := positionAfterGap e.reader b.crank.position } b) with hs | hs <;> rw [hs]
      · simp [setCrank, acceptGap, h]
      · decide
    · exact .inl (toothLoss_losesAt _)
  · exact .inl (toothLoss_losesAt _)
  · unfold glitchTooth; split
    · exact .inl (lossOfSync_losesAt _ _)
    · exact .inr (by simp [setCrank, h])

theorem tooth_phased_cases (h : b.crank.sync = .phased) :
    LosesAt e t b (tooth e t b) ∨ (tooth e t b).crank.sync ≠ .hunt := by
  unfold tooth; split
  · rw [toothFirst_going (by simp [h])]; exact .inr (by simp [setCrank, firstTooth, h])
  · split
    · rw [toothWide_synced (.inr h)]; exact .inl (lossOfSync_losesAt _ _)
    · rw [toothPeriod_phased h]; exact toothPhased_cases h

/-- From a synced state a tooth leads to HUNT by a loss of sync alone. -/
theorem tooth_hunt_loses (h : b.crank.sync = .crankSync ∨ b.crank.sync = .phased)
    (hx : (tooth e t b).crank.sync = .hunt) : LosesAt e t b (tooth e t b) := by
  rcases h with h | h
  · refine (tooth_crankSync_cases h).resolve_right ?_
    rintro ⟨hs, _⟩
    rw [hs] at hx; cases hx
  · exact (tooth_phased_cases h).resolve_right (not_not_intro hx)

end

/-! ### Crank records (R58) -/

/-- The blocks as a CRANK record is processed: it has left the FIFO and restarted the stall timer. -/
def recordTaken (rest : List ToothRecord) (b : Blocks) : Blocks := restartStall (setFifo rest b)

section
variable {e : Env} {b : Blocks} {r : ToothRecord} {rest : List ToothRecord}

theorem takeHead_tooth (h : b.tap.fifo = r :: rest) (ho : e.op = .running) (hk : r.kind = .crank)
    (hn : b.crank.sync = .stopped ∨ r.note = .none) : takeHead e b = tooth e r.stamp (recordTaken rest b) := by
  rw [takeHead_cons h ho, takeRecord, takeNote_unlost (b := setFifo rest b) hn, takeKind, hk]; rfl

/-- A CRANK record with a loss note is a loss of sync, and then a first tooth in HUNT (R58, R59). -/
theorem takeHead_tooth_lost (h : b.tap.fifo = r :: rest) (ho : e.op = .running) (hk : r.kind = .crank)
    (hs : b.crank.sync ≠ .stopped) (hn : r.note ≠ .none) :
    ∃ ev, takeHead e b =
      setCrank { crankLost .hunt (some r.stamp) b.crank with stall := .running 0 }
        (loseTo e (crankLost .hunt none b.crank) ev (setFifo rest b)) := by
  obtain ⟨ev, hlost⟩ := takeNote_lost (e := e) (b := setFifo rest b) hs hn
  have hcrank : (loseTo e (crankLost .hunt none b.crank) ev (setFifo rest b)).crank = crankLost .hunt none b.crank :=
    (loseTo_kept (e := e)).1
  have hbegun : restartStall (loseTo e (crankLost .hunt none b.crank) ev (setFifo rest b)) =
      setCrank { crankLost .hunt none b.crank with stall := .running 0 }
        (loseTo e (crankLost .hunt none b.crank) ev (setFifo rest b)) := by unfold restartStall; rw [hcrank]
  refine ⟨ev, ?_⟩
  rw [takeHead_cons h ho, takeRecord, hlost, takeKind, hk]
  exact (congrArg _ hbegun).trans (tooth_first SyncState.noConfusion rfl)

/-- Below PHASED, and with a loss note in every state, a CRANK record leaves the rows and the cycle number. -/
theorem takeHead_tooth_rowsKept (h : b.tap.fifo = r :: rest) (ho : e.op = .running) (hk : r.kind = .crank)
    (hb : b.crank.sync ≠ .phased ∨ r.note ≠ .none) :
    rowsKept b (takeHead e b) ∧ (takeHead e b).rate.header.cycle = b.rate.header.cycle := by
  by_cases hn : b.crank.sync = .stopped ∨ r.note = .none
  · have hs : b.crank.sync ≠ .phased := by
      rcases hn with hn | hn
      · simp [hn]
      · exact hb.resolve_right (not_not_intro hn)
    rw [takeHead_tooth h ho hk hn]
    exact tooth_rowsKept (b := recordTaken rest b) hs
  · obtain ⟨hs, hn⟩ := not_or.mp hn
    obtain ⟨ev, hlost⟩ := takeHead_tooth_lost (e := e) h ho hk hs hn
    rw [hlost]; simp [rowsKept]

theorem takeHead_tooth_others (h : b.tap.fifo = r :: rest) (ho : e.op = .running) (hk : r.kind = .crank)
    (hb : synced b.crank.sync = false) : OthersKept b (takeHead e b) := by
  by_cases hn : b.crank.sync = .stopped ∨ r.note = .none
  · rw [takeHead_tooth h ho hk hn]; exact tooth_others (b := recordTaken rest b) hb
  · obtain ⟨hs, hn⟩ := not_or.mp hn
    obtain ⟨ev, hlost⟩ := takeHead_tooth_lost (e := e) h ho hk hs hn
    rw [hlost]; exact loseTo_others (b := setFifo rest b) hb

/-- Where CRANK_SYNC goes on, SEG and KNOCK are untouched. -/
theorem takeHead_tooth_crankSync (h : b.tap.fifo = r :: rest) (ho : e.op = .running) (hk : r.kind = .crank)
    (hb : b.crank.sync = .crankSync) (hx : (takeHead e b).crank.sync = .crankSync) :
    (takeHead e b).seg = b.seg ∧ (takeHead e b).knock = b.knock := by
  by_cases hn : r.note = .none
  · rw [takeHead_tooth h ho hk (.inr hn)] at hx ⊢
    refine ((tooth_crankSync_cases (b := recordTaken rest b) hb).resolve_left fun hl => ?_).2
    rw [hl.crank] at hx; cases hx
  · obtain ⟨ev, hlost⟩ := takeHead_tooth_lost (e := e) h ho hk (by simp [hb]) hn
    rw [hlost] at hx; cases hx

/-- From a synced state a record that leads to HUNT is a loss, which SEG, KNOCK and FRZ are told of (R72). -/
theorem takeHead_tooth_losses (h : b.tap.fifo = r :: rest) (ho : e.op = .running) (hk : r.kind = .crank)
    (hb : b.crank.sync = .crankSync ∨ b.crank.sync = .phased) (hx : (takeHead e b).crank.sync = .hunt) :
    (takeHead e b).seg = { b.seg with openSeg := none, ring := (takeHead e b).seg.ring } ∧
      ringSettled b.seg (takeHead e b).seg ∧ (takeHead e b).knock = { b.knock with openWin := none } ∧
      (takeHead e b).frz.state ≠ .collecting := by
  have hsynced := (synced_iff _).mpr hb
  by_cases hn : r.note = .none
  · rw [takeHead_tooth h ho hk (.inr hn)] at hx ⊢
    obtain ⟨ev, hloss⟩ := tooth_hunt_loses (b := recordTaken rest b) hb hx
    rw [hloss]
    exact loseTo_losses (b := recordTaken rest b) hsynced SyncState.noConfusion
  · have hs : b.crank.sync ≠ .stopped := by rcases hb with hb | hb <;> simp [hb]
    obtain ⟨ev, hlost⟩ := takeHead_tooth_lost (e := e) h ho hk hs hn
    rw [hlost]
    exact loseTo_losses (b := setFifo rest b) hsynced SyncState.noConfusion

end

/-- Settles O42: the class by the bounds of R60; then the tooth by its loss note, CRANK's state, the width of its period
and its class. -/
theorem teethBeforePhasing : Obligations.TeethBeforePhasing := by
  refine ⟨fun r p => ⟨fun q => classOfPeriod_zero q, fun hp => classOfPeriod_none hp, fun q hp _ => ?_⟩, ?_⟩
  · rw [classOfPeriod_some hp]
    exact ⟨classOfRatio_glitch, classOfRatio_normal, classOfRatio_gap, classOfRatio_erratic⟩
  intro s r rest hq hr ho hf hk t0 c su last lost hunt
  have g := crankEvent_granted (f := takeHead) hq hr rfl
  have hhead (hn : c.sync = .stopped ∨ r.note = .none) :
      takeHead s.env s.blocks = tooth s.env t0 (recordTaken rest s.blocks) := takeHead_tooth hf ho hk hn
  refine ⟨_, exec_toothRecordTake s, g.outside, ?tap, fun h => ?rows, fun h => ?others, fun hs hx => ?goesOn,
    fun h hx => ?losses, fun hs => ?stopped, fun hs hn => ?noted, fun hs hn hp => ?first,
    fun u hs hn hp hw => ?wide, fun u hs hn hp hw => ?classed⟩
  case tap => rw [g.tap]; exact takeHead_tap hf ho
  case rows =>
    obtain ⟨hrows, hcycle⟩ := takeHead_tooth_rowsKept (e := s.env) hf ho hk h
    exact ⟨g.rowsKept hrows, by rw [g.rate]; exact hcycle⟩
  case others =>
    have hno : synced c.sync = false := by rcases h with h | h | h <;> rw [h] <;> rfl
    rw [g.seg, g.knock, g.evq, g.frz]
    exact takeHead_tooth_others hf ho hk hno
  case goesOn =>
    rw [g.seg, g.knock]
    exact takeHead_tooth_crankSync hf ho hk hs ((congrArg Crank.sync g.crank).symm.trans hx)
  case losses =>
    rw [g.seg, g.knock, g.frz]
    exact takeHead_tooth_losses hf ho hk h ((congrArg Crank.sync g.crank).symm.trans hx)
  case stopped =>
    rw [g.crank, hhead (.inl hs), tooth_stopped (b := recordTaken rest s.blocks) hs]
    exact moveCrank_crank ..
  case noted =>
    obtain ⟨ev, hlost⟩ := takeHead_tooth_lost (e := s.env) hf ho hk hs hn
    rw [g.crank, hlost]; rfl
  case first => rw [g.crank, hhead (.inr hn), tooth_first (b := recordTaken rest s.blocks) hs hp]; rfl
  case wide =>
    rw [g.crank, hhead (.inr hn), tooth_wide (b := recordTaken rest s.blocks) hp hw]
    refine ⟨fun h => ?_, fun h => ?_, fun h => ?_⟩
    · rw [toothWide_hunt (b := recordTaken rest s.blocks) h]; rfl
    · rw [toothWide_verify (b := recordTaken rest s.blocks) h]; exact moveCrank_crank ..
    · rw [toothWide_synced (b := recordTaken rest s.blocks) h]; exact (lossOfSync_losesAt _ _).crank
  case classed =>
    intro p k normal gap
    rw [g.crank, g.rate, hhead (.inr hn), tooth_classed (b := recordTaken rest s.blocks) hp hw]
    have hglitch := toothPeriod_glitch_crank (e := s.env) (b := recordTaken rest s.blocks) (t := t0) (p := p) hs
    refine ⟨fun hg => (hglitch hg).1, fun hg => (hglitch hg).2, fun h => ?_, fun h => ?_, fun h => ?_⟩
    · rw [toothPeriod_hunt (b := recordTaken rest s.blocks) h]
      exact toothHunt_crank (e := s.env) (b := recordTaken rest s.blocks) (t := t0) (p := p)
    · rw [toothPeriod_verify (b := recordTaken rest s.blocks) h]
      exact toothVerify_crank (e := s.env) (b := recordTaken rest s.blocks) (t := t0) (p := p)
    · rw [toothPeriod_crankSync (b := recordTaken rest s.blocks) h]
      exact toothCrankSync_crank (e := s.env) (b := recordTaken rest s.blocks) (t := t0) (p := p)

end Sys2Proof.Machine
end

section
/-! Crank teeth in PHASED: the engine position, the span's judgement, and what each block holds after them
(R68 to R73). -/

namespace Sys2Proof.Machine

/-! ### A change of CRANK that no event reads

A raised event reads of CRANK the sync state and the cycle number alone (R153, R171). -/

section
variable {e : Env} {c : Crank} {b : Blocks}

theorem tellHeader_setCrank (f : Header → Header) :
    tellHeader e f (setCrank c b) = setCrank c (tellHeader e f b) := by
  unfold tellHeader requestMirror
  by_cases hf : f b.rate.header = b.rate.header
  · rw [if_pos hf, if_pos (show f (setCrank c b).rate.header = (setCrank c b).rate.header from hf)]
  · rw [if_neg hf, if_neg (show ¬ f (setCrank c b).rate.header = (setCrank c b).rate.header from hf)]
    split <;> rfl

theorem setFlag_setCrank (f : Flag) : setFlag e f (setCrank c b) = setCrank c (setFlag e f b) := by
  unfold setFlag; rw [setCrank_tap]; split
  · rfl
  · exact tellHeader_setCrank (b := { b with
      tap := { b.tap with flags := b.tap.flags ||| flagBit f }, knock := knockFlagSet f b.knock }) _

theorem setFreezeState_setCrank (st : FreezeState) :
    setFreezeState e st (setCrank c b) = setCrank c (setFreezeState e st b) :=
  tellHeader_setCrank (b := { b with frz := { b.frz with state := st } }) (fun h => { h with freeze := st })

theorem writeOut_setCrank : writeOut e (setCrank c b) = setCrank c (writeOut e b) :=
  setFreezeState_setCrank (b := { b with frz := { b.frz with writeList := frameWords b.frz, missed := 0 } }) _

section
variable (hs : c.sync = b.crank.sync) (hc : c.cycle = b.crank.cycle)
include hs hc

theorem placeEvent_setCrank (ev : Event) : placeEvent e ev (setCrank c b) = setCrank c (placeEvent e ev b) := by
  have hcontext : contextOf (setCrank c b) = contextOf b := by simp only [contextOf, setCrank, hs, hc]
  unfold placeEvent; rw [hcontext]
  exact tellHeader_setCrank (b := request (.event b.evq.producer (placedWords ev b))
    { b with evq := { b.evq with
        slots := b.evq.slots.set b.evq.producer (.filling ev.kind), seq := b.evq.seq + 1, dropped := 0
        producer := (b.evq.producer + 1) % e.table.queueCapacity } }) _

theorem takeEvent_setCrank (ev : Event) : takeEvent e ev (setCrank c b) = setCrank c (takeEvent e ev b) := by
  unfold takeEvent; rw [setCrank_evq]; split
  · split
    · exact placeEvent_setCrank hs hc ev
    · exact setFlag_setCrank (b := { b with evq := { b.evq with dropped := min 255 (b.evq.dropped + 1) } }) _
  · rfl

omit hs in
theorem startCollection_setCrank (k : TriggerKind) (n : Option Nat) :
    startCollection e k n (setCrank c b) = setCrank c (startCollection e k n b) := by
  have hcoll : collectionOf e k n (setCrank c b) = collectionOf e k n b := by simp only [collectionOf, setCrank, hc]
  have hdone : completeAtTrigger e (setCrank c b) = completeAtTrigger e b := by
    simp only [completeAtTrigger, setCrank, hc]
  have hbegun : setFreezeState e .collecting { setCrank c b with frz := collectionOf e k n b } =
      setCrank c (setFreezeState e .collecting { b with frz := collectionOf e k n b }) :=
    setFreezeState_setCrank (b := { b with frz := collectionOf e k n b }) _
  unfold startCollection; rw [hcoll, hdone, hbegun]; dsimp only
  split
  · exact writeOut_setCrank
  · rfl

theorem trigger_setCrank (k : TriggerKind) (n : Option Nat) :
    trigger e k n (setCrank c b) = setCrank c (trigger e k n b) := by
  have hstarts : collectionStarts (setCrank c b) = collectionStarts b := by
    simp only [collectionStarts, setCrank, hs, hc]
  unfold trigger
  rw [hstarts, setCrank_frz]
  split
  · rfl
  · split
    · exact startCollection_setCrank hc k n
    · rfl
  all_goals rfl

theorem raise_setCrank (ev : Event) : raise e ev (setCrank c b) = setCrank c (raise e ev b) := by
  unfold raise offerEvent; split
  · rw [takeEvent_setCrank hs hc]; split
    · exact trigger_setCrank (by rw [takeEvent_crank]; exact hs) (by rw [takeEvent_crank]; exact hc) _ _
    · rfl
  · rfl

end
end

/-! ### The span that ends at engine position 0 (R70, R73) -/

/-- CRANK as a span in error is counted. -/
def errorCounted (c : Crank) : Crank := { c with camRun := c.camRun + 1, spanEdges := 0, spanError := false }

section
variable {e : Env} {b : Blocks} {t : Stamp}

theorem spanMissing_reported (h : b.crank.spanEdges ≠ 0 ∨ b.crank.spanError = true) : spanMissing e t b = b := by
  refine if_neg ?_
  rintro ⟨hedges, herror⟩
  rcases h with h | h
  · exact h hedges
  · rw [herror] at h; cases h

theorem spanMissing_noEdge (h : b.crank.spanEdges = 0) (he : b.crank.spanError = false) :
    spanMissing e t b = setCrank { b.crank with spanError := true }
      (raise e (camFaultEvent .missing 0 b.crank.camRun t) b) :=
  (if_pos ⟨h, he⟩).trans (raise_setCrank (c := { b.crank with spanError := true }) (b := b) rfl rfl _)

/-- A span in error, with its MISSING reported, is in error for CRANK too. -/
theorem spanMissing_crank (h : b.crank.spanEdges = 0 ∨ b.crank.spanError = true) :
    (spanMissing e t b).crank = { b.crank with spanError := true } := by
  cases he : b.crank.spanError with
  | true => rw [spanMissing_reported (.inr he), ← he]
  | false => rw [spanMissing_noEdge (h.resolve_right (by simp [he])) he]; rfl

theorem spanAt_inside (h : b.crank.position ≠ 0) : spanAt e t b = b := if_neg h

theorem spanAt_end (h : b.crank.position = 0) : spanAt e t b = closeSpan e t (spanMissing e t b) := if_pos h

/-- A span with an edge and no error ends the run of errors (R70). -/
theorem spanAt_good (hp : b.crank.position = 0) (h : b.crank.spanEdges ≠ 0) (he : b.crank.spanError = false) :
    spanAt e t b = setCrank { b.crank with camRun := 0, spanEdges := 0 } b := by
  have hkept : { b.crank with camRun := 0, spanEdges := 0, spanError := false } =
      { b.crank with camRun := 0, spanEdges := 0 } := by rw [← he]
  rw [spanAt_end hp, spanMissing_reported (.inl h), ← hkept]
  unfold closeSpan runAfter; rw [he]; rfl

section
variable (hp : b.crank.position = 0) (h : b.crank.spanEdges = 0 ∨ b.crank.spanError = true)
include hp h

/-- A first or second span in error in a row is counted (R70). -/
theorem spanAt_error (hrun : b.crank.camRun < 2) :
    spanAt e t b = setCrank (errorCounted b.crank) (spanMissing e t b) := by
  rw [spanAt_end hp]
  unfold closeSpan runAfter; rw [spanMissing_crank h]
  exact if_neg (by show ¬ 3 ≤ b.crank.camRun + 1; omega)

/-- The third span in error in a row is a phase loss (R73). -/
theorem spanAt_third (hrun : 2 ≤ b.crank.camRun) :
    spanAt e t b = phaseLoss e t (setCrank { b.crank with spanError := true, camRun := b.crank.camRun + 1 }
      (spanMissing e t b)) := by
  rw [spanAt_end hp]
  unfold closeSpan runAfter; rw [spanMissing_crank h]
  exact if_pos (by show 3 ≤ b.crank.camRun + 1; omega)

end

/-- A phase loss is told to SEG, KNOCK and FRZ as a loss of sync is (R73). -/
theorem phaseLoss_losses :
    (phaseLoss e t b).seg = { b.seg with openSeg := none, ring := (phaseLoss e t b).seg.ring } ∧
      ringSettled b.seg (phaseLoss e t b).seg ∧ (phaseLoss e t b).knock = { b.knock with openWin := none } ∧
      rowsKept b (phaseLoss e t b) ∧ (phaseLoss e t b).rate.header.sync = .crankSync := by
  obtain ⟨hseg, hring⟩ := lossNotices_seg e (setCrank (crankUnphased e.reader b.crank) b)
  have hkept : (phaseLoss e t b).seg = (lossNotices e (setCrank (crankUnphased e.reader b.crank) b)).seg := by
    simp [phaseLoss]
  rw [hkept]
  refine ⟨hseg, hring, by simp [phaseLoss, lossNotices_knock], by simp [rowsKept], ?_⟩
  simp [phaseLoss, setCrank, crankUnphased]

end

/-! ### Teeth in PHASED by their class (R68) -/

theorem gapDue_iff (r : Reader) (q : Nat) : gapDue r q = true ↔ q = lastTooth r ∨ q = fTeethN r + lastTooth r := by
  simp [gapDue]

section
variable {e : Env} {b : Blocks} {t : Stamp} {p : Nat}

/-- CRANK as a NORMAL tooth moves the engine position on. -/
def phasedNormal (t : Stamp) (p : Nat) (c : Crank) : Crank := { acceptNormal t p c with position := c.position + 1 }

/-- The blocks as a GAP has moved the engine position to q. -/
def gapTaken (r : Reader) (t : Stamp) (p q : Nat) (b : Blocks) : Blocks :=
  setCrank { acceptGap r t p b.crank with position := q } b

theorem toothPhased_normal (h : classOfPeriod e.reader p b.crank.pPrev = .normal)
    (hd : ¬ gapDue e.reader b.crank.position = true) :
    toothPhased e t p b = handOn e (b.crank.position + 1) t (setCrank (phasedNormal t p b.crank) b) := by
  unfold toothPhased; rw [h]; exact if_neg hd

theorem toothPhased_gap (h : classOfPeriod e.reader p b.crank.pPrev = .gap)
    (hd : gapDue e.reader b.crank.position = true) {q : Nat} (hq : positionAfterGap e.reader b.crank.position = q) :
    toothPhased e t p b = handOnIfPhased e q t (spanAt e t (gapTaken e.reader t p q b)) := by
  subst hq; unfold toothPhased; rw [h]; exact if_pos hd

/-- A tooth against the wheel in PHASED loses sync (R68). -/
theorem toothPhased_against (h : classOfPeriod e.reader p b.crank.pPrev = .normal ∧
      gapDue e.reader b.crank.position = true ∨
    classOfPeriod e.reader p b.crank.pPrev = .gap ∧ ¬ gapDue e.reader b.crank.position = true ∨
    classOfPeriod e.reader p b.crank.pPrev = .erratic) :
    LosesAt e t b (toothPhased e t p b) := by
  unfold toothPhased
  rcases h with ⟨h, hd⟩ | ⟨h, hd⟩ | h <;> rw [h]
  · exact ⟨_, if_pos hd⟩
  · exact ⟨_, if_neg hd⟩
  · exact toothLoss_losesAt _

theorem toothPhased_glitch (h : classOfPeriod e.reader p b.crank.pPrev = .glitch) :
    toothPhased e t p b = glitchTooth e t b := by unfold toothPhased; rw [h]

theorem handOnIfPhased_phased (h : b.crank.sync = .phased) : handOnIfPhased e p t b = handOn e p t b := if_pos h

theorem handOnIfPhased_unphased (h : b.crank.sync ≠ .phased) : handOnIfPhased e p t b = b := if_neg h

/-- What a loss of sync at a tooth leaves where CRANK was synced (R72). -/
theorem LosesAt.losses {x : Blocks} (h : LosesAt e t b x) (hs : b.crank.sync = .phased) :
    x.crank = crankLost .hunt (some t) b.crank ∧
      x.seg = { b.seg with openSeg := none, ring := x.seg.ring } ∧ ringSettled b.seg x.seg ∧
      x.knock = { b.knock with openWin := none } ∧ rowsKept b x ∧ x.rate.header.sync = .hunt ∧
      x.frz.state ≠ .collecting := by
  obtain ⟨ev, rfl⟩ := h
  obtain ⟨hcrank, hsync, hrows, _⟩ :=
    loseTo_kept (e := e) (ev := ev) (b := b) (c := crankLost .hunt (some t) b.crank)
  obtain ⟨hseg, hring, hknock, hfrz⟩ := loseTo_losses (e := e) (ev := ev) (b := b)
    (c := crankLost .hunt (some t) b.crank) ((synced_iff _).mpr (.inr hs)) SyncState.noConfusion
  exact ⟨hcrank, hseg, hring, hknock, hrows, hsync, hfrz⟩

/-! ### A GAP that is due (R68, R70, R73) -/

/-- The report of a missing edge leaves SEG, KNOCK and the rows. -/
theorem gapTaken_spanMissing_kept (c : Crank) :
    (setCrank c (spanMissing e t (gapTaken e.reader t p 0 b))).seg = b.seg ∧
      (setCrank c (spanMissing e t (gapTaken e.reader t p 0 b))).knock = b.knock ∧
      rowsKept b (setCrank c (spanMissing e t (gapTaken e.reader t p 0 b))) := by
  simp [rowsKept, gapTaken]

section
variable (h : classOfPeriod e.reader p b.crank.pPrev = .gap) (hd : gapDue e.reader b.crank.position = true)
include h hd

/-- Away from engine position 0 a GAP that is due is handed on as it is. -/
theorem toothPhased_gap_inside (hs : b.crank.sync = .phased) {q : Nat}
    (hq : positionAfterGap e.reader b.crank.position = q) (h0 : q ≠ 0) :
    toothPhased e t p b = handOn e q t (gapTaken e.reader t p q b) := by
  rw [toothPhased_gap h hd hq, spanAt_inside (b := gapTaken e.reader t p q b) h0]
  exact handOnIfPhased_phased (b := gapTaken e.reader t p q b) hs

variable (hq : positionAfterGap e.reader b.crank.position = 0)
include hq

theorem toothPhased_gap_good (hs : b.crank.sync = .phased) (hedges : b.crank.spanEdges ≠ 0)
    (herror : b.crank.spanError = false) :
    toothPhased e t p b = handOn e 0 t
      (setCrank { (gapTaken e.reader t p 0 b).crank with camRun := 0, spanEdges := 0 } b) := by
  rw [toothPhased_gap h hd hq, spanAt_good (b := gapTaken e.reader t p 0 b) rfl hedges herror]
  exact handOnIfPhased_phased
    (b := setCrank { (gapTaken e.reader t p 0 b).crank with camRun := 0, spanEdges := 0 } b) hs

variable (hbad : b.crank.spanEdges = 0 ∨ b.crank.spanError = true)
include hbad

theorem toothPhased_gap_error (hs : b.crank.sync = .phased) (hrun : b.crank.camRun < 2) :
    toothPhased e t p b = handOn e 0 t (setCrank (errorCounted (gapTaken e.reader t p 0 b).crank)
      (spanMissing e t (gapTaken e.reader t p 0 b))) := by
  rw [toothPhased_gap h hd hq, spanAt_error (b := gapTaken e.reader t p 0 b) rfl hbad hrun]
  exact handOnIfPhased_phased (b := setCrank (errorCounted (gapTaken e.reader t p 0 b).crank)
    (spanMissing e t (gapTaken e.reader t p 0 b))) hs

theorem toothPhased_gap_third (hrun : 2 ≤ b.crank.camRun) :
    toothPhased e t p b = phaseLoss e t (setCrank
      { (gapTaken e.reader t p 0 b).crank with spanError := true, camRun := b.crank.camRun + 1 }
      (spanMissing e t (gapTaken e.reader t p 0 b))) := by
  rw [toothPhased_gap h hd hq, spanAt_third (b := gapTaken e.reader t p 0 b) rfl hbad hrun]
  refine handOnIfPhased_unphased ?_
  rw [phaseLoss_crank]; exact SyncState.noConfusion

/-- What the blocks hold after a phase loss at a GAP (R73). -/
theorem toothPhased_gap_losesPhase (hrun : 2 ≤ b.crank.camRun) :
    (toothPhased e t p b).crank = { (gapTaken e.reader t p 0 b).crank with
        camRun := 0, spanEdges := 0, spanError := false, unphased := 0, noCam := false, sync := .crankSync } ∧
      (toothPhased e t p b).seg = { b.seg with openSeg := none, ring := (toothPhased e t p b).seg.ring } ∧
      ringSettled b.seg (toothPhased e t p b).seg ∧
      (toothPhased e t p b).knock = { b.knock with openWin := none } ∧ rowsKept b (toothPhased e t p b) ∧
      (toothPhased e t p b).rate.header.sync = .crankSync := by
  rw [toothPhased_gap_third h hd hq hbad hrun]
  obtain ⟨hseg, hknock, hrows⟩ := gapTaken_spanMissing_kept (e := e) (b := b) (t := t) (p := p)
    { (gapTaken e.reader t p 0 b).crank with spanError := true, camRun := b.crank.camRun + 1 }
  obtain ⟨hlseg, hlring, hlknock, hlrows, hlsync⟩ := phaseLoss_losses (e := e) (t := t) (b := setCrank
      { (gapTaken e.reader t p 0 b).crank with spanError := true, camRun := b.crank.camRun + 1 }
      (spanMissing e t (gapTaken e.reader t p 0 b)))
  rw [hseg] at hlseg hlring
  rw [hknock] at hlknock
  refine ⟨?_, hlseg, hlring, hlknock, hrows.trans hlrows, hlsync⟩
  rw [phaseLoss_crank]; simp [crankUnphased, setCrank, gapTaken]

end

end

/-- Settles O43: the tooth by its class and by whether the gap is due; at engine position 0 by the judgement of the
span, whose MISSING reads nothing of CRANK that the judgement changes. -/
theorem phasedTeeth : Obligations.PhasedTeeth := by
  intro s r rest u hq hr ho hf hkind hn hs hp hw c su N m p k due gapTooth taken handed noEdge faulted cycleAt
  have g := crankEvent_granted (f := takeHead) hq hr rfl
  have hhead : takeHead s.env s.blocks = toothPhased s.env r.stamp p (recordTaken rest s.blocks) :=
    (takeHead_tooth hf ho hkind (.inr hn)).trans
      ((tooth_classed (b := recordTaken rest s.blocks) hp hw).trans
        (toothPeriod_phased (b := recordTaken rest s.blocks) hs))
  have hdue : gapDue s.env.reader (recordTaken rest s.blocks).crank.position = true ↔ due := gapDue_iff ..
  have hhanded {q : Nat} {b : Blocks} (hb : takeHead s.env s.blocks = handOn s.env q r.stamp b) :
      (crankEvent takeHead s).blocks.crank = { b.crank with cycle := cycleAtBoundary su q b.crank.cycle } ∧
        handed q b (crankEvent takeHead s) := by
    exact ⟨g.crank.trans ((congrArg Blocks.crank hb).trans handOn_crank), by
      show sameBlocks (handOn s.env q r.stamp b) _
      rw [← hb]; exact g.blocks⟩
  refine ⟨_, exec_toothRecordTake s, g.outside, ?tap, fun hk hd => ?normal, fun hk hd h0 => ?inside,
    fun hk hd h0 hedges herror => ?good, fun hk hd h0 hbad => ⟨fun hrun => ?error, fun hrun => ?third⟩,
    fun hk hl => ?glitch, fun h => ?against⟩
  case tap => rw [g.tap]; exact takeHead_tap hf ho
  case normal =>
    exact hhanded (hhead.trans
      (toothPhased_normal (e := s.env) (b := recordTaken rest s.blocks) hk (mt hdue.mp hd)))
  case inside =>
    exact hhanded (hhead.trans
      (toothPhased_gap_inside (e := s.env) (b := recordTaken rest s.blocks) hk (hdue.mpr hd) hs rfl h0))
  case good =>
    exact hhanded (hhead.trans
      (toothPhased_gap_good (e := s.env) (b := recordTaken rest s.blocks) hk (hdue.mpr hd) h0 hs hedges herror))
  case error =>
    intro next
    have hx := hhead.trans
      (toothPhased_gap_error (e := s.env) (b := recordTaken rest s.blocks) hk (hdue.mpr hd) h0 hbad hs hrun)
    refine ⟨(hhanded hx).1, fun herror => ?_, fun herror => ?_⟩
    · rw [spanMissing_reported (b := gapTaken s.env.reader r.stamp p 0 (recordTaken rest s.blocks))
        (.inr herror)] at hx
      exact (hhanded hx).2
    · have hedges : c.spanEdges = 0 := hbad.resolve_right (by simp [herror])
      rw [spanMissing_noEdge (b := gapTaken s.env.reader r.stamp p 0 (recordTaken rest s.blocks))
        hedges herror] at hx
      exact (hhanded hx).2
  case third =>
    obtain ⟨hcrank, hseg, hring, hknock, hrows, hsync⟩ := toothPhased_gap_losesPhase (e := s.env) (t := r.stamp)
      (b := recordTaken rest s.blocks) hk (hdue.mpr hd) h0 hbad hrun
    rw [← hhead] at hcrank hseg hring hknock hrows hsync
    rw [g.crank, g.seg, g.knock, g.rate]
    exact ⟨hcrank, hseg, hring, hknock, g.rowsKept hrows, hsync⟩
  case glitch =>
    have hx := hhead.trans
      ((toothPhased_glitch (e := s.env) (b := recordTaken rest s.blocks) hk).trans
        (glitchTooth_counted (e := s.env) (b := recordTaken rest s.blocks) hl))
    refine ⟨?_, ?_, ?_, g.rowsKept ?_⟩
    · rw [g.crank, hx]; rfl
    · rw [g.seg, hx]; rfl
    · rw [g.knock, hx]; rfl
    · rw [hx]; exact ⟨rfl, rfl, rfl⟩
  case against =>
    have hloses : LosesAt s.env r.stamp (recordTaken rest s.blocks) (takeHead s.env s.blocks) := by
      rw [hhead]
      rcases h with ⟨hk, hd⟩ | ⟨hk, hd⟩ | hk | ⟨hk, hl⟩
      · exact toothPhased_against (e := s.env) (b := recordTaken rest s.blocks) (.inl ⟨hk, hdue.mpr hd⟩)
      · exact toothPhased_against (e := s.env) (b := recordTaken rest s.blocks) (.inr (.inl ⟨hk, mt hdue.mp hd⟩))
      · exact toothPhased_against (e := s.env) (b := recordTaken rest s.blocks) (.inr (.inr hk))
      · rw [toothPhased_glitch (e := s.env) (b := recordTaken rest s.blocks) hk,
          glitchTooth_lost (e := s.env) (b := recordTaken rest s.blocks) hl]
        exact lossOfSync_losesAt _ _
    obtain ⟨hcrank, hseg, hring, hknock, hrows, hsync, hfrz⟩ := hloses.losses hs
    rw [g.crank, g.seg, g.knock, g.rate, g.frz]
    exact ⟨hcrank, hseg, hring, hknock, g.rowsKept hrows, hsync, hfrz⟩

end Sys2Proof.Machine
end
